-- ==== Sys2Proof/Word.lean ====
section
/-! DEFINITION. Word.lean: the byte, the unit of every port frame and of every display bus transfer
(chapter 11). -/

namespace Sys2Proof

/-- One byte on a port or on the display bus. -/
abbrev Byte := BitVec 8

end Sys2Proof
end

