-- ==== Sys2Proof/Config.lean ====
section
/-! DEFINITION. Config.lean: the values the spec leaves open. Each is a constant with no body, so that
no proof can rest on its value; `Machine.State.draws` supplies a fresh argument at each use. -/

namespace Sys2Proof

/-- The random source of the backoff draw (R115): the scheduler reduces it modulo 2^k, so that the
draw lies in the range the rule gives. Free value, log 6. -/
opaque Config.backoffDraw : Nat → Nat

/-- How many more empty frames run, back to back and without an end, before the next command (R149, R155).
Free value, log 9. -/
opaque Config.emptyFrames : Nat → Nat

/-- Whether the data line is low at the line test of a back-to-back frame that no command's operand tells
of (R149, R157). Free value, log 9. -/
opaque Config.dataLowAtDueStart : Nat → Bool

/-- What STATUS reports as the next sequence number once sequence 4,294,967,295 has been appended
(R101 gives no number). Free value, log 13. -/
opaque Config.nextSequenceWhenExhausted : Nat

end Sys2Proof
end

