-- ==== Sys2Proof/Syntax.lean ====
section
/-! DEFINITION. Syntax.lean: the commands of the HS-240, one constructor of `Instr` for each row of
spec/opcode_table.json, with the operands each command carries from outside the part. -/

namespace Sys2Proof

/-- The three SPI slave ports (chapter 10). -/
inductive Port where
  | terminal
  | link
  | service
deriving DecidableEq, Repr

/-- The two rail treadles (2.4). -/
inductive TreadleId where
  | ta
  | tb
deriving DecidableEq, Repr

/-- The display data line as a line test finds it (R157). -/
inductive DataLine where
  | released
  | low
deriving DecidableEq, Repr

/-- The display clock line as RECOVER finds it (R161). -/
inductive ClockLine where
  | released
  | low
deriving DecidableEq, Repr

/-- The result of a recovery sequence, judged by the data line at its end (R157). -/
inductive RecoveryResult where
  | released
  | held
deriving DecidableEq, Repr

/-- How a display bus transaction ended with its stop (R144). `done` carries the two bytes that a
READ_STATUS received (11.3): the status code and its check byte; a write receives none and the two
bytes are not read. -/
inductive TransactionEnd where
  | done (status check : Byte)
  | noAck
deriving DecidableEq, Repr

/-- The defined request codes (11.1, "Request codes and body lengths"). -/
inductive ReqCode where
  | timeSet | ttBegin | ttCalls | ttEnd | svcUpdate
  | quote | issue | void | loadBegin | loadEnd
  | fareRangeWrite | farePriceWrite | fareParamWrite | fareConcessionWrite | farePeakWrite
  | rvlWrite | rvlClearAll | stockAdd
  | batchTake | batchAck | batchFail | linkResume
  | panelConfig | displayControl | supplyLevels | treadleMode | salesSuspend | salesResume
  | setRights | portReset
  | status | listCalls | fareRead | rvlRead | readCounters | readNotices
deriving DecidableEq, Repr

/-- A request's body as it arrived: its fields, in the widths of 11.1, or the bytes of a body that is
not laid out as the row's fields (a length the code does not allow, a record count that disagrees
with the length, R203; a selector byte no row defines, R23 and R146). -/
inductive Body (α : Type) where
  | fields (f : α)
  | raw (bytes : List Byte)
deriving DecidableEq, Repr

/-- A body of no bytes. -/
structure NoFields where
deriving DecidableEq, Repr

/-- TIME_SET (R5). -/
structure TimeSetBody where
  day : BitVec 16
  kind : Byte
  second : BitVec 24
deriving DecidableEq, Repr

/-- TT_BEGIN (R16). -/
structure TtBeginBody where
  day : BitVec 16
  kind : Byte
  version : BitVec 16
  count : Byte
deriving DecidableEq, Repr

/-- One call record of TT_CALLS (R17, 11.1). -/
structure CallRecord where
  service : BitVec 16
  direction : Byte
  scheduled : BitVec 16
  destination : Byte
deriving DecidableEq, Repr

/-- TT_CALLS (R17); the number of records is the list's length. -/
structure TtCallsBody where
  first : Byte
  records : List CallRecord
deriving DecidableEq, Repr

/-- SVC_UPDATE of kind DELAY (R23, R24). -/
structure SvcDelayBody where
  table : Byte
  service : BitVec 16
  delay : BitVec 16
  allowance : Byte
deriving DecidableEq, Repr

/-- SVC_UPDATE of the other kinds, whose D and R are ignored (11.1). -/
structure SvcCallBody where
  table : Byte
  service : BitVec 16
deriving DecidableEq, Repr

/-- QUOTE (3.3, 11.1). -/
structure QuoteBody where
  destination : BitVec 16
  ticket : Byte
  adults : Byte
  children : Byte
  concession : Byte
  cardPresent : Byte
  card : BitVec 40
  targetPresent : Byte
  table : Byte
  service : BitVec 16
deriving DecidableEq, Repr

/-- ISSUE (R80). -/
structure IssueBody where
  number : Byte
deriving DecidableEq, Repr

/-- VOID (R87). -/
structure VoidBody where
  serial : BitVec 32
deriving DecidableEq, Repr

/-- FARE_RANGE_WRITE (R49). -/
structure FareRangeBody where
  index : Byte
  valid : Byte
  first : BitVec 16
  last : BitVec 16
  distance : Byte
deriving DecidableEq, Repr

/-- FARE_PRICE_WRITE (R51); the number of prices is the list's length. -/
structure FarePriceBody where
  first : Byte
  prices : List (BitVec 24)
deriving DecidableEq, Repr

/-- FARE_PARAM_WRITE (R53). -/
structure FareParamBody where
  returnPercent : Byte
  offPeakPercent : Byte
  childPercent : Byte
  step : Byte
  capMultiple : Byte
deriving DecidableEq, Repr

/-- FARE_CONCESSION_WRITE (R54). -/
structure FareConcessionBody where
  cls : Byte
  discount : Byte
  appliesTo : Byte
deriving DecidableEq, Repr

/-- FARE_PEAK_WRITE (R55). -/
structure FarePeakBody where
  index : Byte
  start : BitVec 16
  stop : BitVec 16
deriving DecidableEq, Repr

/-- RVL_WRITE (R95). -/
structure RvlWriteBody where
  index : Byte
  valid : Byte
  card : BitVec 40
  ignore : Byte
deriving DecidableEq, Repr

/-- STOCK_ADD (R89). -/
structure StockAddBody where
  first : BitVec 32
  last : BitVec 32
deriving DecidableEq, Repr

/-- BATCH_TAKE (R106). -/
structure BatchTakeBody where
  maximum : Byte
deriving DecidableEq, Repr

/-- BATCH_ACK and BATCH_FAIL (R108, R109). -/
structure BatchIdBody where
  id : BitVec 16
deriving DecidableEq, Repr

/-- PANEL_CONFIG, panel form, addresses other than 0 (R125). -/
structure PanelConfigBody where
  address : Byte
  configured : Byte
  directions : Byte
  rows : Byte
  brightness : Byte
deriving DecidableEq, Repr

/-- PANEL_CONFIG, group form, address 0 (R126). -/
structure PanelGroupBody where
  sleepAfter : Byte
deriving DecidableEq, Repr

/-- DISPLAY_CONTROL, form PACING (R147). -/
structure DisplayPacingBody where
  pacing : Byte
  polarity : Byte
  interval : Byte
deriving DecidableEq, Repr

/-- DISPLAY_CONTROL, form FRAME_COUNT (R156). -/
structure FrameCountBody where
  count : Byte
deriving DecidableEq, Repr

/-- DISPLAY_CONTROL, form AUTO_RECOVERY (R146). -/
structure AutoRecoveryBody where
  setting : Byte
deriving DecidableEq, Repr

/-- SUPPLY_LEVELS (R168). -/
structure SupplyLevelsBody where
  economy : Byte
  reserve : Byte
deriving DecidableEq, Repr

/-- TREADLE_MODE (R34). -/
structure TreadleModeBody where
  mode : Byte
deriving DecidableEq, Repr

/-- SET_RIGHTS (R194). -/
structure SetRightsBody where
  port : Byte
  rights : Byte
deriving DecidableEq, Repr

/-- PORT_RESET (R197). -/
structure PortResetBody where
  port : Byte
deriving DecidableEq, Repr

/-- STATUS (R199). -/
structure StatusBody where
  statusSection : Byte
deriving DecidableEq, Repr

/-- LIST_CALLS (R200) and FARE_READ (R56): a table, a first index and a count. -/
structure TableRunBody where
  table : Byte
  first : Byte
  count : Byte
deriving DecidableEq, Repr

/-- RVL_READ (R96). -/
structure RunBody where
  first : Byte
  count : Byte
deriving DecidableEq, Repr

/-- READ_COUNTERS (R182). -/
structure ReadCountersBody where
  first : Byte
  count : Byte
  reset : Byte
deriving DecidableEq, Repr

/-- READ_NOTICES (R196): the acknowledge list as a notice set. -/
structure ReadNoticesBody where
  acknowledge : BitVec 16
deriving DecidableEq, Repr

/-- The commands: requests on a port, transfers and lines of a port, timer expiries, field inputs,
display bus events and starts. A command that can begin a display transaction also carries the
level of the display line tested in that step (R157, R161; log 5). Where several rows share one request
code, a frame that fits none of them is carried by one of them: SVC_UPDATE frames of a wrong length or
an unknown kind by `svcUpdateDelay`, PANEL_CONFIG frames of a wrong length by `panelConfig`,
DISPLAY_CONTROL frames of a wrong length or an unknown form by `displayAutoRecovery` (log 22). -/
inductive Instr where
  -- Timetable and station clock
  | timeSet (p : Port) (b : Body TimeSetBody)
  | ttBegin (p : Port) (b : Body TtBeginBody)
  | ttCalls (p : Port) (b : Body TtCallsBody)
  | ttEnd (p : Port) (b : Body NoFields)
  | svcUpdateDelay (p : Port) (b : Body SvcDelayBody)
  | svcUpdateClearDelay (p : Port) (f : SvcCallBody)
  | svcUpdateCancel (p : Port) (f : SvcCallBody)
  | svcUpdateReinstate (p : Port) (f : SvcCallBody)
  -- Sales and print loads
  | quote (p : Port) (b : Body QuoteBody)
  | issue (p : Port) (b : Body IssueBody)
  | void (p : Port) (b : Body VoidBody)
  | loadBegin (p : Port) (b : Body NoFields)
  | loadEnd (p : Port) (b : Body NoFields)
  -- Tables
  | fareRangeWrite (p : Port) (b : Body FareRangeBody)
  | farePriceWrite (p : Port) (b : Body FarePriceBody)
  | fareParamWrite (p : Port) (b : Body FareParamBody)
  | fareConcessionWrite (p : Port) (b : Body FareConcessionBody)
  | farePeakWrite (p : Port) (b : Body FarePeakBody)
  | rvlWrite (p : Port) (b : Body RvlWriteBody)
  | rvlClearAll (p : Port) (b : Body NoFields)
  | stockAdd (p : Port) (b : Body StockAddBody)
  -- Journal
  | batchTake (p : Port) (b : Body BatchTakeBody)
  | batchAck (p : Port) (b : Body BatchIdBody)
  | batchFail (p : Port) (b : Body BatchIdBody)
  | linkResume (p : Port) (b : Body NoFields)
  -- Configuration
  | panelConfig (p : Port) (b : Body PanelConfigBody)
  | panelConfigGroup (p : Port) (f : PanelGroupBody)
  | displayStart (p : Port) (line : DataLine)
  | displayStop (p : Port)
  | displayRecover (p : Port) (line : ClockLine)
  | displayPacing (p : Port) (f : DisplayPacingBody) (line : DataLine)
  | displayFrameCount (p : Port) (f : FrameCountBody)
  | displayAutoRecovery (p : Port) (b : Body AutoRecoveryBody)
  | supplyLevels (p : Port) (b : Body SupplyLevelsBody)
  | treadleMode (p : Port) (b : Body TreadleModeBody)
  | salesSuspend (p : Port) (b : Body NoFields)
  | salesResume (p : Port) (b : Body NoFields)
  | setRights (p : Port) (b : Body SetRightsBody)
  | portReset (p : Port) (b : Body PortResetBody)
  -- Reads
  | status (p : Port) (b : Body StatusBody)
  | listCalls (p : Port) (b : Body TableRunBody)
  | fareRead (p : Port) (b : Body TableRunBody)
  | rvlRead (p : Port) (b : Body RunBody)
  | readCounters (p : Port) (b : Body ReadCountersBody)
  | readNotices (p : Port) (b : Body ReadNoticesBody)
  -- Port transfers and port reset lines
  | unknownRequest (p : Port) (code : Byte) (body : List Byte)
  | frameCut (p : Port) (received : List Byte)
  | replyRead (p : Port) (clocked : Nat)
  | portResetLineActive (p : Port)
  | portResetLineInactive (p : Port)
  | portResetLineFirstAcceptance (p : Port) (active : Bool)
  -- Time
  | clockSecond
  | stagingIdleTimeout
  | passageClose
  | quoteExpiry (p : Port)
  | voidWindowExpiry (p : Port)
  | terminalSilenceExpiry
  | batchTimeout
  | waitExpiry
  | presenceIdleExpiry
  | frameTimerExpiry (line : DataLine)
  | probeTimerExpiry (panel : Fin 8)
  | sample (millivolts : Nat) (line : DataLine)
  | loadPeriodTimeout
  -- Field inputs
  | treadleRisingEdge (t : TreadleId)
  | treadleFallingEdge (t : TreadleId)
  | treadleFirstAcceptance (t : TreadleId) (pressed : Bool)
  | presenceEdge (occupied : Bool)
  | presenceFirstAcceptance (occupied : Bool)
  | triggerEdge (high : Bool) (line : DataLine)
  | triggerFirstAcceptance (high : Bool)
  -- Display bus
  | transactionEnd (e : TransactionEnd) (line : DataLine)
  | busDisturbed (line : DataLine)
  | stuckClock
  | recoveryEndAuto (r : RecoveryResult) (line : DataLine)
  | recoveryEndManual (r : RecoveryResult) (line : DataLine)
  -- Starts and the core supply
  | coldStart
  | warmStart (line : DataLine)
  | coreSupplyDip
deriving DecidableEq, Repr

end Sys2Proof
end

