-- ==== Sys2Proof/Decode.lean ====
section
/-! DEFINITION. Decode.lean: the request frames of chapter 11, from bytes to commands and back
(`decodeFrame`, `encodeFrame`), with the body length check of R203 (`ReqCode.fits`); and the host's
`decodeTableWord`, which answers none, since spec/opcode_table.json gives no row any bits. -/

namespace Sys2Proof

/-! ## Bytes: multi-byte fields are least significant byte first (chapter 11) -/

/-- A 2-byte field from its bytes, least significant first. -/
def word16 (b0 b1 : Byte) : BitVec 16 := b1 ++ b0

/-- A 3-byte field from its bytes, least significant first. -/
def word24 (b0 b1 b2 : Byte) : BitVec 24 := b2 ++ b1 ++ b0

/-- A 4-byte field from its bytes, least significant first. -/
def word32 (b0 b1 b2 b3 : Byte) : BitVec 32 := b3 ++ b2 ++ b1 ++ b0

/-- A 5-byte field from its bytes, least significant first. -/
def word40 (b0 b1 b2 b3 b4 : Byte) : BitVec 40 := b4 ++ b3 ++ b2 ++ b1 ++ b0

/-- Byte `i` of a field, byte 0 the least significant. -/
def byteAt {w : Nat} (x : BitVec w) (i : Nat) : Byte := x.extractLsb' (8 * i) 8

/-- The bytes of a 2-byte field. -/
def bytes16 (x : BitVec 16) : List Byte := [byteAt x 0, byteAt x 1]

/-- The bytes of a 3-byte field. -/
def bytes24 (x : BitVec 24) : List Byte := [byteAt x 0, byteAt x 1, byteAt x 2]

/-- The bytes of a 4-byte field. -/
def bytes32 (x : BitVec 32) : List Byte := [byteAt x 0, byteAt x 1, byteAt x 2, byteAt x 3]

/-- The bytes of a 5-byte field. -/
def bytes40 (x : BitVec 40) : List Byte :=
  [byteAt x 0, byteAt x 1, byteAt x 2, byteAt x 3, byteAt x 4]

/-! ## Request codes and body lengths (11.1) -/

/-- The code byte of each request (11.1). -/
def ReqCode.byte : ReqCode → Byte
  | .timeSet => 0x01
  | .ttBegin => 0x02
  | .ttCalls => 0x03
  | .ttEnd => 0x04
  | .svcUpdate => 0x05
  | .quote => 0x10
  | .issue => 0x11
  | .void => 0x12
  | .loadBegin => 0x13
  | .loadEnd => 0x14
  | .fareRangeWrite => 0x20
  | .farePriceWrite => 0x21
  | .fareParamWrite => 0x22
  | .fareConcessionWrite => 0x23
  | .farePeakWrite => 0x24
  | .rvlWrite => 0x25
  | .rvlClearAll => 0x26
  | .stockAdd => 0x27
  | .batchTake => 0x30
  | .batchAck => 0x31
  | .batchFail => 0x32
  | .linkResume => 0x33
  | .panelConfig => 0x40
  | .displayControl => 0x41
  | .supplyLevels => 0x42
  | .treadleMode => 0x43
  | .salesSuspend => 0x44
  | .salesResume => 0x45
  | .setRights => 0x46
  | .portReset => 0x47
  | .status => 0x50
  | .listCalls => 0x51
  | .fareRead => 0x52
  | .rvlRead => 0x53
  | .readCounters => 0x54
  | .readNotices => 0x55

/-- Every defined request code. -/
def ReqCode.all : List ReqCode :=
  [.timeSet, .ttBegin, .ttCalls, .ttEnd, .svcUpdate, .quote, .issue, .void, .loadBegin, .loadEnd,
   .fareRangeWrite, .farePriceWrite, .fareParamWrite, .fareConcessionWrite, .farePeakWrite, .rvlWrite,
   .rvlClearAll, .stockAdd, .batchTake, .batchAck, .batchFail, .linkResume, .panelConfig,
   .displayControl, .supplyLevels, .treadleMode, .salesSuspend, .salesResume, .setRights, .portReset,
   .status, .listCalls, .fareRead, .rvlRead, .readCounters, .readNotices]

/-- The request a code byte names, if the part defines it (R189, first check). -/
def ReqCode.ofByte (b : Byte) : Option ReqCode := ReqCode.all.find? (fun c => c.byte = b)

/-- The body length of each request whose length is fixed; `none` for the two whose length follows the
count in the body's second byte (11.1). -/
def ReqCode.fixedLength : ReqCode → Option Nat
  | .timeSet => some 6
  | .ttBegin => some 6
  | .ttCalls => none
  | .ttEnd => some 0
  | .svcUpdate => some 7
  | .quote => some 16
  | .issue => some 1
  | .void => some 4
  | .loadBegin => some 0
  | .loadEnd => some 0
  | .fareRangeWrite => some 7
  | .farePriceWrite => none
  | .fareParamWrite => some 5
  | .fareConcessionWrite => some 3
  | .farePeakWrite => some 5
  | .rvlWrite => some 8
  | .rvlClearAll => some 0
  | .stockAdd => some 8
  | .batchTake => some 1
  | .batchAck => some 2
  | .batchFail => some 2
  | .linkResume => some 0
  | .panelConfig => some 5
  | .displayControl => some 4
  | .supplyLevels => some 2
  | .treadleMode => some 1
  | .salesSuspend => some 0
  | .salesResume => some 0
  | .setRights => some 2
  | .portReset => some 1
  | .status => some 1
  | .listCalls => some 3
  | .fareRead => some 3
  | .rvlRead => some 2
  | .readCounters => some 3
  | .readNotices => some 2

/-- Whether a body has a length its request code allows (R203): for TT_CALLS and FARE_PRICE_WRITE the
count in the second byte lies in its range and gives the length. -/
def ReqCode.fits (c : ReqCode) (body : List Byte) : Bool :=
  match c.fixedLength with
  | some n => body.length = n
  | none =>
    match body with
    | _ :: k :: _ =>
      if c = .ttCalls then
        decide (1 ≤ k.toNat ∧ k.toNat ≤ 12 ∧ body.length = 2 + 6 * k.toNat)
      else
        decide (1 ≤ k.toNat ∧ k.toNat ≤ 15 ∧ body.length = 2 + 3 * k.toNat)
    | _ => false

/-! ## Bodies: reading and writing the fields, in the order of the rules (11.1) -/

/-- A body read with `read`, or kept raw where it does not fit. -/
def Body.ofBytes {α : Type} (read : List Byte → Option α) (bytes : List Byte) : Body α :=
  match read bytes with
  | some f => .fields f
  | none => .raw bytes

/-- The bytes of a body, its fields written with `write`. -/
def Body.bytes {α : Type} (write : α → List Byte) : Body α → List Byte
  | .fields f => write f
  | .raw bytes => bytes

def readNoFields : List Byte → Option NoFields
  | [] => some {}
  | _ => none

def writeNoFields (_ : NoFields) : List Byte := []

def readTimeSet : List Byte → Option TimeSetBody
  | [d0, d1, k, s0, s1, s2] => some ⟨word16 d0 d1, k, word24 s0 s1 s2⟩
  | _ => none

def writeTimeSet (f : TimeSetBody) : List Byte := bytes16 f.day ++ [f.kind] ++ bytes24 f.second

def readTtBegin : List Byte → Option TtBeginBody
  | [d0, d1, k, v0, v1, n] => some ⟨word16 d0 d1, k, word16 v0 v1, n⟩
  | _ => none

def writeTtBegin (f : TtBeginBody) : List Byte :=
  bytes16 f.day ++ [f.kind] ++ bytes16 f.version ++ [f.count]

/-- A run of 6-byte call records. -/
def readRecords : List Byte → Option (List CallRecord)
  | [] => some []
  | s0 :: s1 :: d :: m0 :: m1 :: t :: rest =>
    (readRecords rest).map (fun rs => ⟨word16 s0 s1, d, word16 m0 m1, t⟩ :: rs)
  | _ => none

def writeRecord (r : CallRecord) : List Byte :=
  bytes16 r.service ++ [r.direction] ++ bytes16 r.scheduled ++ [r.destination]

def readTtCalls (bytes : List Byte) : Option TtCallsBody :=
  if ReqCode.fits .ttCalls bytes then
    match bytes with
    | first :: _ :: rest => (readRecords rest).map (fun rs => ⟨first, rs⟩)
    | _ => none
  else none

def writeTtCalls (f : TtCallsBody) : List Byte :=
  f.first :: BitVec.ofNat 8 f.records.length :: f.records.flatMap writeRecord

def readQuote : List Byte → Option QuoteBody
  | [d0, d1, t, a, c, k, cp, c0, c1, c2, c3, c4, tp, tb, s0, s1] =>
    some ⟨word16 d0 d1, t, a, c, k, cp, word40 c0 c1 c2 c3 c4, tp, tb, word16 s0 s1⟩
  | _ => none

def writeQuote (f : QuoteBody) : List Byte :=
  bytes16 f.destination ++ [f.ticket, f.adults, f.children, f.concession, f.cardPresent]
    ++ bytes40 f.card ++ [f.targetPresent, f.table] ++ bytes16 f.service

def readIssue : List Byte → Option IssueBody
  | [n] => some ⟨n⟩
  | _ => none

def writeIssue (f : IssueBody) : List Byte := [f.number]

def readVoid : List Byte → Option VoidBody
  | [s0, s1, s2, s3] => some ⟨word32 s0 s1 s2 s3⟩
  | _ => none

def writeVoid (f : VoidBody) : List Byte := bytes32 f.serial

def readFareRange : List Byte → Option FareRangeBody
  | [i, v, f0, f1, l0, l1, d] => some ⟨i, v, word16 f0 f1, word16 l0 l1, d⟩
  | _ => none

def writeFareRange (f : FareRangeBody) : List Byte :=
  [f.index, f.valid] ++ bytes16 f.first ++ bytes16 f.last ++ [f.distance]

/-- A run of 3-byte amounts. -/
def readAmounts : List Byte → Option (List (BitVec 24))
  | [] => some []
  | a0 :: a1 :: a2 :: rest => (readAmounts rest).map (fun as => word24 a0 a1 a2 :: as)
  | _ => none

def readFarePrice (bytes : List Byte) : Option FarePriceBody :=
  if ReqCode.fits .farePriceWrite bytes then
    match bytes with
    | first :: _ :: rest => (readAmounts rest).map (fun ps => ⟨first, ps⟩)
    | _ => none
  else none

def writeFarePrice (f : FarePriceBody) : List Byte :=
  f.first :: BitVec.ofNat 8 f.prices.length :: f.prices.flatMap bytes24

def readFareParam : List Byte → Option FareParamBody
  | [r, o, c, s, g] => some ⟨r, o, c, s, g⟩
  | _ => none

def writeFareParam (f : FareParamBody) : List Byte :=
  [f.returnPercent, f.offPeakPercent, f.childPercent, f.step, f.capMultiple]

def readFareConcession : List Byte → Option FareConcessionBody
  | [c, d, a] => some ⟨c, d, a⟩
  | _ => none

def writeFareConcession (f : FareConcessionBody) : List Byte := [f.cls, f.discount, f.appliesTo]

def readFarePeak : List Byte → Option FarePeakBody
  | [i, s0, s1, e0, e1] => some ⟨i, word16 s0 s1, word16 e0 e1⟩
  | _ => none

def writeFarePeak (f : FarePeakBody) : List Byte := [f.index] ++ bytes16 f.start ++ bytes16 f.stop

def readRvlWrite : List Byte → Option RvlWriteBody
  | [i, v, c0, c1, c2, c3, c4, n] => some ⟨i, v, word40 c0 c1 c2 c3 c4, n⟩
  | _ => none

def writeRvlWrite (f : RvlWriteBody) : List Byte := [f.index, f.valid] ++ bytes40 f.card ++ [f.ignore]

def readStockAdd : List Byte → Option StockAddBody
  | [f0, f1, f2, f3, l0, l1, l2, l3] => some ⟨word32 f0 f1 f2 f3, word32 l0 l1 l2 l3⟩
  | _ => none

def writeStockAdd (f : StockAddBody) : List Byte := bytes32 f.first ++ bytes32 f.last

def readBatchTake : List Byte → Option BatchTakeBody
  | [n] => some ⟨n⟩
  | _ => none

def writeBatchTake (f : BatchTakeBody) : List Byte := [f.maximum]

def readBatchId : List Byte → Option BatchIdBody
  | [b0, b1] => some ⟨word16 b0 b1⟩
  | _ => none

def writeBatchId (f : BatchIdBody) : List Byte := bytes16 f.id

def writePanelConfig (f : PanelConfigBody) : List Byte :=
  [f.address, f.configured, f.directions, f.rows, f.brightness]

/-- The group form: address 0, the setting, and three ignored bytes, sent as 0 (11.1). -/
def writePanelGroup (f : PanelGroupBody) : List Byte := [0, f.sleepAfter, 0, 0, 0]

def readSupplyLevels : List Byte → Option SupplyLevelsBody
  | [e, r] => some ⟨e, r⟩
  | _ => none

def writeSupplyLevels (f : SupplyLevelsBody) : List Byte := [f.economy, f.reserve]

def readTreadleMode : List Byte → Option TreadleModeBody
  | [m] => some ⟨m⟩
  | _ => none

def writeTreadleMode (f : TreadleModeBody) : List Byte := [f.mode]

def readSetRights : List Byte → Option SetRightsBody
  | [p, r] => some ⟨p, r⟩
  | _ => none

def writeSetRights (f : SetRightsBody) : List Byte := [f.port, f.rights]

def readPortReset : List Byte → Option PortResetBody
  | [p] => some ⟨p⟩
  | _ => none

def writePortReset (f : PortResetBody) : List Byte := [f.port]

def readStatus : List Byte → Option StatusBody
  | [x] => some ⟨x⟩
  | _ => none

def writeStatus (f : StatusBody) : List Byte := [f.statusSection]

def readTableRun : List Byte → Option TableRunBody
  | [t, a, n] => some ⟨t, a, n⟩
  | _ => none

def writeTableRun (f : TableRunBody) : List Byte := [f.table, f.first, f.count]

def readRun : List Byte → Option RunBody
  | [a, n] => some ⟨a, n⟩
  | _ => none

def writeRun (f : RunBody) : List Byte := [f.first, f.count]

def readReadCounters : List Byte → Option ReadCountersBody
  | [a, n, r] => some ⟨a, n, r⟩
  | _ => none

def writeReadCounters (f : ReadCountersBody) : List Byte := [f.first, f.count, f.reset]

def readReadNotices : List Byte → Option ReadNoticesBody
  | [a0, a1] => some ⟨word16 a0 a1⟩
  | _ => none

def writeReadNotices (f : ReadNoticesBody) : List Byte := bytes16 f.acknowledge

/-! ### The requests that several rows share -/

/-- The kind byte of SVC_UPDATE (11.1): DELAY 0, CLEAR_DELAY 1, CANCEL 2, REINSTATE 3. -/
def writeSvcUpdate (table : Byte) (service : BitVec 16) (kind : Byte) (delay : BitVec 16)
    (allowance : Byte) : List Byte :=
  [table] ++ bytes16 service ++ [kind] ++ bytes16 delay ++ [allowance]

def writeSvcDelay (f : SvcDelayBody) : List Byte :=
  writeSvcUpdate f.table f.service 0 f.delay f.allowance

def writeSvcClearDelay (f : SvcCallBody) : List Byte := writeSvcUpdate f.table f.service 1 0 0

def writeSvcCancel (f : SvcCallBody) : List Byte := writeSvcUpdate f.table f.service 2 0 0

def writeSvcReinstate (f : SvcCallBody) : List Byte := writeSvcUpdate f.table f.service 3 0 0

/-- SVC_UPDATE by its kind byte; what fits no row stays raw. -/
def decodeSvcUpdate (p : Port) (body : List Byte) : Instr :=
  match body with
  | [t, s0, s1, k, d0, d1, r] =>
    if k = 0 then .svcUpdateDelay p (.fields ⟨t, word16 s0 s1, word16 d0 d1, r⟩)
    else if k = 1 then .svcUpdateClearDelay p ⟨t, word16 s0 s1⟩
    else if k = 2 then .svcUpdateCancel p ⟨t, word16 s0 s1⟩
    else if k = 3 then .svcUpdateReinstate p ⟨t, word16 s0 s1⟩
    else .svcUpdateDelay p (.raw body)
  | _ => .svcUpdateDelay p (.raw body)

/-- PANEL_CONFIG by its address byte: 0 is the group form (R125). -/
def decodePanelConfig (p : Port) (body : List Byte) : Instr :=
  match body with
  | [a, c, d, r, b] =>
    if a = 0 then .panelConfigGroup p ⟨c⟩ else .panelConfig p (.fields ⟨a, c, d, r, b⟩)
  | _ => .panelConfig p (.raw body)

def writeDisplayStart : List Byte := [0, 0, 0, 0]

def writeDisplayStop : List Byte := [1, 0, 0, 0]

def writeDisplayRecover : List Byte := [2, 0, 0, 0]

def writeDisplayPacing (f : DisplayPacingBody) : List Byte := [3, f.pacing, f.polarity, f.interval]

def writeFrameCount (f : FrameCountBody) : List Byte := [4, f.count, 0, 0]

def writeAutoRecovery (f : AutoRecoveryBody) : List Byte := [5, f.setting, 0, 0]

/-- DISPLAY_CONTROL by its form byte (11.1); the lines are those the step's test finds. -/
def decodeDisplayControl (p : Port) (body : List Byte) (data : DataLine) (clk : ClockLine) : Instr :=
  match body with
  | [f, a, b, c] =>
    if f = 0 then .displayStart p data
    else if f = 1 then .displayStop p
    else if f = 2 then .displayRecover p clk
    else if f = 3 then .displayPacing p ⟨a, b, c⟩ data
    else if f = 4 then .displayFrameCount p ⟨a⟩
    else if f = 5 then .displayAutoRecovery p (.fields ⟨a⟩)
    else .displayAutoRecovery p (.raw body)
  | _ => .displayAutoRecovery p (.raw body)

/-! ## Frames -/

/-- The command that a complete request frame of a given code and body is, on port `p` (R188, 11.1).
`data` and `clk` are the display lines as a test made in the same step finds them. -/
def decodeFrame (p : Port) (code : Byte) (body : List Byte) (data : DataLine) (clk : ClockLine) :
    Instr :=
  match ReqCode.ofByte code with
  | none => .unknownRequest p code body
  | some .timeSet => .timeSet p (.ofBytes readTimeSet body)
  | some .ttBegin => .ttBegin p (.ofBytes readTtBegin body)
  | some .ttCalls => .ttCalls p (.ofBytes readTtCalls body)
  | some .ttEnd => .ttEnd p (.ofBytes readNoFields body)
  | some .svcUpdate => decodeSvcUpdate p body
  | some .quote => .quote p (.ofBytes readQuote body)
  | some .issue => .issue p (.ofBytes readIssue body)
  | some .void => .void p (.ofBytes readVoid body)
  | some .loadBegin => .loadBegin p (.ofBytes readNoFields body)
  | some .loadEnd => .loadEnd p (.ofBytes readNoFields body)
  | some .fareRangeWrite => .fareRangeWrite p (.ofBytes readFareRange body)
  | some .farePriceWrite => .farePriceWrite p (.ofBytes readFarePrice body)
  | some .fareParamWrite => .fareParamWrite p (.ofBytes readFareParam body)
  | some .fareConcessionWrite => .fareConcessionWrite p (.ofBytes readFareConcession body)
  | some .farePeakWrite => .farePeakWrite p (.ofBytes readFarePeak body)
  | some .rvlWrite => .rvlWrite p (.ofBytes readRvlWrite body)
  | some .rvlClearAll => .rvlClearAll p (.ofBytes readNoFields body)
  | some .stockAdd => .stockAdd p (.ofBytes readStockAdd body)
  | some .batchTake => .batchTake p (.ofBytes readBatchTake body)
  | some .batchAck => .batchAck p (.ofBytes readBatchId body)
  | some .batchFail => .batchFail p (.ofBytes readBatchId body)
  | some .linkResume => .linkResume p (.ofBytes readNoFields body)
  | some .panelConfig => decodePanelConfig p body
  | some .displayControl => decodeDisplayControl p body data clk
  | some .supplyLevels => .supplyLevels p (.ofBytes readSupplyLevels body)
  | some .treadleMode => .treadleMode p (.ofBytes readTreadleMode body)
  | some .salesSuspend => .salesSuspend p (.ofBytes readNoFields body)
  | some .salesResume => .salesResume p (.ofBytes readNoFields body)
  | some .setRights => .setRights p (.ofBytes readSetRights body)
  | some .portReset => .portReset p (.ofBytes readPortReset body)
  | some .status => .status p (.ofBytes readStatus body)
  | some .listCalls => .listCalls p (.ofBytes readTableRun body)
  | some .fareRead => .fareRead p (.ofBytes readTableRun body)
  | some .rvlRead => .rvlRead p (.ofBytes readRun body)
  | some .readCounters => .readCounters p (.ofBytes readReadCounters body)
  | some .readNotices => .readNotices p (.ofBytes readReadNotices body)

/-- A request frame on a port: its code and body (the length byte is one more than the body's length). -/
structure PortFrame where
  port : Port
  code : Byte
  body : List Byte
deriving DecidableEq, Repr

/-- The request frame a command arrives as, for the commands that are request frames. -/
def encodeFrame : Instr → Option PortFrame
  | .timeSet p b => some ⟨p, ReqCode.timeSet.byte, b.bytes writeTimeSet⟩
  | .ttBegin p b => some ⟨p, ReqCode.ttBegin.byte, b.bytes writeTtBegin⟩
  | .ttCalls p b => some ⟨p, ReqCode.ttCalls.byte, b.bytes writeTtCalls⟩
  | .ttEnd p b => some ⟨p, ReqCode.ttEnd.byte, b.bytes writeNoFields⟩
  | .svcUpdateDelay p b => some ⟨p, ReqCode.svcUpdate.byte, b.bytes writeSvcDelay⟩
  | .svcUpdateClearDelay p f => some ⟨p, ReqCode.svcUpdate.byte, writeSvcClearDelay f⟩
  | .svcUpdateCancel p f => some ⟨p, ReqCode.svcUpdate.byte, writeSvcCancel f⟩
  | .svcUpdateReinstate p f => some ⟨p, ReqCode.svcUpdate.byte, writeSvcReinstate f⟩
  | .quote p b => some ⟨p, ReqCode.quote.byte, b.bytes writeQuote⟩
  | .issue p b => some ⟨p, ReqCode.issue.byte, b.bytes writeIssue⟩
  | .void p b => some ⟨p, ReqCode.void.byte, b.bytes writeVoid⟩
  | .loadBegin p b => some ⟨p, ReqCode.loadBegin.byte, b.bytes writeNoFields⟩
  | .loadEnd p b => some ⟨p, ReqCode.loadEnd.byte, b.bytes writeNoFields⟩
  | .fareRangeWrite p b => some ⟨p, ReqCode.fareRangeWrite.byte, b.bytes writeFareRange⟩
  | .farePriceWrite p b => some ⟨p, ReqCode.farePriceWrite.byte, b.bytes writeFarePrice⟩
  | .fareParamWrite p b => some ⟨p, ReqCode.fareParamWrite.byte, b.bytes writeFareParam⟩
  | .fareConcessionWrite p b =>
    some ⟨p, ReqCode.fareConcessionWrite.byte, b.bytes writeFareConcession⟩
  | .farePeakWrite p b => some ⟨p, ReqCode.farePeakWrite.byte, b.bytes writeFarePeak⟩
  | .rvlWrite p b => some ⟨p, ReqCode.rvlWrite.byte, b.bytes writeRvlWrite⟩
  | .rvlClearAll p b => some ⟨p, ReqCode.rvlClearAll.byte, b.bytes writeNoFields⟩
  | .stockAdd p b => some ⟨p, ReqCode.stockAdd.byte, b.bytes writeStockAdd⟩
  | .batchTake p b => some ⟨p, ReqCode.batchTake.byte, b.bytes writeBatchTake⟩
  | .batchAck p b => some ⟨p, ReqCode.batchAck.byte, b.bytes writeBatchId⟩
  | .batchFail p b => some ⟨p, ReqCode.batchFail.byte, b.bytes writeBatchId⟩
  | .linkResume p b => some ⟨p, ReqCode.linkResume.byte, b.bytes writeNoFields⟩
  | .panelConfig p b => some ⟨p, ReqCode.panelConfig.byte, b.bytes writePanelConfig⟩
  | .panelConfigGroup p f => some ⟨p, ReqCode.panelConfig.byte, writePanelGroup f⟩
  | .displayStart p _ => some ⟨p, ReqCode.displayControl.byte, writeDisplayStart⟩
  | .displayStop p => some ⟨p, ReqCode.displayControl.byte, writeDisplayStop⟩
  | .displayRecover p _ => some ⟨p, ReqCode.displayControl.byte, writeDisplayRecover⟩
  | .displayPacing p f _ => some ⟨p, ReqCode.displayControl.byte, writeDisplayPacing f⟩
  | .displayFrameCount p f => some ⟨p, ReqCode.displayControl.byte, writeFrameCount f⟩
  | .displayAutoRecovery p b => some ⟨p, ReqCode.displayControl.byte, b.bytes writeAutoRecovery⟩
  | .supplyLevels p b => some ⟨p, ReqCode.supplyLevels.byte, b.bytes writeSupplyLevels⟩
  | .treadleMode p b => some ⟨p, ReqCode.treadleMode.byte, b.bytes writeTreadleMode⟩
  | .salesSuspend p b => some ⟨p, ReqCode.salesSuspend.byte, b.bytes writeNoFields⟩
  | .salesResume p b => some ⟨p, ReqCode.salesResume.byte, b.bytes writeNoFields⟩
  | .setRights p b => some ⟨p, ReqCode.setRights.byte, b.bytes writeSetRights⟩
  | .portReset p b => some ⟨p, ReqCode.portReset.byte, b.bytes writePortReset⟩
  | .status p b => some ⟨p, ReqCode.status.byte, b.bytes writeStatus⟩
  | .listCalls p b => some ⟨p, ReqCode.listCalls.byte, b.bytes writeTableRun⟩
  | .fareRead p b => some ⟨p, ReqCode.fareRead.byte, b.bytes writeTableRun⟩
  | .rvlRead p b => some ⟨p, ReqCode.rvlRead.byte, b.bytes writeRun⟩
  | .readCounters p b => some ⟨p, ReqCode.readCounters.byte, b.bytes writeReadCounters⟩
  | .readNotices p b => some ⟨p, ReqCode.readNotices.byte, b.bytes writeReadNotices⟩
  | .unknownRequest p code body => some ⟨p, code, body⟩
  | .frameCut _ _ => none
  | .replyRead _ _ => none
  | .portResetLineActive _ => none
  | .portResetLineInactive _ => none
  | .portResetLineFirstAcceptance _ _ => none
  | .clockSecond => none
  | .stagingIdleTimeout => none
  | .passageClose => none
  | .quoteExpiry _ => none
  | .voidWindowExpiry _ => none
  | .terminalSilenceExpiry => none
  | .batchTimeout => none
  | .waitExpiry => none
  | .presenceIdleExpiry => none
  | .frameTimerExpiry _ => none
  | .probeTimerExpiry _ => none
  | .sample _ _ => none
  | .loadPeriodTimeout => none
  | .treadleRisingEdge _ => none
  | .treadleFallingEdge _ => none
  | .treadleFirstAcceptance _ _ => none
  | .presenceEdge _ => none
  | .presenceFirstAcceptance _ => none
  | .triggerEdge _ _ => none
  | .triggerFirstAcceptance _ => none
  | .transactionEnd _ _ => none
  | .busDisturbed _ => none
  | .stuckClock => none
  | .recoveryEndAuto _ _ => none
  | .recoveryEndManual _ _ => none
  | .coldStart => none
  | .warmStart _ => none
  | .coreSupplyDip => none

/-- The transfer a select period of at least one byte is (R187, R188, R190): a first byte 0 is the read
marker and the rest are bytes clocked; another first byte is the length of a request frame, which is
complete once that many bytes have followed (later bytes are ignored, and the data output's bytes for them are not
recorded: DESIGN CHOICE, log 32) and cut otherwise. A select period in which no whole byte arrives is no
transfer. -/
def decodeTransfer (p : Port) (bytes : List Byte) (data : DataLine) (clk : ClockLine) : Option Instr :=
  match bytes with
  | [] => none
  | l :: rest =>
    if l = 0 then some (.replyRead p rest.length)
    else if rest.length < l.toNat then some (.frameCut p bytes)
    else
      match rest with
      | [] => none
      | code :: body => some (decodeFrame p code (body.take (l.toNat - 1)) data clk)

/-- The command a word spells by the table's bits: none, since no row of spec/opcode_table.json gives any
bits (its fields are all empty). Commands enter the queue from outside (log 1). -/
def decodeTableWord (_nbits _w : Nat) : Option Instr := none

end Sys2Proof
end

