-- ==== Sys2Proof/Machine/State.lean ====
section
/-! DEFINITION. State.lean: every piece of state the spec gives the HS-240, block by block, as plain
data; the reasons a step can stop; and the state after reset (right after a cold start). -/

namespace Sys2Proof.Machine

/-! ## Station clock and timetable store (chapters 1 and 2) -/

/-- Day kind (1.1). -/
inductive DayKind where
  | weekday
  | saturday
  | sundayHoliday
deriving DecidableEq, Repr

/-- Direction of a call (R14). -/
inductive Direction where
  | up
  | down
deriving DecidableEq, Repr

/-- State of a call (R14). -/
inductive CallState where
  | scheduled
  | cancelled
  | departed
  | lapsed
deriving DecidableEq, Repr

/-- The two live day tables (R13). -/
inductive TableName where
  | today
  | tomorrow
deriving DecidableEq, Repr

/-- A call named by its table and its service id. -/
structure CallRef where
  table : TableName
  service : Nat
deriving DecidableEq, Repr

/-- The station clock (R1). -/
structure Clock where
  valid : Bool
  day : Nat
  kind : DayKind
  second : Nat
deriving DecidableEq, Repr

/-- A live running report: reported delay and recovery allowance (R24). -/
structure Report where
  delay : Nat
  allowance : Nat
deriving DecidableEq, Repr

/-- The fixed fields of a call, as staged (R14, R17). -/
structure StagedCall where
  service : Nat
  direction : Direction
  scheduled : Nat
  destination : Nat
deriving DecidableEq, Repr

/-- A call record (R14). The expected minute is computed (R27). -/
structure Call where
  service : Nat
  direction : Direction
  scheduled : Nat
  destination : Nat
  state : CallState
  report : Option Report
  actual : Option Nat
  removed : Bool
deriving DecidableEq, Repr

/-- A LOADED day table (R13); an EMPTY one is `none`. -/
structure DayTable where
  day : Nat
  kind : DayKind
  version : Nat
  calls : List Call
deriving DecidableEq, Repr

/-- An open staging table (1.5); `idle` is the idle timer's seconds left. -/
structure Staging where
  holder : Port
  day : Nat
  kind : DayKind
  version : Nat
  count : Nat
  next : Nat
  calls : List StagedCall
  idle : Nat
deriving DecidableEq, Repr

/-- The timetable store (R4, R12, R13, 1.5). -/
structure Store where
  storeDay : Nat
  neededMark : Bool
  today : Option DayTable
  tomorrow : Option DayTable
  staging : Option Staging
deriving DecidableEq, Repr

/-! ## Passage detector (chapter 2) -/

/-- Treadle mode (R34). -/
inductive TreadleMode where
  | paired
  | separate
deriving DecidableEq, Repr

/-- One treadle: whether its first acceptance has been taken (R33), its accepted level (R32), its
pulse record with the overlapped flag (R36), whether it is in FAULT (R37), its unpaired run and its
test count (R39). -/
structure Treadle where
  seen : Bool
  pressed : Bool
  pulse : Option Bool
  fault : Bool
  run : Nat
  test : Nat
deriving DecidableEq, Repr

/-- The open passage record (2.5); `closing` is the closing timer's seconds left. -/
structure Passage where
  up : Nat
  down : Nat
  first : Nat
  last : Nat
  lastDay : Nat
  closing : Nat
deriving DecidableEq, Repr

/-- Direction of a closed passage (R41). -/
inductive PassageDirection where
  | up
  | down
  | unknown
deriving DecidableEq, Repr

/-- The passage detector (2.4). -/
structure Detector where
  mode : TreadleMode
  ta : Treadle
  tb : Treadle
  passage : Option Passage
deriving DecidableEq, Repr

/-! ## Fare unit and revocation list (chapters 3 and 4) -/

/-- A valid destination range entry (R49). -/
structure RangeEntry where
  first : Nat
  last : Nat
  distance : Nat
deriving DecidableEq, Repr

/-- Who may hold a concession card (R54). -/
inductive AppliesTo where
  | adults
  | all
deriving DecidableEq, Repr

/-- A concession class (R54). -/
structure Concession where
  discount : Nat
  appliesTo : AppliesTo
deriving DecidableEq, Repr

/-- A peak window (R55). -/
structure PeakWindow where
  start : Nat
  stop : Nat
deriving DecidableEq, Repr

/-- The fare unit's tables (R47); `prices` holds distance d at index d − 1. -/
structure FareTables where
  ranges : Vector (Option RangeEntry) 32
  prices : Vector Nat 15
  returnPercent : Nat
  offPeakPercent : Nat
  childPercent : Nat
  step : Nat
  capMultiple : Nat
  concessions : Vector Concession 8
  peaks : Vector PeakWindow 4
  loaded : Bool
deriving DecidableEq, Repr

/-- A valid revocation entry (R93). -/
structure RvlEntry where
  card : Nat
  ignore : Nat
deriving DecidableEq, Repr

/-- Ticket type (3.3). -/
inductive TicketType where
  | single
  | ret
deriving DecidableEq, Repr

/-- Fare band (R61). -/
inductive Band where
  | offPeak
  | peak
deriving DecidableEq, Repr

/-- The card holder of a fare (R65). -/
inductive Holder where
  | none
  | adult
  | child
deriving DecidableEq, Repr

/-- The concession a request names: its class and the card number (3.3: one is given exactly when the
other is). -/
structure CardClaim where
  cls : Nat
  card : Nat
deriving DecidableEq, Repr

/-- A valid fare request (R57). -/
structure FareRequest where
  destination : Nat
  ticket : TicketType
  adults : Nat
  children : Nat
  concession : Option CardClaim
  target : Option CallRef
deriving DecidableEq, Repr

/-- A fare result (R68). The concession values are 0 when no class was given (11.2). -/
structure Fare where
  distance : Nat
  price : Nat
  band : Band
  adult : Nat
  child : Nat
  concAdult : Nat
  concChild : Nat
  holder : Holder
  sum : Nat
  cap : Option Nat
  total : Nat
  notApplied : Bool
deriving DecidableEq, Repr

/-! ## Sales controller (chapter 4) -/

/-- Closure reasons (R69), in the order of their bits (11.1). -/
inductive Reason where
  | noTime
  | noFares
  | stockEmpty
  | journalFull
  | supplyReserve
  | suspended
deriving DecidableEq, Repr

/-- A quote record (R74); `timer` is the expiry timer's seconds left. -/
structure Quote where
  number : Nat
  request : FareRequest
  fare : Fare
  expiry : Nat
  timer : Nat
deriving DecidableEq, Repr

/-- The last-quote mark (R74). -/
inductive QuoteMark where
  | none
  | expired (q : Quote)
  | invalidated (number : Nat)
deriving DecidableEq, Repr

/-- The last-sale record (R86); `window` is the void window timer's seconds left. -/
structure LastSale where
  serial : Nat
  window : Nat
deriving DecidableEq, Repr

/-- What the sales controller holds for one port (4.1). -/
structure PortSales where
  slot : Option Quote
  mark : QuoteMark
  nextQuote : Nat
  lastSale : Option LastSale
deriving DecidableEq, Repr

/-- A stock block (R88). -/
structure StockBlock where
  first : Nat
  last : Nat
  next : Nat
deriving DecidableEq, Repr

/-- One value for each port. -/
structure PerPort (α : Type) where
  terminal : α
  link : α
  service : α
deriving DecidableEq, Repr

/-- The sales controller (4.1). `silence` is the terminal-silence timer's seconds left while it runs. -/
structure Sales where
  reasons : List Reason
  ports : PerPort PortSales
  blocks : List StockBlock
  horizon : Nat
  lowMark : Bool
  silence : Option Nat
  silent : Bool
deriving DecidableEq, Repr

/-! ## Supply monitor (chapter 8) -/

/-- Supply state (8.1). -/
inductive SupplyState where
  | normal
  | economy
  | reserve
deriving DecidableEq, Repr

/-- Sample class (R167): under level 0, or the highest level reached. -/
inductive SampleClass where
  | under
  | level (n : Nat)
deriving DecidableEq, Repr

/-- An open load period (8.3); the two timers are seconds left. Its end second is computed from the end timer:
`LoadPeriod.endSecond`. -/
structure LoadPeriod where
  beginSecond : Nat
  endTimer : Nat
  limitTimer : Nat
deriving DecidableEq, Repr

/-- The supply monitor (8.1). -/
structure Supply where
  economy : Nat
  reserve : Nat
  state : SupplyState
  lastClass : Option SampleClass
  reserveRun : Nat
  economyRun : Nat
  upgradeRun : Nat
  sampleTimer : Nat
  load : Option LoadPeriod
deriving DecidableEq, Repr

/-! ## Sales journal and upload scheduler (chapter 5) -/

/-- Entry state (R99). -/
inductive EntryState where
  | unsent
  | inFlight
deriving DecidableEq, Repr

/-- The kind of a start (R102). -/
inductive StartKind where
  | cold
  | warm
deriving DecidableEq, Repr

/-- The seven entry kinds and their fields (R102). -/
inductive EntryKind where
  | sale (serial : Nat) (port : Port) (request : FareRequest) (band : Band) (total : Nat)
  | void (serial : Nat) (port : Port)
  | unmatchedPassage (direction : PassageDirection) (up down last : Nat)
  | lapsedCall (service scheduled : Nat)
  | timetable (day version : Nat)
  | supply (state : SupplyState)
  | start (kind : StartKind)
deriving DecidableEq, Repr

/-- A journal entry (R100, 5.2). -/
structure Entry where
  sequence : Nat
  day : Nat
  second : Nat
  kind : EntryKind
  state : EntryState
deriving DecidableEq, Repr

/-- The batch in flight (R105); `timer` is the timeout timer's seconds left. -/
structure Batch where
  id : Nat
  holder : Port
  first : Nat
  count : Nat
  taken : Nat
  timer : Nat
deriving DecidableEq, Repr

/-- The sales journal (R99). `nextSequence` is one past 4,294,967,295 once that sequence has been
appended (R101). -/
structure Journal where
  entries : List Entry
  nextSequence : Nat
  nextBatch : Nat
  batch : Option Batch
deriving DecidableEq, Repr

/-- Upload scheduler state (5.4). -/
inductive SchedState where
  | due
  | waiting
  | held
deriving DecidableEq, Repr

/-- The upload scheduler (5.4); `wait` is the wait timer's seconds left while it runs. -/
structure Scheduler where
  state : SchedState
  failures : Nat
  wait : Option Nat
  dueSecond : Option Nat
deriving DecidableEq, Repr

/-! ## Display compositor (chapter 6) -/

/-- Directions a panel serves (R124). -/
inductive PanelDirections where
  | up
  | down
  | both
deriving DecidableEq, Repr

/-- Panel state (R124). -/
inductive PanelState where
  | unconfigured
  | awake
  | asleep
  | absent
deriving DecidableEq, Repr

/-- Last status of a panel (R124, R144). -/
inductive PanelStatus where
  | ok
  | lampFault
  | other
deriving DecidableEq, Repr

/-- Pending command of a panel (R124). -/
inductive PendingCommand where
  | none
  | sleep
  | wake
deriving DecidableEq, Repr

/-- A panel record (R124). -/
structure Panel where
  configured : Bool
  directions : PanelDirections
  rows : Nat
  brightness : Nat
  state : PanelState
  misses : Nat
  lastStatus : PanelStatus
  pending : PendingCommand
deriving DecidableEq, Repr

/-- The message in force (R130). -/
inductive Message where
  | timeUnknown
  | noTimetable
  | salesClosed
  | noMoreTrains
deriving DecidableEq, Repr

/-- Group sleep state (R138). -/
inductive GroupState where
  | awake
  | asleep
deriving DecidableEq, Repr

/-- The display compositor (6.1, 6.4). `idle` is the presence idle timer's seconds left while the idle
state is RUNNING, and `none` while it is EXPIRED. -/
structure Compositor where
  panels : Vector Panel 8
  presenceSeen : Bool
  occupied : Bool
  idle : Option Nat
  group : GroupState
  sleepAfter : Nat
  message : Option Message
deriving DecidableEq, Repr

/-! ## Display bus controller (chapter 7) -/

/-- Status of a call row (R129). -/
inductive RowStatus where
  | onTime
  | expected (minute : Nat)
  | delayed
  | cancelled
  | departed
deriving DecidableEq, Repr

/-- One row of a row set (R129, R131). -/
inductive Row where
  | call (service : Nat) (direction : Direction) (destination scheduled : Nat) (status : RowStatus)
  | message (m : Message)
  | blank
deriving DecidableEq, Repr

/-- The four kinds of transaction (R143); WRITE_ROWS carries the brightness and row set composed at its
frame start. -/
inductive TransactionKind where
  | sleep
  | wake
  | writeRows (brightness : Nat) (rows : List Row)
  | readStatus
deriving DecidableEq, Repr

/-- A transaction of a frame's list; panel `i` has address `i + 1`. -/
structure Transaction where
  panel : Fin 8
  kind : TransactionKind
deriving DecidableEq, Repr

/-- Recovery kind (R145). -/
inductive RecoveryKind where
  | auto
  | manual
deriving DecidableEq, Repr

/-- Fault cause (R145). -/
inductive FaultCause where
  | stuckData
  | stuckClock
deriving DecidableEq, Repr

/-- Controller state, with the recovery kind held while RECOVERING (R145). -/
inductive BusState where
  | stopped
  | idle
  | running
  | recovering (k : RecoveryKind)
  | fault
deriving DecidableEq, Repr

/-- Frame pacing (R147). -/
inductive Pacing where
  | interval
  | trigger
deriving DecidableEq, Repr

/-- Trigger polarity (R147). -/
inductive Polarity where
  | rising
  | falling
deriving DecidableEq, Repr

/-- The display bus controller (R145). `cause` is set on entry to FAULT and removed as R161, R164 and R165
give (log 23); `remaining` is `none` for endless; timers are seconds left while
they run; `position` is the index in `list` of the transaction in progress; `firstEdge` and
`sinceFrame` are the trigger gate (R150); `startDue` is the model's own (log 9). -/
structure DisplayBus where
  state : BusState
  cause : Option FaultCause
  pacing : Pacing
  polarity : Polarity
  interval : Nat
  countSetting : Nat
  remaining : Option Nat
  autoRecovery : Bool
  runMark : Bool
  stopMark : Bool
  cycle : Nat
  frameTimer : Option Nat
  list : List Transaction
  position : Nat
  tried : Bool
  probes : Vector (Option Nat) 8
  triggerSeen : Bool
  triggerHigh : Bool
  firstEdge : Bool
  sinceFrame : Option Nat
  startDue : Bool
deriving DecidableEq, Repr

/-! ## Counter bank and port controllers (chapters 9 and 10) -/

/-- The 24 statistics counters, in number order 1..24 (R179). -/
inductive Counter where
  | issuedSingle | issuedReturn | voided | revenuePeak | revenueOffPeak | refusedQuotes
  | refusedIssues | requotedIssues | cardRevoked | passagesMatched | passagesUnmatched | passagesMinor
  | treadleUnpaired | callsLapsed | journalDropped | batchesAcked | batchesFailed | framesSent
  | frameOverruns | panelMisses | busRecoveries | loadOverruns | supplyDowngrades | portFrameErrors
deriving DecidableEq, Repr

/-- Notice kinds, in the order of the table of R195. -/
inductive Notice where
  | stockLow | uploadDue | supplyChanged | salesState | timetableNeeded | stagingDiscarded
  | batchTimedOut | panelFault | panelBusFault | displayStopped | displayOverrun | treadleFault
  | restarted
deriving DecidableEq, Repr

/-- Rights classes, in the order of their bits (10.2, 11.1). -/
inductive RightsClass where
  | sales
  | timetable
  | tables
  | journal
  | config
  | read
deriving DecidableEq, Repr

/-- Result codes, in the order of their values (11.1). -/
inductive Result where
  | ok | unknownRequest | notPermitted | badRequest | badRange | busy | badSequence
  | incomplete | wrongDay | staleVersion | notMonotonic | noSuch | notOnSale | noFare
  | salesClosed | cardRevoked | stockEmpty | stockFull | overlap | noQuote | serviceGone
  | fareChanged | notVoidable | journalFull | nothingToSend | notDue | staleBatch | lineHeld
deriving DecidableEq, Repr

/-- The four flags of a reply (R192). -/
structure ReplyFlags where
  overrun : Bool
  noticesPending : Bool
  requoted : Bool
  notApplied : Bool
deriving DecidableEq, Repr

/-- A reply (R191): echo of the request code, result, flags and body. -/
structure Reply where
  echo : Byte
  result : Result
  flags : ReplyFlags
  body : List Byte
deriving DecidableEq, Repr

/-- A HELD reply slot: the reply and the position of a read in progress (R190). -/
structure ReplySlot where
  reply : Reply
  readPosition : Nat
deriving DecidableEq, Repr

/-- Port reset condition (R197). -/
inductive ResetCondition where
  | run
  | held
deriving DecidableEq, Repr

/-- A port controller (chapter 10). `reception` is the frame in reception; `dataOut` records the bytes
the data output carried in the port's latest transfer (R187, R190; log 12). -/
structure PortControl where
  reception : List Byte
  slot : Option ReplySlot
  overrun : Bool
  notices : List Notice
  rights : List RightsClass
  condition : ResetCondition
  lineSeen : Bool
  dataOut : List Byte
deriving DecidableEq, Repr

/-- Whether the core domain runs, or has stopped at a dip of the core supply (R4). -/
inductive CoreSupply where
  | up
  | down
deriving DecidableEq, Repr

/-! ## The whole part -/

/-- The state of the HS-240, one field per block; `draws` counts the free values drawn (log 6, log 9)
and `pending` is the queue of commands waiting, oldest first (log 1). -/
structure State where
  core : CoreSupply
  clock : Clock
  store : Store
  detector : Detector
  fares : FareTables
  revoked : Vector (Option RvlEntry) 64
  sales : Sales
  journal : Journal
  scheduler : Scheduler
  compositor : Compositor
  bus : DisplayBus
  supply : Supply
  counters : Vector Nat 24
  ports : PerPort PortControl
  draws : Nat
  pending : List Instr
deriving DecidableEq, Repr

/-- Nothing stops the HS-240: every request is answered, every event acts or is ignored, and a display
bus FAULT is a state of its own (R160). So there is no fault, and nobody raises one. -/
inductive Fault where
deriving DecidableEq, Repr

/-- Why a step is refused. -/
inductive Refusal where
  /-- A command without a meaning yet. Raised by exec's arm alone; safe. No arm raises it now. -/
  | notModelled (mnemonic : String)
deriving DecidableEq, Repr

/-! ## Reset -/

/-- What a port's sales record holds after a start (R98, 4.1). -/
def PortSales.initial : PortSales :=
  { slot := none, mark := .none, nextQuote := 1, lastSale := none }

/-- A treadle after a start (2.4, R33). -/
def Treadle.initial : Treadle :=
  { seen := false, pressed := false, pulse := none, fault := false, run := 0, test := 0 }

/-- A panel record after a cold start (R124). -/
def Panel.initial : Panel :=
  { configured := false, directions := .both, rows := 1, brightness := 7, state := .unconfigured,
    misses := 0, lastStatus := .ok, pending := .none }

/-- A port controller after a start, with its rights set and notice set (R193, R201, R202). -/
def PortControl.initial (rights : List RightsClass) (notices : List Notice) : PortControl :=
  { reception := [], slot := none, overrun := false, notices := notices, rights := rights,
    condition := .held, lineSeen := false, dataOut := [] }

/-- The concession table after a cold start (R47). -/
def initialConcessions : Vector Concession 8 :=
  #v[⟨0, .all⟩, ⟨0, .adults⟩, ⟨0, .adults⟩, ⟨0, .adults⟩, ⟨0, .adults⟩, ⟨0, .adults⟩, ⟨0, .adults⟩,
     ⟨0, .adults⟩]

/-- The machine right after reset: the Init values of every block as a cold start leaves them, with the
START(COLD) entry (R123), RESTARTED on every port (R202) and UPLOAD_DUE on the link port (R123). -/
def State.reset : State :=
  { core := .up
    clock := { valid := false, day := 0, kind := .weekday, second := 0 }
    store := { storeDay := 0, neededMark := false, today := none, tomorrow := none, staging := none }
    detector := { mode := .paired, ta := .initial, tb := .initial, passage := none }
    fares :=
      { ranges := Vector.replicate 32 none, prices := Vector.replicate 15 0, returnPercent := 180,
        offPeakPercent := 70, childPercent := 50, step := 10, capMultiple := 3,
        concessions := initialConcessions, peaks := Vector.replicate 4 ⟨0, 0⟩, loaded := false }
    revoked := Vector.replicate 64 none
    sales :=
      { reasons := [.noTime, .noFares, .stockEmpty], ports := ⟨.initial, .initial, .initial⟩,
        blocks := [], horizon := 0, lowMark := true, silence := some 300, silent := false }
    journal :=
      { entries := [{ sequence := 1, day := 0, second := 0, kind := .start .cold, state := .unsent }],
        nextSequence := 2, nextBatch := 1, batch := none }
    scheduler := { state := .due, failures := 0, wait := none, dueSecond := none }
    compositor :=
      { panels := Vector.replicate 8 .initial, presenceSeen := false, occupied := false,
        idle := some 600, group := .awake, sleepAfter := 10, message := some .timeUnknown }
    bus :=
      { state := .stopped, cause := none, pacing := .interval, polarity := .rising, interval := 5,
        countSetting := 0, remaining := none, autoRecovery := true, runMark := false, stopMark := false, cycle := 0,
        frameTimer := none, list := [], position := 0, tried := false,
        probes := Vector.replicate 8 none, triggerSeen := false, triggerHigh := false,
        firstEdge := true, sinceFrame := none, startDue := false }
    supply :=
      { economy := 4, reserve := 1, state := .normal, lastClass := none, reserveRun := 0,
        economyRun := 0, upgradeRun := 0, sampleTimer := 2, load := none }
    counters := Vector.replicate 24 0
    ports :=
      { terminal := .initial [.sales, .read] [.restarted]
        link := .initial [.timetable, .tables, .journal, .read] [.uploadDue, .restarted]
        service :=
          .initial [.sales, .timetable, .tables, .journal, .config, .read] [.restarted] }
    draws := 0
    pending := [] }

end Sys2Proof.Machine
end

