-- ==== Sys2Proof/Machine/Operands.lean ====
section
/-! DEFINITION. Operands.lean: the operand forms. The codings of 11.1 from a request's bytes to values and
from values to reply bytes, and the field checks that turn a request body into what its owner works on. -/

namespace Sys2Proof.Machine

/-! ## Ports and per-port values -/

/-- The value of one port. -/
def PerPort.get {α : Type} (x : PerPort α) : Port → α
  | .terminal => x.terminal
  | .link => x.link
  | .service => x.service

/-- The values with one port's replaced. -/
def PerPort.set {α : Type} (x : PerPort α) (p : Port) (a : α) : PerPort α :=
  match p with
  | .terminal => { x with terminal := a }
  | .link => { x with link := a }
  | .service => { x with service := a }

/-- Every port's value changed by a function of the port and the value. -/
def PerPort.imap {α β : Type} (f : Port → α → β) (x : PerPort α) : PerPort β :=
  { terminal := f .terminal x.terminal, link := f .link x.link, service := f .service x.service }

/-- The values as a list in port order: terminal, link, service (11.2). -/
def PerPort.toList {α : Type} (x : PerPort α) : List α := [x.terminal, x.link, x.service]

/-! ## From bytes to values (11.1, R204) -/

/-- A flag or presence byte: 0 or 1 (R204). -/
def flagOf (b : Byte) : Option Bool :=
  match b.toNat with
  | 0 => some false
  | 1 => some true
  | _ => none

def dayKindOf (b : Byte) : Option DayKind :=
  match b.toNat with
  | 0 => some .weekday
  | 1 => some .saturday
  | 2 => some .sundayHoliday
  | _ => none

def directionOf (b : Byte) : Option Direction :=
  match b.toNat with
  | 0 => some .up
  | 1 => some .down
  | _ => none

def tableOf (b : Byte) : Option TableName :=
  match b.toNat with
  | 0 => some .today
  | 1 => some .tomorrow
  | _ => none

def ticketOf (b : Byte) : Option TicketType :=
  match b.toNat with
  | 0 => some .single
  | 1 => some .ret
  | _ => none

def appliesToOf (b : Byte) : Option AppliesTo :=
  match b.toNat with
  | 0 => some .adults
  | 1 => some .all
  | _ => none

def portOf (b : Byte) : Option Port :=
  match b.toNat with
  | 0 => some .terminal
  | 1 => some .link
  | 2 => some .service
  | _ => none

def panelDirectionsOf (b : Byte) : Option PanelDirections :=
  match b.toNat with
  | 0 => some .up
  | 1 => some .down
  | 2 => some .both
  | _ => none

def pacingOf (b : Byte) : Option Pacing :=
  match b.toNat with
  | 0 => some .interval
  | 1 => some .trigger
  | _ => none

def polarityOf (b : Byte) : Option Polarity :=
  match b.toNat with
  | 0 => some .rising
  | 1 => some .falling
  | _ => none

def treadleModeOf (b : Byte) : Option TreadleMode :=
  match b.toNat with
  | 0 => some .paired
  | 1 => some .separate
  | _ => none

/-- The sections of STATUS (R199, coded as in 11.1). -/
inductive StatusSection where
  | clock
  | detector
  | sales
  | journal
  | display
  | supply
  | ports
deriving DecidableEq, Repr

def statusSectionOf (b : Byte) : Option StatusSection :=
  match b.toNat with
  | 0 => some .clock
  | 1 => some .detector
  | 2 => some .sales
  | 3 => some .journal
  | 4 => some .display
  | 5 => some .supply
  | 6 => some .ports
  | _ => none

/-- The tables FARE_READ names (R56). -/
inductive FareTableName where
  | ranges
  | prices
  | parameters
  | concessions
  | peaks
deriving DecidableEq, Repr

def fareTableOf (b : Byte) : Option FareTableName :=
  match b.toNat with
  | 0 => some .ranges
  | 1 => some .prices
  | 2 => some .parameters
  | 3 => some .concessions
  | 4 => some .peaks
  | _ => none

/-! ## Field checks -/

/-- A value replaced by the nearer end of its range (00 Numbers and encoding). -/
def clamp (lo hi v : Nat) : Nat := if v < lo then lo else if hi < v then hi else v

/-- A service id lies in 1..9999 (R13, R23). -/
def serviceOk (n : Nat) : Bool := decide (1 ≤ n ∧ n ≤ 9999)

/-- The call a body names by a table byte and a service id, if both are in range (R23, R57). -/
def callRefOf (table : Byte) (service : BitVec 16) : Option CallRef :=
  match tableOf table with
  | some t => if serviceOk service.toNat then some ⟨t, service.toNat⟩ else none
  | none => none

/-- The class and card fields of a QUOTE (R57, R204): absent together, or a class 1..7 with a card. The
outer `none` is a refusal. -/
def claimOf (cls present : Byte) (card : BitVec 40) : Option (Option CardClaim) :=
  match flagOf present with
  | none => none
  | some false => if cls.toNat = 0 then some none else none
  | some true =>
    if 1 ≤ cls.toNat ∧ cls.toNat ≤ 7 then some (some ⟨cls.toNat, card.toNat⟩) else none

/-- The target fields of a QUOTE (R57, R204); the outer `none` is a refusal, and an absent target's bytes
are ignored. -/
def targetOf (present table : Byte) (service : BitVec 16) : Option (Option CallRef) :=
  match flagOf present with
  | none => none
  | some false => some none
  | some true => (callRefOf table service).map some

/-- The field check of a fare request (R57). -/
def fareRequestOf (f : QuoteBody) : Option FareRequest :=
  match ticketOf f.ticket, claimOf f.concession f.cardPresent f.card,
    targetOf f.targetPresent f.table f.service with
  | some ticket, some claim, some target =>
    if f.destination.toNat ≤ 4095 ∧ f.adults.toNat ≤ 9 ∧ f.children.toNat ≤ 9 ∧
        1 ≤ f.adults.toNat + f.children.toNat ∧ f.adults.toNat + f.children.toNat ≤ 9 then
      some
        { destination := f.destination.toNat, ticket := ticket, adults := f.adults.toNat,
          children := f.children.toNat, concession := claim, target := target }
    else none
  | _, _, _ => none

/-- The field check of one call record (R17). -/
def stagedCallOf (r : CallRecord) : Option StagedCall :=
  match directionOf r.direction with
  | some d =>
    if serviceOk r.service.toNat ∧ r.scheduled.toNat ≤ 1439 then
      some ⟨r.service.toNat, d, r.scheduled.toNat, r.destination.toNat⟩
    else none
  | none => none

/-- The field check of a run of call records: every record, or none of them (R17). -/
def stagedCallsOf : List CallRecord → Option (List StagedCall)
  | [] => some []
  | r :: rs =>
    match stagedCallOf r, stagedCallsOf rs with
    | some c, some cs => some (c :: cs)
    | _, _ => none

/-! ## From values to bytes (11.1) -/

/-- A number in `k` bytes, least significant first. -/
def num : Nat → Nat → List Byte
  | 0, _ => []
  | k + 1, v => BitVec.ofNat 8 v :: num k (v / 256)

/-- One byte. -/
def num1 (v : Nat) : List Byte := num 1 v

/-- A flag byte. -/
def flagByte (b : Bool) : List Byte := num1 (if b then 1 else 0)

def DayKind.code : DayKind → Nat
  | .weekday => 0
  | .saturday => 1
  | .sundayHoliday => 2

def Direction.code : Direction → Nat
  | .up => 0
  | .down => 1

def PassageDirection.code : PassageDirection → Nat
  | .up => 0
  | .down => 1
  | .unknown => 2

def PanelDirections.code : PanelDirections → Nat
  | .up => 0
  | .down => 1
  | .both => 2

def CallState.code : CallState → Nat
  | .scheduled => 0
  | .cancelled => 1
  | .departed => 2
  | .lapsed => 3

def TableName.code : TableName → Nat
  | .today => 0
  | .tomorrow => 1

def TicketType.code : TicketType → Nat
  | .single => 0
  | .ret => 1

def Band.code : Band → Nat
  | .offPeak => 0
  | .peak => 1

def Holder.code : Holder → Nat
  | .none => 0
  | .adult => 1
  | .child => 2

def SupplyState.code : SupplyState → Nat
  | .normal => 0
  | .economy => 1
  | .reserve => 2

def portCode : Port → Nat
  | .terminal => 0
  | .link => 1
  | .service => 2

def AppliesTo.code : AppliesTo → Nat
  | .adults => 0
  | .all => 1

def TreadleMode.code : TreadleMode → Nat
  | .paired => 0
  | .separate => 1

def QuoteMark.code : QuoteMark → Nat
  | .none => 0
  | .expired _ => 1
  | .invalidated _ => 2

def SchedState.code : SchedState → Nat
  | .due => 0
  | .waiting => 1
  | .held => 2

def BusState.code : BusState → Nat
  | .stopped => 0
  | .idle => 1
  | .running => 2
  | .recovering _ => 3
  | .fault => 4

/-- Recovery kind, none 0 while not RECOVERING. -/
def BusState.recoveryCode : BusState → Nat
  | .recovering .auto => 1
  | .recovering .manual => 2
  | .stopped => 0
  | .idle => 0
  | .running => 0
  | .fault => 0

/-- Fault cause, none 0. -/
def causeCode : Option FaultCause → Nat
  | none => 0
  | some .stuckData => 1
  | some .stuckClock => 2

def Pacing.code : Pacing → Nat
  | .interval => 0
  | .trigger => 1

def Polarity.code : Polarity → Nat
  | .rising => 0
  | .falling => 1

def GroupState.code : GroupState → Nat
  | .awake => 0
  | .asleep => 1

def PanelState.code : PanelState → Nat
  | .unconfigured => 0
  | .awake => 1
  | .asleep => 2
  | .absent => 3

def PendingCommand.code : PendingCommand → Nat
  | .none => 0
  | .sleep => 1
  | .wake => 2

def PanelStatus.code : PanelStatus → Nat
  | .ok => 0
  | .lampFault => 1
  | .other => 2

def Message.code : Message → Nat
  | .timeUnknown => 1
  | .noTimetable => 2
  | .salesClosed => 3
  | .noMoreTrains => 4

/-- Message in force, none 0. -/
def messageCode : Option Message → Nat
  | none => 0
  | some m => m.code

/-- Last sample class: 0..7, U 8, none 0xFF. -/
def sampleClassCode : Option SampleClass → Nat
  | none => 0xFF
  | some .under => 8
  | some (.level n) => n

def ResetCondition.code : ResetCondition → Nat
  | .run => 0
  | .held => 1

/-- Result codes, by the order of 11.1. -/
def Result.code : Result → Nat
  | .ok => 0
  | .unknownRequest => 1
  | .notPermitted => 2
  | .badRequest => 3
  | .badRange => 4
  | .busy => 5
  | .badSequence => 6
  | .incomplete => 7
  | .wrongDay => 8
  | .staleVersion => 9
  | .notMonotonic => 10
  | .noSuch => 11
  | .notOnSale => 12
  | .noFare => 13
  | .salesClosed => 14
  | .cardRevoked => 15
  | .stockEmpty => 16
  | .stockFull => 17
  | .overlap => 18
  | .noQuote => 19
  | .serviceGone => 20
  | .fareChanged => 21
  | .notVoidable => 22
  | .journalFull => 23
  | .nothingToSend => 24
  | .notDue => 25
  | .staleBatch => 26
  | .lineHeld => 27

/-! ## Sets: held as a list in bit order, each member at most once -/

def Reason.all : List Reason :=
  [.noTime, .noFares, .stockEmpty, .journalFull, .supplyReserve, .suspended]

def RightsClass.all : List RightsClass := [.sales, .timetable, .tables, .journal, .config, .read]

def Notice.all : List Notice :=
  [.stockLow, .uploadDue, .supplyChanged, .salesState, .timetableNeeded, .stagingDiscarded,
   .batchTimedOut, .panelFault, .panelBusFault, .displayStopped, .displayOverrun, .treadleFault,
   .restarted]

/-- A set with a member added, in the order of `all`. -/
def setInsert {α : Type} [DecidableEq α] (all : List α) (x : α) (l : List α) : List α :=
  all.filter (fun y => decide (y = x ∨ y ∈ l))

/-- A set with a member taken out. -/
def setErase {α : Type} [DecidableEq α] (x : α) (l : List α) : List α := l.filter (fun y => decide (y ≠ x))

/-- The number whose bit `i` is set exactly when the `i`th member of `all` is in the set. -/
def setBits {α : Type} [DecidableEq α] (all l : List α) : Nat :=
  match all with
  | [] => 0
  | x :: xs => (if x ∈ l then 1 else 0) + 2 * setBits xs l

/-- The set whose members are those of `all` whose bit is set in `n`. -/
def setOfBits {α : Type} (all : List α) (n : Nat) : List α :=
  match all with
  | [] => []
  | x :: xs => if n % 2 = 1 then x :: setOfBits xs (n / 2) else setOfBits xs (n / 2)

/-- The rights set a byte codes; `none` if it names an unknown class (R204). -/
def rightsOf (b : Byte) : Option (List RightsClass) :=
  if b.toNat < 2 ^ 6 then some (setOfBits RightsClass.all b.toNat) else none

/-- The acknowledge list two bytes code; `none` if it names an unknown kind (R204). -/
def noticesOf (w : BitVec 16) : Option (List Notice) :=
  if w.toNat < 2 ^ 13 then some (setOfBits Notice.all w.toNat) else none

/-! ## Records in replies (11.2) -/

/-- The request fields of a quote record, as in the QUOTE body. -/
def fareRequestBytes (r : FareRequest) : List Byte :=
  num 2 r.destination ++ num1 r.ticket.code ++ num1 r.adults ++ num1 r.children ++
    (match r.concession with
     | none => num1 0 ++ num1 0 ++ num 5 0
     | some c => num1 c.cls ++ num1 1 ++ num 5 c.card) ++
    (match r.target with
     | none => num1 0 ++ num1 0 ++ num 2 0
     | some t => num1 1 ++ num1 t.table.code ++ num 2 t.service)

/-- The quote record of 48 bytes (11.2). -/
def quoteBytes (q : Quote) : List Byte :=
  num1 q.number ++ fareRequestBytes q.request ++ num1 q.fare.distance ++ num 3 q.fare.price ++
    num1 q.fare.band.code ++ num 3 q.fare.adult ++ num 3 q.fare.child ++ num 3 q.fare.concAdult ++
    num 3 q.fare.concChild ++ num1 q.fare.holder.code ++ num 3 q.fare.sum ++
    num 3 (q.fare.cap.getD 0) ++ num 3 q.fare.total ++
    num1 (if q.fare.notApplied then 1 else 0) ++ num 3 q.expiry

/-- The ticket record of an issue (R84). -/
structure Ticket where
  serial : Nat
  request : FareRequest
  band : Band
  total : Nat
  day : Nat
  validity : Nat
deriving DecidableEq, Repr

/-- The ticket record of 20 bytes (11.2). -/
def ticketBytes (t : Ticket) : List Byte :=
  num 4 t.serial ++ num 2 t.request.destination ++ num1 t.request.ticket.code ++
    num1 t.request.adults ++ num1 t.request.children ++ num1 t.band.code ++ num 3 t.total ++
    num 2 t.day ++ num 2 t.validity ++
    (match t.request.target with
     | none => num1 0 ++ num 2 0
     | some c => num1 1 ++ num 2 c.service)

/-- The kind code of a journal entry (11.2). -/
def EntryKind.code : EntryKind → Nat
  | .sale _ _ _ _ _ => 1
  | .void _ _ => 2
  | .unmatchedPassage _ _ _ _ => 3
  | .lapsedCall _ _ => 4
  | .timetable _ _ => 5
  | .supply _ => 6
  | .start _ => 7

/-- The fields after a journal entry's common part (11.2). -/
def EntryKind.bytes : EntryKind → List Byte
  | .sale serial port r band total =>
    num 4 serial ++ num1 (portCode port) ++ num 2 r.destination ++ num1 r.ticket.code ++
      num1 r.adults ++ num1 r.children ++
      (match r.concession with
       | none => num1 0 ++ num 5 0
       | some c => num1 c.cls ++ num 5 c.card) ++
      (match r.target with
       | none => num1 0 ++ num1 0 ++ num 2 0
       | some t => num1 1 ++ num1 t.table.code ++ num 2 t.service) ++
      num1 band.code ++ num 3 total
  | .void serial port => num 4 serial ++ num1 (portCode port)
  | .unmatchedPassage d up down last => num1 d.code ++ num1 up ++ num1 down ++ num 3 last
  | .lapsedCall service scheduled => num 2 service ++ num 2 scheduled
  | .timetable day version => num 2 day ++ num 2 version
  | .supply st => num1 st.code
  | .start .cold => num1 0
  | .start .warm => num1 1

/-- A journal entry as a batch delivers it (11.2). -/
def Entry.bytes (e : Entry) : List Byte :=
  num 4 e.sequence ++ num1 e.kind.code ++ num 2 e.day ++ num 3 e.second ++ e.kind.bytes

/-- A range entry in the form of its write body, with its index (11.2). -/
def rangeBytes (i : Nat) (e : Option RangeEntry) : List Byte :=
  match e with
  | none => num1 i ++ num1 0 ++ num 2 0 ++ num 2 0 ++ num1 0
  | some r => num1 i ++ num1 1 ++ num 2 r.first ++ num 2 r.last ++ num1 r.distance

/-- A revocation entry in the form of its write body, with its index (11.2). -/
def rvlBytes (i : Nat) (e : Option RvlEntry) : List Byte :=
  match e with
  | none => num1 i ++ num1 0 ++ num 5 0 ++ num1 0
  | some r => num1 i ++ num1 1 ++ num 5 r.card ++ num1 r.ignore

/-- A concession class in the form of its write body. -/
def concessionBytes (i : Nat) (c : Concession) : List Byte :=
  num1 i ++ num1 c.discount ++ num1 c.appliesTo.code

/-- A peak window in the form of its write body. -/
def peakBytes (i : Nat) (w : PeakWindow) : List Byte := num1 i ++ num 2 w.start ++ num 2 w.stop

/-- The whole price row. -/
def priceRowBytes (f : FareTables) : List Byte := f.prices.toList.flatMap (num 3)

/-- The five fare parameters. -/
def paramBytes (f : FareTables) : List Byte :=
  num1 f.returnPercent ++ num1 f.offPeakPercent ++ num1 f.childPercent ++ num1 f.step ++
    num1 f.capMultiple

/-- A panel record, 8 bytes (11.2, STATUS DISPLAY). -/
def panelBytes (r : Panel) : List Byte :=
  flagByte r.configured ++ num1 r.directions.code ++ num1 r.rows ++ num1 r.brightness ++
    num1 r.state.code ++ num1 r.misses ++ num1 r.lastStatus.code ++ num1 r.pending.code

/-- The closure reason set in one byte (11.1). -/
def reasonBytes (rs : List Reason) : List Byte := num1 (setBits Reason.all rs)

/-- A notice set in two bytes (11.1). -/
def noticeBytes (ns : List Notice) : List Byte := num 2 (setBits Notice.all ns)

/-- A rights set in one byte (11.1). -/
def rightsBytes (rs : List RightsClass) : List Byte := num1 (setBits RightsClass.all rs)

/-- Frames remaining in two bytes: 0xFFFF for endless (11.1). -/
def remainingBytes : Option Nat → List Byte
  | none => num 2 0xFFFF
  | some n => num 2 n

/-! ## Display bus bytes (11.3) -/

/-- A call row's status code, and its expected minute or 0. -/
def rowStatusBytes : RowStatus → List Byte
  | .onTime => num1 0 ++ num 2 0
  | .expected m => num1 1 ++ num 2 m
  | .delayed => num1 2 ++ num 2 0
  | .cancelled => num1 3 ++ num 2 0
  | .departed => num1 4 ++ num 2 0

/-- A row of 10 bytes. -/
def rowBytes : Row → List Byte
  | .call service d dest sched st =>
    num1 1 ++ num 2 service ++ num1 d.code ++ num1 dest ++ num 2 sched ++ rowStatusBytes st
  | .message m => num1 2 ++ num 2 m.code ++ num 7 0
  | .blank => num1 0 ++ num 9 0

/-- The address byte: the 7-bit bus address 0x40 + n, then the direction bit, 0 for a write and 1 for a
read (R143; the bit's values are PRESUMED from I2C, log 18). -/
def addressByte (t : Transaction) : Byte :=
  let address := 0x40 + (t.panel.val + 1)
  match t.kind with
  | .readStatus => BitVec.ofNat 8 (2 * address + 1)
  | .sleep => BitVec.ofNat 8 (2 * address)
  | .wake => BitVec.ofNat 8 (2 * address)
  | .writeRows _ _ => BitVec.ofNat 8 (2 * address)

/-- The bytes a write transaction sends after its address byte; a READ_STATUS sends none (11.3). -/
def transactionBytes (t : Transaction) : List Byte :=
  match t.kind with
  | .sleep => [0x01]
  | .wake => [0x02]
  | .writeRows brightness rows =>
    [0x10] ++ num1 brightness ++ num1 rows.length ++ rows.flatMap rowBytes
  | .readStatus => []

/-- The bytes of a reply frame (R191, 11.1). -/
def ReplyFlags.byte (f : ReplyFlags) : Byte :=
  BitVec.ofNat 8
    ((if f.overrun then 1 else 0) + (if f.noticesPending then 2 else 0) + (if f.requoted then 4 else 0) +
      (if f.notApplied then 8 else 0))

/-- A reply frame: length, echo, result, flags, body (11.1). -/
def Reply.bytes (r : Reply) : List Byte :=
  [BitVec.ofNat 8 (3 + r.body.length), r.echo, BitVec.ofNat 8 r.result.code, r.flags.byte] ++ r.body

end Sys2Proof.Machine
end

