-- ==== Sys2Proof/Machine/Flags.lean ====
section
/-! DEFINITION. Flags.lean: every condition the rules compute from held state and test at the moment they
need it: call conditions, free counts, readiness, the sales state, the values in force. -/

namespace Sys2Proof.Machine

/-! ## The clock and the calls (chapters 1 and 2) -/

/-- The highest railway-day second (R1). -/
abbrev lastSecond : Nat := 86399

/-- The highest day number (R2). -/
abbrev lastDay : Nat := 65535

/-- The now minute (Terms). -/
def Clock.minute (c : Clock) : Nat := c.second / 60

/-- A moment `n` seconds after now, as a railway-day second (R74, R115, R173). -/
def Clock.after (c : Clock) (n : Nat) : Nat := (c.second + n) % 86400

/-- A load period's end second: now plus the time left on its end timer, modulo 86400 (8.3; log 26). -/
def LoadPeriod.endSecond (c : Clock) (l : LoadPeriod) : Nat := c.after l.endTimer

/-- The expected minute E (R27). -/
def Call.expected (c : Call) : Nat :=
  match c.report with
  | none => c.scheduled
  | some r => c.scheduled + (r.delay - r.allowance)

/-- On sale (R28): in TODAY the now minute is below E − 1, in TOMORROW at any minute. -/
def Call.onSale (now : Nat) (t : TableName) (c : Call) : Bool :=
  decide (c.state = .scheduled) &&
    match t with
    | .today => decide (now + 1 < c.expected)
    | .tomorrow => true

/-- Overdue (R29). -/
def Call.overdue (now : Nat) (c : Call) : Bool :=
  decide (c.state = .scheduled ∧ c.expected + 2 ≤ now)

/-- Due to lapse at a tick (R30). -/
def Call.lapses (now : Nat) (c : Call) : Bool :=
  decide (c.state = .scheduled ∧ c.expected + 60 ≤ now)

/-- The actual minute of a departed call (R15). -/
def Call.actualMinute (c : Call) : Nat := c.actual.getD 0 / 60

/-- The test of the removed-from-display flag (R15): a LAPSED call, a DEPARTED one from two minutes after
its actual minute, a CANCELLED one from its scheduled minute. -/
def Call.pastDisplay (now : Nat) (c : Call) : Bool :=
  match c.state with
  | .scheduled => false
  | .cancelled => decide (c.scheduled ≤ now)
  | .departed => decide (c.actualMinute + 2 ≤ now)
  | .lapsed => true

/-- A horizon call (R135): displayable, with E at most 15 minutes ahead. -/
def Call.horizon (now : Nat) (c : Call) : Bool :=
  !c.removed && decide (c.expected ≤ now + 15)

/-- A live day table by its name. -/
def Store.table (st : Store) : TableName → Option DayTable
  | .today => st.today
  | .tomorrow => st.tomorrow

/-- The calls of a table; an EMPTY one holds none (R13). -/
def callsOf : Option DayTable → List Call
  | none => []
  | some t => t.calls

/-- A table's call with a service id. -/
def findCall (calls : List Call) (service : Nat) : Option Call :=
  calls.find? (fun c => decide (c.service = service))

/-- The call a reference names, if its table holds it. -/
def Store.call (st : Store) (r : CallRef) : Option Call := findCall (callsOf (st.table r.table)) r.service

/-- Whether TODAY holds a horizon call at a minute (R135). -/
def Store.hasHorizon (st : Store) (now : Nat) : Bool := (callsOf st.today).any (Call.horizon now)

/-- Whether a reference's call exists and is on sale (R28). -/
def State.refOnSale (s : State) (r : CallRef) : Bool :=
  match s.store.call r with
  | none => false
  | some c => c.onSale s.clock.minute r.table

/-! ## Sales, stock and cards (chapter 4) -/

/-- The sales state is OPEN (R69). -/
def Sales.isOpen (x : Sales) : Bool := x.reasons.isEmpty

/-- The serials of a block still to be issued (R88). -/
def StockBlock.left (b : StockBlock) : Nat := b.last + 1 - b.next

/-- Remaining stock (R88). -/
def Sales.remaining (x : Sales) : Nat := (x.blocks.map StockBlock.left).sum

/-- A card matches an entry (R94). -/
def RvlEntry.hits (card : Nat) (e : RvlEntry) : Bool :=
  decide (card / 2 ^ e.ignore = e.card / 2 ^ e.ignore)

/-- A card is revoked (R94). -/
def State.isRevoked (s : State) (card : Nat) : Bool :=
  s.revoked.toList.any (fun e => match e with
    | none => false
    | some e => e.hits card)

/-- The card check of a fare request (R75): a given card matches no entry. -/
def State.cardRevoked (s : State) (r : FareRequest) : Bool :=
  match r.concession with
  | none => false
  | some c => s.isRevoked c.card

/-- The on-sale check of a fare request (R75): a named target is on sale. -/
def State.targetOnSale (s : State) (r : FareRequest) : Bool :=
  match r.target with
  | none => true
  | some t => s.refOnSale t

/-! ## The journal and the scheduler (chapter 5) -/

/-- The journal's size (R99). -/
abbrev journalSize : Nat := 2048

/-- The last sequence number (R101). -/
abbrev lastSequence : Nat := 4294967295

/-- The free count, taken as 0 once the last sequence number has been appended (R99, R101). -/
def Journal.free (j : Journal) : Nat :=
  if lastSequence < j.nextSequence then 0 else journalSize - j.entries.length

/-- The entries UNSENT. -/
def Journal.unsent (j : Journal) : List Entry := j.entries.filter (fun e => decide (e.state = .unsent))

/-- The room each entry kind needs (R102). -/
def EntryKind.room : EntryKind → Nat
  | .sale _ _ _ _ _ => 2
  | .void _ _ => 1
  | .unmatchedPassage _ _ _ _ => 3
  | .lapsedCall _ _ => 3
  | .timetable _ _ => 3
  | .supply _ => 3
  | .start _ => 3

/-- The scheduler permits a link-port take (R114): in DUE, or at the high-water of 1536 held. -/
def State.takePermitted (s : State) : Bool :=
  decide (s.scheduler.state = .due) || decide (1536 ≤ s.journal.entries.length)

/-- The link port is ready to take (R120). -/
def State.linkReady (s : State) : Bool :=
  s.takePermitted && !s.journal.unsent.isEmpty && s.journal.batch.isNone

/-! ## Values in force (chapters 6, 7, 8) -/

/-- The sleep-after in force, in minutes (R126). -/
def State.sleepAfterInForce (s : State) : Nat :=
  match s.supply.state with
  | .normal => s.compositor.sleepAfter
  | .economy => max 1 (s.compositor.sleepAfter / 2)
  | .reserve => max 1 (s.compositor.sleepAfter / 2)

/-- The interval in force, in seconds, of an interval setting in a supply state (R148). -/
def intervalFor (setting : Nat) : SupplyState → Nat
  | .normal => setting
  | .economy => if setting = 0 then 4 else min (4 * setting) 60
  | .reserve => 60

/-- The interval in force (R148). -/
def State.intervalInForce (s : State) : Nat := intervalFor s.bus.interval s.supply.state

/-- Frames run back to back (R149): INTERVAL pacing with an interval in force of 0. -/
def State.backToBack (s : State) : Bool :=
  decide (s.bus.pacing = .interval ∧ s.intervalInForce = 0)

/-- The brightness cap (R132). -/
def brightnessCap : SupplyState → Nat
  | .normal => 7
  | .economy => 3
  | .reserve => 1

/-- The economy recovery level (R167). -/
def Supply.economyRecovery (x : Supply) : Nat := min (x.economy + 1) 7

/-- The reserve recovery level (R167). -/
def Supply.reserveRecovery (x : Supply) : Nat := x.reserve + 1

/-- The floor level (R167). -/
def Supply.floor (x : Supply) : Nat := x.reserve - 1

/-- The class of a sample (R167): level n stands at 11.0 V + n × 0.2 V. -/
def classOf (millivolts : Nat) : SampleClass :=
  if millivolts < 11000 then .under else .level (min ((millivolts - 11000) / 200) 7)

/-- A sample is below a level (R167). -/
def SampleClass.below (c : SampleClass) (level : Nat) : Bool :=
  match c with
  | .under => true
  | .level n => decide (n < level)

/-! ## Panels (chapter 6) -/

/-- A panel entitled to rows (R127, R133). -/
def Panel.entitled (r : Panel) : Bool := decide (r.state = .awake ∧ r.pending ≠ .sleep)

/-- A panel's directions admit a call's (R128). -/
def PanelDirections.admits (d : PanelDirections) (c : Direction) : Bool :=
  match d, c with
  | .both, _ => true
  | .up, .up => true
  | .up, .down => false
  | .down, .down => true
  | .down, .up => false

/-! ## Ports (chapter 10) -/

/-- ATTN is active exactly while the notice set is not empty (R195). -/
def PortControl.attn (c : PortControl) : Bool := !c.notices.isEmpty

/-- REPLY is active exactly while the slot holds a reply (R190, R191). -/
def PortControl.replyLine (c : PortControl) : Bool := c.slot.isSome

/-- The recipients of each notice kind but the two that go to a holder (R195). -/
def Notice.recipients : Notice → List Port
  | .stockLow => [.link, .service]
  | .uploadDue => [.link]
  | .supplyChanged => [.terminal, .link, .service]
  | .salesState => [.terminal, .service]
  | .timetableNeeded => [.link, .service]
  | .stagingDiscarded => []
  | .batchTimedOut => []
  | .panelFault => [.service]
  | .panelBusFault => [.link, .service]
  | .displayStopped => [.service]
  | .displayOverrun => [.service]
  | .treadleFault => [.link, .service]
  | .restarted => [.terminal, .link, .service]

/-- The rights class of each request (10.2). -/
def reqClass : ReqCode → RightsClass
  | .quote => .sales
  | .issue => .sales
  | .void => .sales
  | .loadBegin => .sales
  | .loadEnd => .sales
  | .timeSet => .timetable
  | .ttBegin => .timetable
  | .ttCalls => .timetable
  | .ttEnd => .timetable
  | .svcUpdate => .timetable
  | .fareRangeWrite => .tables
  | .farePriceWrite => .tables
  | .fareParamWrite => .tables
  | .fareConcessionWrite => .tables
  | .farePeakWrite => .tables
  | .rvlWrite => .tables
  | .rvlClearAll => .tables
  | .stockAdd => .tables
  | .batchTake => .journal
  | .batchAck => .journal
  | .batchFail => .journal
  | .linkResume => .journal
  | .panelConfig => .config
  | .displayControl => .config
  | .supplyLevels => .config
  | .treadleMode => .config
  | .salesSuspend => .config
  | .salesResume => .config
  | .setRights => .config
  | .portReset => .config
  | .status => .read
  | .listCalls => .read
  | .fareRead => .read
  | .rvlRead => .read
  | .readCounters => .read
  | .readNotices => .read

/-- The core domain runs (R4). -/
def State.running (s : State) : Bool := decide (s.core = .up)

/-- A port receives transfers (R187): the core domain runs and the port is not HELD. -/
def State.receives (s : State) (p : Port) : Bool :=
  s.running && decide ((s.ports.get p).condition = .run)

end Sys2Proof.Machine
end

