-- ==== Sys2Proof/Machine/Ops.lean ====
section
/-! DEFINITION. Ops.lean: the operations every block shares. Notices, counters, the closure reason set,
journal appends with their messages, and what a port controller does with a request frame. -/

namespace Sys2Proof.Machine

/-- What `exec` answers. -/
abbrev Outcome := Host.Outcome State Fault Refusal

/-! ## Notices (R195) -/

/-- A kind added to one port's notice set. -/
def PortControl.noticed (k : Notice) (c : PortControl) : PortControl :=
  { c with notices := setInsert Notice.all k c.notices }

/-- A kind posted to named ports. -/
def postTo (k : Notice) (names : List Port) (s : State) : State :=
  { s with ports := s.ports.imap (fun p c => if p ∈ names then c.noticed k else c) }

/-- A kind posted to its recipients. -/
def post (k : Notice) (s : State) : State := postTo k k.recipients s

/-! ## Counters (R179, R180) -/

/-- A counter's place in the bank: its number minus 1. -/
def Counter.index : Counter → Fin 24
  | .issuedSingle => 0
  | .issuedReturn => 1
  | .voided => 2
  | .revenuePeak => 3
  | .revenueOffPeak => 4
  | .refusedQuotes => 5
  | .refusedIssues => 6
  | .requotedIssues => 7
  | .cardRevoked => 8
  | .passagesMatched => 9
  | .passagesUnmatched => 10
  | .passagesMinor => 11
  | .treadleUnpaired => 12
  | .callsLapsed => 13
  | .journalDropped => 14
  | .batchesAcked => 15
  | .batchesFailed => 16
  | .framesSent => 17
  | .frameOverruns => 18
  | .panelMisses => 19
  | .busRecoveries => 20
  | .loadOverruns => 21
  | .supplyDowngrades => 22
  | .portFrameErrors => 23

/-- The limit at which a counter saturates (R180). -/
abbrev counterMax : Nat := 4294967295

/-- A counter's value. -/
def State.counter (s : State) (c : Counter) : Nat := s.counters[c.index]

/-- A counter increased by an amount, saturating (R180). -/
def countBy (c : Counter) (n : Nat) (s : State) : State :=
  { s with counters := s.counters.set c.index.val (min (s.counters[c.index] + n) counterMax) }

/-- A counter increased by 1. -/
def count (c : Counter) (s : State) : State := countBy c 1 s

/-! ## The closure reason set (R69) -/

/-- The reason set replaced; a change notices SALES_STATE. -/
def changeReasons (rs : List Reason) (s : State) : State :=
  if rs = s.sales.reasons then s
  else post .salesState { s with sales := { s.sales with reasons := rs } }

/-- A reason added. -/
def addReason (r : Reason) (s : State) : State :=
  changeReasons (setInsert Reason.all r s.sales.reasons) s

/-- A reason removed. -/
def removeReason (r : Reason) (s : State) : State := changeReasons (setErase r s.sales.reasons) s

/-! ## The journal's messages and appends (R100 to R104, R121) -/

/-- The journal's message to the sales controller when the free count has crossed the limit of 2 between
`before` and the present (R104). -/
def freeMessage (before : Journal) (s : State) : State :=
  if 2 ≤ before.free ∧ s.journal.free < 2 then addReason .journalFull s
  else if before.free < 2 ∧ 2 ≤ s.journal.free then removeReason .journalFull s
  else s

/-- UPLOAD_DUE, noticed when the link port is ready now and was not at `before` (R121). -/
def uploadDue (before s : State) : State :=
  if !before.linkReady && s.linkReady then post .uploadDue s else s

/-- The entry an append adds: next sequence number, the clock's stamp, UNSENT (R100). -/
def newEntry (k : EntryKind) (s : State) : Entry :=
  { sequence := s.journal.nextSequence, day := s.clock.day, second := s.clock.second, kind := k,
    state := .unsent }

/-- The journal with an entry added at the newest end (R100). -/
def pushEntry (k : EntryKind) (s : State) : State :=
  { s with journal := { s.journal with
      entries := s.journal.entries ++ [newEntry k s]
      nextSequence := s.journal.nextSequence + 1 } }

/-- An append under the room rule: the entry with the messages its step brings about, or a drop counted
in JOURNAL_DROPPED (R100, R102, R104, R121). -/
def append (k : EntryKind) (s : State) : State :=
  if s.journal.free < k.room then count .journalDropped s
  else uploadDue s (freeMessage s.journal (pushEntry k s))

/-! ## Request frames (R189, R191, R192) -/

/-- What an owner answers: the result, the flags of its own, and the body. -/
structure Answer where
  result : Result
  body : List Byte := []
  requoted : Bool := false
  notApplied : Bool := false
deriving DecidableEq, Repr

/-- An OK answer with a body. -/
def Answer.okWith (body : List Byte) : Answer := { result := .ok, body := body }

/-- An OK answer with no body. -/
def Answer.done : Answer := { result := .ok }

/-- A refusal with an empty body. -/
def Answer.refuse (r : Result) : Answer := { result := r }

/-- An owner's whole decision of a request: the state after it and its answer. -/
abbrev Owner := State → State × Answer

/-- A request that changes nothing. -/
def refuseWith (r : Result) : Owner := fun s => (s, .refuse r)

/-- The filler byte the data output carries while a request is received (R187). -/
abbrev filler : Byte := 0xFF

/-- One port's controller changed. -/
def setPort (p : Port) (c : PortControl) (s : State) : State := { s with ports := s.ports.set p c }

/-- A complete frame arrives on a port: the data output has carried filler for its bytes, and on the
terminal port the silence timer restarts and the condition is ACTIVE (R73, R187, R189). `bytes` counts
the frame's bytes; what the output carries for later bytes of the select period is not recorded: DESIGN CHOICE
(log 32). -/
def hear (p : Port) (bytes : Nat) (s : State) : State :=
  let s := setPort p { s.ports.get p with dataOut := List.replicate bytes filler } s
  match p with
  | .terminal => { s with sales := { s.sales with silence := some 300, silent := false } }
  | .link => s
  | .service => s

/-- A reply not read whole is discarded by a new request: the overrun mark is set and PORT_FRAME_ERRORS
counted (R191). -/
def discardUnread (p : Port) (s : State) : State :=
  if (s.ports.get p).slot.isSome then
    count .portFrameErrors (setPort p { s.ports.get p with slot := none, overrun := true } s)
  else s

/-- The reply frame of an answer as the port stands (R191, R192). -/
def replyOf (p : Port) (code : Byte) (a : Answer) (s : State) : Reply :=
  { echo := code
    result := a.result
    flags :=
      { overrun := (s.ports.get p).overrun
        noticesPending := (s.ports.get p).attn
        requoted := a.requoted
        notApplied := a.notApplied }
    body := a.body }

/-- The reply made and placed in the slot; making it clears the overrun mark (R191). It is made once the request
has been decided, so a READ_COUNTERS that discards an unread reply itself takes its snapshot, and zeroes, before the
PORT_FRAME_ERRORS count of that discard: DESIGN CHOICE (log 30). -/
def makeReply (p : Port) (code : Byte) (a : Answer) (s : State) : State :=
  let s := discardUnread p s
  setPort p
    { s.ports.get p with slot := some ⟨replyOf p code a s, 0⟩, overrun := false } s

/-- The three checks of the port controller and the owner's decision (R189, R203). -/
def decideRequest (p : Port) (c : ReqCode) (body : List Byte) (owner : Owner) : Owner := fun s =>
  if reqClass c ∈ (s.ports.get p).rights then
    if c.fits body then owner s else (s, .refuse .badRequest)
  else (s, .refuse .notPermitted)

/-- A transfer of `bytes` bytes that the port does not receive: a HELD port's data output carries filler,
and nothing else changes (R187); while the core supply is down the ports stand still (log 8). -/
def unheard (p : Port) (bytes : Nat) (s : State) : State :=
  if s.running then setPort p { s.ports.get p with dataOut := List.replicate bytes filler } s else s

/-- A complete request frame with a defined code (R187 to R191): ignored by a port that does not receive,
else heard, decided and answered in one step. The frame has a length byte, the code and the body. -/
def request (p : Port) (c : ReqCode) (body : List Byte) (owner : Owner) (s : State) : State :=
  if s.receives p then
    let r := decideRequest p c body owner (hear p (body.length + 2) s)
    makeReply p c.byte r.2 r.1
  else unheard p (body.length + 2) s

/-- The owner of a body of its row; a raw body that fits the length is refused by the owner (R204). -/
def onFields {α : Type} (b : Body α) (f : α → Owner) : Owner :=
  match b with
  | .fields x => f x
  | .raw _ => refuseWith .badRequest

/-! ## Events -/

/-- An event of the core domain: while the core supply is down the core domain stands still and the event
does nothing (R4; log 8). -/
def whenUp (f : State → State) (s : State) : State := if s.running then f s else s

end Sys2Proof.Machine
end

