-- ==== Sys2Proof/Machine/Frames.lean ====
section
/-! DEFINITION. Frames.lean: the display frame (chapters 6 and 7). Composition from a snapshot, the list a
frame builds, the running of the list, and the frames that run back to back of themselves after any
command. -/

namespace Sys2Proof.Machine

/-! ## Panel records -/

/-- The record of a panel. -/
def State.panel (s : State) (i : Fin 8) : Panel := s.compositor.panels[i]

/-- A panel record replaced. -/
def setPanel (i : Fin 8) (r : Panel) (s : State) : State :=
  { s with compositor := { s.compositor with panels := s.compositor.panels.set i.val r } }

/-- Every panel record changed. -/
def mapPanels (f : Panel → Panel) (v : Vector Panel 8) : Vector Panel 8 :=
  Vector.ofFn (fun i => f v[i])

/-- The panels in ascending address order. -/
def allPanels : List (Fin 8) := [0, 1, 2, 3, 4, 5, 6, 7]

/-! ## Composition at a frame start (R127 to R132) -/

/-- The displayable calls (R128). -/
def Store.displayable (st : Store) : List Call := (callsOf st.today).filter (fun c => !c.removed)

/-- The message in force of a snapshot (R130). -/
def State.messageNow (s : State) : Option Message :=
  if s.clock.valid = false then some .timeUnknown
  else if s.store.today.isNone then some .noTimetable
  else if s.sales.isOpen = false ∨ s.sales.silent then some .salesClosed
  else if s.store.displayable.isEmpty then some .noMoreTrains
  else none

/-- The display key of a call (R128). -/
def Call.displayKey (now : Nat) (c : Call) : Nat :=
  if c.state = .departed then c.actualMinute
  else if c.overdue now then now + 1
  else c.expected

/-- The order of calls on a panel: ascending key, scheduled minute, service id (R128). -/
def displayBefore (now : Nat) (a b : Call) : Bool :=
  decide (a.displayKey now < b.displayKey now ∨
    (a.displayKey now = b.displayKey now ∧
      (a.scheduled < b.scheduled ∨ (a.scheduled = b.scheduled ∧ a.service ≤ b.service))))

/-- A call put into its place in an ordered list. -/
def insertCall (now : Nat) (c : Call) : List Call → List Call
  | [] => [c]
  | d :: ds => if displayBefore now c d then c :: d :: ds else d :: insertCall now c ds

/-- Calls in display order (R128). -/
def displayOrder (now : Nat) : List Call → List Call
  | [] => []
  | c :: cs => insertCall now c (displayOrder now cs)

/-- The status of a call row, with its expected minute (R129). -/
def Call.rowStatus (now : Nat) (c : Call) : RowStatus :=
  if c.state = .departed then .departed
  else if c.state = .cancelled then .cancelled
  else if c.overdue now then .delayed
  else if c.scheduled + 2 ≤ c.expected then .expected (c.expected % 1440)
  else .onTime

/-- The call row of a call (R129). -/
def Call.row (now : Nat) (c : Call) : Row :=
  .call c.service c.direction c.destination c.scheduled (c.rowStatus now)

/-- The first `n` rows, filled with blanks. -/
def padRows (n : Nat) (rows : List Row) : List Row :=
  rows.take n ++ List.replicate (n - rows.length) .blank

/-- The rows of a panel from its ordered call rows and the message in force (R131). -/
def fillRows (n : Nat) (calls : List Row) (m : Option Message) : List Row :=
  if 2 ≤ n then
    match m with
    | some m => padRows (n - 1) calls ++ [.message m]
    | none => padRows n calls
  else
    match calls, m with
    | c :: _, _ => [c]
    | [], some m => [.message m]
    | [], none => [.blank]

/-- The rows of a panel record in a snapshot (R128, R131). -/
def State.rowsFor (s : State) (r : Panel) : List Row :=
  let now := s.clock.minute
  let calls := displayOrder now (s.store.displayable.filter (fun c => r.directions.admits c.direction))
  fillRows r.rows (calls.map (Call.row now)) s.messageNow

/-- The panels given a row set: every entitled panel, in RESERVE the lowest-addressed one (R127). -/
def State.rowPanels (s : State) : List (Fin 8) :=
  let entitled := allPanels.filter (fun i => (s.panel i).entitled)
  if s.supply.state = .reserve then entitled.take 1 else entitled

/-- The brightness and row set handed over for a panel, if any (R127, R132). -/
def State.rowSet (s : State) (i : Fin 8) : Option (Nat × List Row) :=
  if i ∈ s.rowPanels then
    some (min (s.panel i).brightness (brightnessCap s.supply.state), s.rowsFor (s.panel i))
  else none

/-- The message in force set at a frame start (R127, R130). -/
def setMessage (s : State) : State :=
  { s with compositor := { s.compositor with message := s.messageNow } }

/-- The controller's fields replaced. -/
def setBus (b : DisplayBus) (s : State) : State := { s with bus := b }

/-- The transaction in progress: a RUNNING controller has started the one at its position (R154), which counts
from its line test on, the wait for a low clock line included (log 5). -/
def State.inProgress (s : State) : Option Transaction :=
  if s.bus.state = .running then s.bus.list[s.bus.position]? else none

/-- The bytes the controller drives in the transaction in progress: the address byte, then the bytes of a
write (R143, 11.3). -/
def State.busBytes (s : State) : List Byte :=
  match s.inProgress with
  | none => []
  | some t => addressByte t :: transactionBytes t

/-! ## Entering STOPPED, FAULT and IDLE -/

/-- STOPPED: the run mark and the stop mark cleared, the cause removed, the frame timer stopped, the rest
of the list dropped (R155, R164). That the stop mark is cleared here, when it is acted on, is a DESIGN CHOICE
(log 33). -/
def stopDisplay (s : State) : State :=
  setBus
    { s.bus with
      state := .stopped, cause := none, runMark := false, stopMark := false, frameTimer := none
      list := [], position := 0, startDue := false } s

/-- Entry to FAULT (R160). -/
def enterFault (c : FaultCause) (s : State) : State :=
  post .panelBusFault
    (setBus
      { s.bus with
        state := .fault, cause := some c, stopMark := false, list := [], position := 0
        startDue := false } s)

/-- IDLE; frames that run back to back raise a frame start on entry (R149). The raised start is held in
`startDue` until it is taken, in the same step (`settle`). -/
def enterIdle (s : State) : State :=
  setBus
    { s.bus with
      state := .idle, cause := none, list := [], position := 0, startDue := s.backToBack } s

/-! ## Building a frame (R152, R153) -/

/-- A probe timer is not running: it is stopped, or its 60 s are over whether or not its expiry has been taken,
since a probe comes at the first frame that begins 60 s or more after its start (R153; log 3). -/
def probeOver (t : Option Nat) : Bool := decide (t = none ∨ t = some 0)

/-- A probe is placed for an ABSENT panel whose probe timer is not running (R152). -/
def State.placesProbe (s : State) (i : Fin 8) : Bool :=
  (s.panel i).configured && decide ((s.panel i).state = .absent) && probeOver s.bus.probes[i]

/-- The transactions of one panel, in the order of R152. -/
def State.panelTransactions (s : State) (routine : Bool) (i : Fin 8) : List Transaction :=
  let r := s.panel i
  if r.configured then
    (match r.pending with
     | .none => []
     | .sleep => [⟨i, .sleep⟩]
     | .wake => [⟨i, .wake⟩]) ++
    (match s.rowSet i with
     | none => []
     | some (b, rows) => [⟨i, .writeRows b rows⟩]) ++
    (if routine ∧ (r.state = .awake ∨ r.state = .asleep) then [⟨i, .readStatus⟩] else []) ++
    (if s.placesProbe i then [⟨i, .readStatus⟩] else [])
  else []

/-- The transaction list of a frame (R152). -/
def State.buildList (s : State) (routine : Bool) : List Transaction :=
  allPanels.flatMap (s.panelTransactions routine)

/-- The frame that begins carries routine status reads: the status cycle count reaches 30 (R152). -/
def State.routineFrame (s : State) : Bool := decide (30 ≤ s.bus.cycle + 1)

/-- A frame begun and its list built, nothing started yet (R152, R153). -/
def buildFrame (s : State) : State :=
  let routine := s.routineFrame
  setMessage
    (setBus
      { s.bus with
        state := .running
        cycle := if routine then 0 else s.bus.cycle + 1
        tried := false
        list := s.buildList routine
        position := 0
        probes := Vector.ofFn (fun i => if s.placesProbe i then some 60 else s.bus.probes[i])
        sinceFrame := some 0
        startDue := false } s)

/-! ## Running a frame (R154 to R157) -/

/-- A WRITE_ROWS is withdrawn when its panel is no longer entitled to rows (R133). -/
def State.isWithdrawn (s : State) (t : Transaction) : Bool :=
  match t.kind with
  | .writeRows _ _ => !(s.panel t.panel).entitled
  | .sleep => false
  | .wake => false
  | .readStatus => false

/-- How many transactions at the head of a list are withdrawn. -/
def State.withdrawnAhead (s : State) : List Transaction → Nat
  | [] => 0
  | t :: ts => if s.isWithdrawn t then 1 + s.withdrawnAhead ts else 0

/-- A frame is complete (R155). -/
def completeFrame (s : State) : State :=
  let s := count .framesSent s
  match s.bus.remaining with
  | none => enterIdle s
  | some n =>
    if n ≤ 1 then post .displayStopped (stopDisplay (setBus { s.bus with remaining := some 0 } s))
    else enterIdle (setBus { s.bus with remaining := some (n - 1) } s)

/-- Stuck data at a line test (R157). -/
def stuckData (s : State) : State :=
  if s.bus.autoRecovery ∧ s.bus.tried = false then
    count .busRecoveries (setBus { s.bus with state := .recovering .auto, tried := true } s)
  else enterFault .stuckData s

/-- The next transaction from the position on: withdrawn ones are passed over, the frame completes at the
end of its list, and a start makes the line test (R133, R154, R155, R157). -/
def startNext (line : DataLine) (s : State) : State :=
  let pos := s.bus.position + s.withdrawnAhead (s.bus.list.drop s.bus.position)
  if s.bus.list.length ≤ pos then completeFrame s
  else
    let t := setBus { s.bus with state := .running, position := pos } s
    match line with
    | .released => t
    | .low => stuckData t

/-- A frame begins (R152). -/
def beginFrame (line : DataLine) (s : State) : State := startNext line (buildFrame s)

/-- A frame start raised on entry to IDLE is still to be taken (R149). -/
def State.frameDue (s : State) : Bool :=
  s.bus.startDue && decide (s.bus.state = .idle) && s.backToBack

/-- Due frame starts taken, `fuel` of them at most, each when the frame before it has completed; `line` is
the data line at the one line test that ends them (R149, R155). -/
def takeDue (line : DataLine) : Nat → State → State
  | 0, s => s
  | fuel + 1, s => if s.frameDue then takeDue line fuel (beginFrame line s) else s

/-- How many empty frames decide the matter: those that end a counted run (R156), or in an endless one a
whole status cycle, since a list that is empty at every status cycle count stays empty (R152). -/
def State.dueFrames (s : State) : Nat :=
  match s.bus.remaining with
  | none => 30
  | some n => max 1 n

/-- Empty frames that run back to back without an end: one is taken, which sets the message in force, and the
number of those that follow it before the next command is a free value (log 9). -/
def emptyFrames (line : DataLine) (s : State) : State :=
  let k := Config.emptyFrames s.draws
  let t := countBy .framesSent k (beginFrame line s)
  setBus { t.bus with cycle := (t.bus.cycle + k) % 30 } { t with draws := s.draws + 1 }

/-- The frame starts that are due, taken at once (R149): empty frames follow one another until a list is not
empty or a counted run ends. -/
def framesRun (line : DataLine) (s : State) : State :=
  let t := takeDue line s.dueFrames s
  if t.frameDue then emptyFrames line s else t

/-- Whether frame starts are due in a running core domain. -/
def State.restless (s : State) : Bool := s.running && s.frameDue

/-- What follows a command that carries the data line's level: frames that run back to back are taken at
once, before another command (R149). -/
def settleAt (line : DataLine) (s : State) : State := if s.restless then framesRun line s else s

/-- The data line at the line test of a frame that no command's operand tells of: a free value (log 9). -/
def State.ownLine (s : State) : DataLine :=
  if Config.dataLowAtDueStart s.draws then .low else .released

/-- What follows every other command: as `settleAt`, with the data line's level a free value (R149). -/
def settle (s : State) : State :=
  if s.restless then framesRun s.ownLine { s with draws := s.draws + 1 } else s

end Sys2Proof.Machine
end

