-- ==== Sys2Proof/Machine/Fare.lean ====
section
/-! DEFINITION. Fare.lean: the fare unit (chapter 3). The table writes and reads, and the stages of the
fare computation. -/

namespace Sys2Proof.Machine

/-! ## Table writes (R48 to R55) -/

/-- A first code rounded down to a multiple of 4 (R49, step 2). -/
def alignFirstCode (n : Nat) : Nat := n / 4 * 4

/-- A last code rounded up to 3 above a multiple of 4, at most 4095 (R49, step 3). -/
def alignLastCode (n : Nat) : Nat := min (n / 4 * 4 + 3) 4095

/-- A range entry stored at an index (R49, step 5). -/
def setRange (i : Nat) (e : Option RangeEntry) (s : State) : State :=
  { s with fares := { s.fares with ranges := s.fares.ranges.setIfInBounds i e } }

/-- FARE_RANGE_WRITE (R49). -/
def fareRangeWrite (f : FareRangeBody) : Owner := fun s =>
  let i := f.index.toNat
  if 31 < i then (s, .refuse .badRequest)
  else
    match flagOf f.valid with
    | none => (s, .refuse .badRequest)
    | some false => (setRange i none s, .okWith (rangeBytes i none))
    | some true =>
      if f.distance.toNat = 0 then (s, .refuse .badRequest)
      else if alignLastCode f.last.toNat < alignFirstCode f.first.toNat then (s, .refuse .badRange)
      else
        let e : RangeEntry :=
          ⟨alignFirstCode f.first.toNat, alignLastCode f.last.toNat, min f.distance.toNat 15⟩
        (setRange i (some e) s, .okWith (rangeBytes i (some e)))

/-- Prices stored at an index of the row and above, each at most 50,000 (R51). -/
def storePrices (row : Vector Nat 15) (i : Nat) : List (BitVec 24) → Vector Nat 15
  | [] => row
  | p :: ps => storePrices (row.setIfInBounds i (min p.toNat 50000)) (i + 1) ps

/-- The fares-loaded flag of a price row (R52). -/
def anyPrice (row : Vector Nat 15) : Bool := row.toList.any (fun p => decide (0 < p))

/-- The fare unit's message when its flag has changed (R52). -/
def faresMessage (before after : Bool) (s : State) : State :=
  if before = after then s
  else if after then removeReason .noFares s
  else addReason .noFares s

/-- FARE_PRICE_WRITE (R51, R52). -/
def farePriceWrite (f : FarePriceBody) : Owner := fun s =>
  let d := f.first.toNat
  if d = 0 ∨ 15 < d ∨ 15 < d + f.prices.length - 1 then (s, .refuse .badRequest)
  else
    let row := storePrices s.fares.prices (d - 1) f.prices
    let loaded := anyPrice row
    let t := { s with fares := { s.fares with prices := row, loaded := loaded } }
    (faresMessage s.fares.loaded loaded t, .okWith (priceRowBytes t.fares))

/-- The rounding step stored: any value other than 1, 5, 10 and 50 is taken as 10 (R53). -/
def stepOf (n : Nat) : Nat := if n = 1 ∨ n = 5 ∨ n = 50 then n else 10

/-- FARE_PARAM_WRITE (R53). -/
def fareParamWrite (f : FareParamBody) : Owner := fun s =>
  let t := { s with fares := { s.fares with
      returnPercent := clamp 100 250 f.returnPercent.toNat
      offPeakPercent := clamp 30 100 f.offPeakPercent.toNat
      childPercent := clamp 0 100 f.childPercent.toNat
      step := stepOf f.step.toNat
      capMultiple := clamp 2 10 f.capMultiple.toNat } }
  (t, .okWith (paramBytes t.fares))

/-- FARE_CONCESSION_WRITE (R54). -/
def fareConcessionWrite (f : FareConcessionBody) : Owner := fun s =>
  if f.cls.toNat = 0 ∨ 7 < f.cls.toNat then (s, .refuse .badRequest)
  else
    match appliesToOf f.appliesTo with
    | none => (s, .refuse .badRequest)
    | some a =>
      let c : Concession := ⟨min f.discount.toNat 90, a⟩
      ({ s with fares := { s.fares with
          concessions := s.fares.concessions.setIfInBounds f.cls.toNat c } },
        .okWith (concessionBytes f.cls.toNat c))

/-- FARE_PEAK_WRITE (R55). -/
def farePeakWrite (f : FarePeakBody) : Owner := fun s =>
  if 3 < f.index.toNat ∨ 1439 < f.start.toNat ∨ 1440 < f.stop.toNat then (s, .refuse .badRequest)
  else
    let w : PeakWindow := ⟨f.start.toNat, f.stop.toNat⟩
    ({ s with fares := { s.fares with peaks := s.fares.peaks.setIfInBounds f.index.toNat w } },
      .okWith (peakBytes f.index.toNat w))

/-! ## FARE_READ (R56) -/

/-- A run of entries from an index, each written with its index. -/
def runBytes {α : Type} (write : Nat → α → List Byte) : Nat → List α → List Byte
  | _, [] => []
  | i, x :: xs => write i x ++ runBytes write (i + 1) xs

/-- The body of a FARE_READ reply: the first index and the number returned, then the entries in the form
of their write bodies; a PRICES reply ends with the fares-loaded flag (R56, 11.2; log 14). -/
def fareReadBytes (f : FareTables) (name : FareTableName) (first n : Nat) : List Byte :=
  match name with
  | .ranges => num1 first ++ num1 n ++ runBytes rangeBytes first ((f.ranges.toList.drop first).take n)
  | .prices => num1 1 ++ num1 15 ++ priceRowBytes f ++ flagByte f.loaded
  | .parameters => num1 0 ++ num1 1 ++ paramBytes f
  | .concessions => num1 0 ++ num1 8 ++ runBytes concessionBytes 0 f.concessions.toList
  | .peaks => num1 0 ++ num1 4 ++ runBytes peakBytes 0 f.peaks.toList

/-- A first index and a count name a run inside a list of `size` entries. -/
def runOk (size first n : Nat) : Bool := decide (first < size ∧ 1 ≤ n ∧ first + n ≤ size)

/-- FARE_READ (R56): the first index and count are ignored except for RANGES (11.1). -/
def fareRead (f : TableRunBody) : Owner := fun s =>
  match fareTableOf f.table with
  | none => (s, .refuse .badRequest)
  | some name =>
    if name = .ranges ∧ runOk 32 f.first.toNat f.count.toNat = false then (s, .refuse .badRequest)
    else (s, .okWith (fareReadBytes s.fares name f.first.toNat f.count.toNat))

/-! ## The computation (R58 to R68) -/

/-- The distance of a destination code: the valid entry at the lowest index that contains it (R50). -/
def FareTables.distanceOf (f : FareTables) (code : Nat) : Option Nat :=
  (f.ranges.toList.filterMap id).find? (fun e => decide (e.first ≤ code ∧ code ≤ e.last)) |>.map
    RangeEntry.distance

/-- The price at a distance 1..15 (R59). -/
def FareTables.priceAt (f : FareTables) (d : Nat) : Nat := (f.prices.toList[d - 1]?).getD 0

/-- A peak window contains a minute (R55). -/
def PeakWindow.contains (m : Nat) (w : PeakWindow) : Bool := decide (w.start ≤ m ∧ m < w.stop)

/-- A peak minute (R55). -/
def FareTables.isPeak (f : FareTables) (m : Nat) : Bool := f.peaks.toList.any (PeakWindow.contains m)

/-- The band of a day kind and a minute (R61). -/
def FareTables.band (f : FareTables) (kind : DayKind) (m : Nat) : Band :=
  if kind = .weekday ∧ f.isPeak m then .peak else .offPeak

/-- The band percentage B (R61). -/
def FareTables.bandPercent (f : FareTables) : Band → Nat
  | .peak => 100
  | .offPeak => f.offPeakPercent

/-- The return factor Rt (R62). -/
def FareTables.returnFactor (f : FareTables) : TicketType → Nat
  | .single => 100
  | .ret => f.returnPercent

/-- The exact value n / d rounded to the nearest multiple of `step`, halves upward (R63). -/
def roundTo (step n d : Nat) : Nat :=
  let q := n / (d * step)
  if 2 * (n - q * step * d) < step * d then q * step else (q + 1) * step

/-- The concession class a request names, with discount and applies-to (R64). -/
def FareTables.concessionOf (f : FareTables) (r : FareRequest) : Option Concession :=
  match r.concession with
  | none => none
  | some c => f.concessions.toList[c.cls]?

/-- The card holder (R65). -/
def holderOf (k : Option Concession) (adults : Nat) : Holder :=
  match k with
  | none => .none
  | some c =>
    if 1 ≤ adults then .adult
    else
      match c.appliesTo with
      | .all => .child
      | .adults => .none

/-- The sum T0 (R66). -/
def sumOf (h : Holder) (adults children a c a' c' : Nat) : Nat :=
  match h with
  | .adult => a' + (adults - 1) * a + children * c
  | .child => adults * a + c' + (children - 1) * c
  | .none => adults * a + children * c

/-- The fare result from the price, the band and the tables (R62 to R68). -/
def FareTables.price (f : FareTables) (r : FareRequest) (d p : Nat) (band : Band) : Fare :=
  let x := p * f.returnFactor r.ticket * f.bandPercent band
  let a := roundTo f.step x 10000
  let c := roundTo f.step (x * f.childPercent) 1000000
  let k := f.concessionOf r
  let a' := match k with
    | none => 0
    | some k => roundTo f.step (x * (100 - k.discount)) 1000000
  let c' := match k with
    | none => 0
    | some k => roundTo f.step (x * f.childPercent * (100 - k.discount)) 100000000
  let holder := holderOf k r.adults
  let t0 := sumOf holder r.adults r.children a c a' c'
  let cap := if 2 ≤ r.adults + r.children then some (f.capMultiple * a) else none
  { distance := d, price := p, band := band, adult := a, child := c, concAdult := a', concChild := c'
    holder := holder, sum := t0, cap := cap
    total := match cap with
      | none => t0
      | some m => min t0 m
    notApplied := decide (k.isSome ∧ holder = .none) }

/-- What the fare unit answers (R58). -/
inductive FareOutcome where
  | fare (x : Fare)
  | noFare
  | noSuch
deriving DecidableEq, Repr

/-- The band minute and band day kind (R60): the target's scheduled minute and its table's header kind, or
the now minute and the clock's day kind. `none` when a named target is absent. -/
def State.bandBasis (s : State) (r : FareRequest) : Option (Nat × DayKind) :=
  match r.target with
  | none => some (s.clock.minute, s.clock.kind)
  | some t =>
    match s.store.table t.table with
    | none => none
    | some tab =>
      match findCall tab.calls t.service with
      | none => none
      | some c => some (c.scheduled, tab.kind)

/-- The fare of a valid request, as the tables, the timetable and the clock stand (R58). -/
def State.computeFare (s : State) (r : FareRequest) : FareOutcome :=
  match s.fares.distanceOf r.destination with
  | none => .noFare
  | some d =>
    if s.fares.priceAt d = 0 then .noFare
    else
      match s.bandBasis r with
      | none => .noSuch
      | some (m, kind) => .fare (s.fares.price r d (s.fares.priceAt d) (s.fares.band kind m))

/-! ## The commands -/

/-- FARE_RANGE_WRITE. -/
def execFareRangeWrite (p : Port) (b : Body FareRangeBody) (s : State) : Outcome :=
  .next (settle (request p .fareRangeWrite (b.bytes writeFareRange) (onFields b fareRangeWrite) s))

/-- FARE_PRICE_WRITE. -/
def execFarePriceWrite (p : Port) (b : Body FarePriceBody) (s : State) : Outcome :=
  .next (settle (request p .farePriceWrite (b.bytes writeFarePrice) (onFields b farePriceWrite) s))

/-- FARE_PARAM_WRITE. -/
def execFareParamWrite (p : Port) (b : Body FareParamBody) (s : State) : Outcome :=
  .next (settle (request p .fareParamWrite (b.bytes writeFareParam) (onFields b fareParamWrite) s))

/-- FARE_CONCESSION_WRITE. -/
def execFareConcessionWrite (p : Port) (b : Body FareConcessionBody) (s : State) : Outcome :=
  .next (settle
    (request p .fareConcessionWrite (b.bytes writeFareConcession) (onFields b fareConcessionWrite) s))

/-- FARE_PEAK_WRITE. -/
def execFarePeakWrite (p : Port) (b : Body FarePeakBody) (s : State) : Outcome :=
  .next (settle (request p .farePeakWrite (b.bytes writeFarePeak) (onFields b farePeakWrite) s))

/-- FARE_READ. -/
def execFareRead (p : Port) (b : Body TableRunBody) (s : State) : Outcome :=
  .next (settle (request p .fareRead (b.bytes writeTableRun) (onFields b fareRead) s))

end Sys2Proof.Machine
end

