-- ==== Sys2Proof/Machine/Journal.lean ====
section
/-! DEFINITION. Journal.lean: the sales journal's batches and the upload scheduler (chapter 5). -/

namespace Sys2Proof.Machine

/-! ## Batches in flight -/

/-- An entry in an entry state. -/
def Entry.as (st : EntryState) (e : Entry) : Entry := { e with state := st }

/-- Every entry UNSENT, in its place and with its sequence number, and no batch in flight (R109). -/
def Journal.returned (j : Journal) : Journal :=
  { j with entries := j.entries.map (Entry.as .unsent), batch := none }

/-- The oldest `n` entries IN_FLIGHT (R107). -/
def markInFlight (n : Nat) (es : List Entry) : List Entry :=
  (es.take n).map (Entry.as .inFlight) ++ es.drop n

/-- How many of the oldest entries fit together in `room` bytes, at most `most` of them (R107). -/
def fitCount : Nat → Nat → List Entry → Nat
  | _, 0, _ => 0
  | _, _ + 1, [] => 0
  | room, most + 1, e :: es =>
    if e.bytes.length ≤ room then 1 + fitCount (room - e.bytes.length) most es else 0

/-- The bytes a batch's entries may take: a body of 252 less the id, the first sequence and the count
(R205, 11.2). -/
abbrev batchRoom : Nat := 245

/-- The next batch id: 65535 is followed by 1 (R105). -/
def nextBatchId (id : Nat) : Nat := if id = 65535 then 1 else id + 1

/-- The body of a batch (11.2). -/
def batchBytes (id first : Nat) (es : List Entry) : List Byte :=
  num 2 id ++ num 4 first ++ num1 es.length ++ es.flatMap Entry.bytes

/-! ## The scheduler -/

/-- The scheduler told of a success (R117). -/
def schedulerSuccess (s : State) : State :=
  { s with scheduler := { state := .due, failures := 0, wait := none, dueSecond := none } }

/-- The wait a failure draws, in units of 30 s: r in 0..2^k − 1 with k the smaller of n and 10 (R115).
The random value is free (log 6). -/
def backoffDraw (n draws : Nat) : Nat := Config.backoffDraw draws % 2 ^ min n 10

/-- The scheduler told of a failure (R115, R118). -/
def schedulerFailure (s : State) : State :=
  let n := min (s.scheduler.failures + 1) 16
  if n = 16 then
    { s with scheduler := { state := .held, failures := 16, wait := none, dueSecond := none } }
  else
    let r := backoffDraw n s.draws
    if r = 0 then
      { s with
        scheduler := { state := .due, failures := n, wait := none, dueSecond := none }
        draws := s.draws + 1 }
    else
      { s with
        scheduler :=
          { state := .waiting, failures := n, wait := some (r * 30)
            dueSecond := some (s.clock.after (r * 30)) }
        draws := s.draws + 1 }

/-- A holder's report reaches the scheduler when the holder is the link port (R108, R109). -/
def ifLink (p : Port) (f : State → State) (s : State) : State :=
  match p with
  | .terminal => s
  | .link => f s
  | .service => s

/-! ## BATCH_TAKE, BATCH_ACK, BATCH_FAIL, the timeout, the holder's reset -/

/-- The take carried out (R107). -/
def takeBatch (p : Port) (most : Nat) : Owner := fun s =>
  let j := s.journal
  let n := fitCount batchRoom most j.entries
  let first := (j.entries.head?.map Entry.sequence).getD 0
  ({ s with journal := { j with
        entries := markInFlight n j.entries
        nextBatch := nextBatchId j.nextBatch
        batch := some
          { id := j.nextBatch, holder := p, first := first, count := n, taken := s.clock.second,
            timer := 300 } } },
    .okWith (batchBytes j.nextBatch first (j.entries.take n)))

/-- BATCH_TAKE (R106, R114): the scheduler is asked for the link port alone. -/
def batchTake (p : Port) (f : BatchTakeBody) : Owner := fun s =>
  if f.maximum.toNat = 0 ∨ 32 < f.maximum.toNat then (s, .refuse .badRequest)
  else if s.journal.batch.isSome then (s, .refuse .busy)
  else if s.journal.unsent.isEmpty then (s, .refuse .nothingToSend)
  else if p = .link ∧ s.takePermitted = false then (s, .refuse .notDue)
  else takeBatch p f.maximum.toNat s

/-- The batch in flight that a port holds under an id, if there is one (R108, R110). -/
def Journal.heldBatch (j : Journal) (p : Port) (id : Nat) : Option Batch :=
  match j.batch with
  | none => none
  | some b => if b.id = id ∧ b.holder = p then some b else none

/-- The journal with a batch's entries removed from its oldest end (R108). -/
def Journal.acknowledged (j : Journal) (b : Batch) : Journal :=
  { j with entries := j.entries.drop b.count, batch := none }

/-- The reply to an acknowledgement: the count removed, and the oldest sequence still held after its
presence byte (R108, 11.2; log 14). -/
def ackBytes (b : Batch) (left : List Entry) : List Byte :=
  num1 b.count ++
    match left with
    | [] => num1 0 ++ num 4 0
    | e :: _ => num1 1 ++ num 4 e.sequence

/-- BATCH_ACK (R108, R110). -/
def batchAck (p : Port) (f : BatchIdBody) : Owner := fun s =>
  if f.id.toNat = 0 then (s, .refuse .badRequest)
  else
    match s.journal.heldBatch p f.id.toNat with
    | none => (s, .refuse .staleBatch)
    | some b =>
      let t := { s with journal := s.journal.acknowledged b }
      let t := ifLink p schedulerSuccess (count .batchesAcked t)
      (uploadDue s (freeMessage s.journal t), .okWith (ackBytes b t.journal.entries))

/-- A batch failed: its entries returned, BATCHES_FAILED counted, the scheduler told when the holder is
the link port (R109, R111). -/
def failBatch (holder : Port) (s : State) : State :=
  ifLink holder schedulerFailure (count .batchesFailed { s with journal := s.journal.returned })

/-- BATCH_FAIL (R109, R110). -/
def batchFail (p : Port) (f : BatchIdBody) : Owner := fun s =>
  if f.id.toNat = 0 then (s, .refuse .badRequest)
  else
    match s.journal.heldBatch p f.id.toNat with
    | none => (s, .refuse .staleBatch)
    | some _ => (uploadDue s (failBatch p s), .done)

/-- The timeout of the batch in flight (R111). A batch with seconds left on its timer does not time out, so the
timeout of a batch that has ended leaves a later one alone (R113; log 3). -/
def batchTimedOut (s : State) : State :=
  match s.journal.batch with
  | none => s
  | some b =>
    if b.timer = 0 then uploadDue s (postTo .batchTimedOut [b.holder] (failBatch b.holder s)) else s

/-- A port reset ends the batch the port holds, with no count and no report (R112). -/
def releaseBatch (p : Port) (s : State) : State :=
  match s.journal.batch with
  | none => s
  | some b =>
    if b.holder = p then uploadDue s { s with journal := s.journal.returned } else s

/-- LINK_RESUME (R119): from the link port alone. -/
def linkResume (p : Port) (_ : NoFields) : Owner := fun s =>
  match p with
  | .terminal => (s, .refuse .notPermitted)
  | .service => (s, .refuse .notPermitted)
  | .link =>
    let t := uploadDue s (schedulerSuccess s)
    (t, .okWith (num1 t.scheduler.state.code ++ num1 t.scheduler.failures))

/-- The wait timer expires (R116; a timer with seconds left does not, log 3). -/
def waitExpired (s : State) : State :=
  if s.scheduler.wait = some 0 then
    uploadDue s
      { s with scheduler := { s.scheduler with state := .due, wait := none, dueSecond := none } }
  else s

/-! ## The commands -/

/-- BATCH_TAKE. -/
def execBatchTake (p : Port) (b : Body BatchTakeBody) (s : State) : Outcome :=
  .next (settle (request p .batchTake (b.bytes writeBatchTake) (onFields b (batchTake p)) s))

/-- BATCH_ACK. -/
def execBatchAck (p : Port) (b : Body BatchIdBody) (s : State) : Outcome :=
  .next (settle (request p .batchAck (b.bytes writeBatchId) (onFields b (batchAck p)) s))

/-- BATCH_FAIL. -/
def execBatchFail (p : Port) (b : Body BatchIdBody) (s : State) : Outcome :=
  .next (settle (request p .batchFail (b.bytes writeBatchId) (onFields b (batchFail p)) s))

/-- LINK_RESUME. -/
def execLinkResume (p : Port) (b : Body NoFields) (s : State) : Outcome :=
  .next (settle (request p .linkResume (b.bytes writeNoFields) (onFields b (linkResume p)) s))

/-- BATCH_TIMEOUT. -/
def execBatchTimeout (s : State) : Outcome := .next (settle (whenUp batchTimedOut s))

/-- WAIT_EXPIRY. -/
def execWaitExpiry (s : State) : Outcome := .next (settle (whenUp waitExpired s))

end Sys2Proof.Machine
end

