-- ==== Sys2Proof/Machine/Sales.lean ====
section
/-! DEFINITION. Sales.lean: the sales controller (chapter 4). Quotes and their withdrawal, issue and
requote, void, serial stock, the revocation list, suspension, the per-port timers. -/

namespace Sys2Proof.Machine

/-! ## Per-port records -/

/-- One port's sales record replaced. -/
def setSales (p : Port) (x : PortSales) (s : State) : State :=
  { s with sales := { s.sales with ports := s.sales.ports.set p x } }

/-- The slot emptied with its timer stopped, and the mark "none" (R80, R97). -/
def PortSales.cleared (x : PortSales) : PortSales := { x with slot := none, mark := .none }

/-- A quote whose target satisfies a test; a quote with no target never does (R78, R79). -/
def Quote.targets (hit : CallRef → Bool) (q : Quote) : Bool :=
  match q.request.target with
  | none => false
  | some r => hit r

/-- A last-quote mark whose expired record is withdrawn when its target is hit (R78). -/
def QuoteMark.withdrawn (hit : CallRef → Bool) (m : QuoteMark) : QuoteMark :=
  match m with
  | .expired q => if q.targets hit then .invalidated q.number else m
  | .none => m
  | .invalidated _ => m

/-- A port's quote and expired record withdrawn when their target is hit (R78). A slot and an expired record
are not held together (R74). -/
def PortSales.withdrawn (hit : CallRef → Bool) (x : PortSales) : PortSales :=
  let kept := { x with mark := x.mark.withdrawn hit }
  match x.slot with
  | some q => if q.targets hit then { x with slot := none, mark := .invalidated q.number } else kept
  | none => kept

/-- A message that withdraws the quotes whose target is hit, on every port (R78). -/
def withdraw (hit : CallRef → Bool) (s : State) : State :=
  { s with sales := { s.sales with ports := s.sales.ports.imap (fun _ x => x.withdrawn hit) } }

/-- The message naming one call (R78). -/
def withdrawCall (r : CallRef) : State → State := withdraw (fun t => decide (t = r))

/-- The message that a whole table was dropped (R79). -/
def withdrawTable (t : TableName) : State → State := withdraw (fun r => decide (r.table = t))

/-- A target in TOMORROW re-pointed to the same service id in TODAY (R79). -/
def Quote.repointed (q : Quote) : Quote :=
  match q.request.target with
  | none => q
  | some r =>
    match r.table with
    | .today => q
    | .tomorrow => { q with request := { q.request with target := some ⟨.today, r.service⟩ } }

/-- A port's quote and expired record re-pointed (R79). -/
def PortSales.repointed (x : PortSales) : PortSales :=
  { x with
    slot := x.slot.map Quote.repointed
    mark := match x.mark with
      | .expired q => .expired q.repointed
      | .none => .none
      | .invalidated n => .invalidated n }

/-- The message that TOMORROW moved to TODAY (R79). -/
def repoint (s : State) : State :=
  { s with sales := { s.sales with ports := s.sales.ports.imap (fun _ x => x.repointed) } }

/-! ## QUOTE (R75, R76) -/

/-- The quote number after one: 255 is followed by 1 (R74). -/
def nextQuoteNumber (n : Nat) : Nat := if n = 255 then 1 else n + 1

/-- The SALES_CLOSED refusal, which carries the reason set (R69, 11.2). -/
def closedAnswer (s : State) : Answer := { result := .salesClosed, body := reasonBytes s.sales.reasons }

/-- The checks of QUOTE in their order (R75): a refusal, or the request and its fare. A refusal carries no
CONCESSION_NOT_APPLIED, even where the fare was computed without the concession: R192 and R65 do not limit the
flag to OK, R76 and R83 name it for OK alone (the model's choice, log 27). -/
def State.quoteChecks (s : State) (b : Body QuoteBody) : Except Answer (FareRequest × Fare) :=
  if s.sales.isOpen then
    match b with
    | .raw _ => .error (.refuse .badRequest)
    | .fields f =>
      match fareRequestOf f with
      | none => .error (.refuse .badRequest)
      | some r =>
        match s.computeFare r with
        | .noFare => .error (.refuse .noFare)
        | .noSuch => .error (.refuse .noSuch)
        | .fare x =>
          if s.targetOnSale r = false then .error (.refuse .notOnSale)
          else if s.cardRevoked r then .error (.refuse .cardRevoked)
          else if s.sales.remaining = 0 then .error (.refuse .stockEmpty)
          else .ok (r, x)
  else .error (closedAnswer s)

/-- A revoked card is counted beside the refusal (R75, R81, R82, R181). -/
def countRevoked (a : Answer) (s : State) : State :=
  if a.result = .cardRevoked then count .cardRevoked s else s

/-- The record of an accepted quote (R74, R76). -/
def State.newQuote (s : State) (p : Port) (r : FareRequest) (x : Fare) : Quote :=
  { number := (s.sales.ports.get p).nextQuote, request := r, fare := x, expiry := s.clock.after 120
    timer := 120 }

/-- QUOTE (R75, R76). -/
def quote (p : Port) (b : Body QuoteBody) : Owner := fun s =>
  match s.quoteChecks b with
  | .error a => (countRevoked a (count .refusedQuotes s), a)
  | .ok (r, x) =>
    let q := s.newQuote p r x
    (setSales p
        { s.sales.ports.get p with
          slot := some q, mark := .none, nextQuote := nextQuoteNumber q.number } s,
      { result := .ok, body := quoteBytes q, notApplied := x.notApplied })

/-! ## Serial stock (4.6) -/

/-- The stock after the next serial of the oldest block is taken: an exhausted block leaves the list
(R91). -/
def takeSerial : List StockBlock → List StockBlock
  | [] => []
  | b :: bs => if b.next = b.last then bs else { b with next := b.next + 1 } :: bs

/-- The next serial of the oldest block (R83 step 1). -/
def nextSerial : List StockBlock → Nat
  | [] => 0
  | b :: _ => b.next

/-- The stock tests after an issue (R83 step 6, R92). -/
def stockTests (s : State) : State :=
  let s := if s.sales.remaining = 0 then addReason .stockEmpty s else s
  if s.sales.remaining < 200 ∧ s.sales.lowMark = false then
    post .stockLow { s with sales := { s.sales with lowMark := true } }
  else s

/-- A first serial rounded up to a multiple of 100 (R89, step 2). -/
def alignFirstSerial (n : Nat) : Nat := (n + 99) / 100 * 100

/-- A last serial rounded down to 99 above a multiple of 100 (R89, step 2); below 99 there is none, and the
0 it gives lies below every aligned first. -/
def alignLastSerial (n : Nat) : Nat := (n + 1) / 100 * 100 - 1

/-- The checks and the alignment of STOCK_ADD in their order (R89). -/
def State.stockChecks (s : State) (f : StockAddBody) : Except Result StockBlock :=
  if f.first.toNat = 0 ∨ 99999999 < f.first.toNat ∨ f.last.toNat = 0 ∨ 99999999 < f.last.toNat then
    .error .badRange
  else
    let a := alignFirstSerial f.first.toNat
    let z := alignLastSerial f.last.toNat
    if z < a then .error .badRange
    else if a ≤ s.sales.horizon then .error .overlap
    else if 4 ≤ s.sales.blocks.length then .error .stockFull
    else .ok ⟨a, min z (a + 99999), a⟩

/-- STOCK_ADD (R89, R90). -/
def stockAdd (f : StockAddBody) : Owner := fun s =>
  match s.stockChecks f with
  | .error r => (s, .refuse r)
  | .ok b =>
    let t := { s with sales := { s.sales with
        blocks := s.sales.blocks ++ [b], horizon := b.last } }
    let t := removeReason .stockEmpty t
    let t :=
      if 200 ≤ t.sales.remaining then { t with sales := { t.sales with lowMark := false } } else t
    (t, .okWith (num 4 b.first ++ num 4 b.last ++ num 4 t.sales.remaining))

/-! ## ISSUE (R80 to R84) -/

/-- The ticket record of an issue (R84): day and validity come from the target call and its table, or
from the clock. -/
def State.ticket (s : State) (serial : Nat) (r : FareRequest) (x : Fare) : Ticket :=
  let basis : Nat × Nat :=
    match r.target with
    | none => (s.clock.day, s.clock.minute)
    | some t =>
      match s.store.table t.table, s.store.call t with
      | some tab, some c => (tab.day, c.scheduled)
      | _, _ => (s.clock.day, s.clock.minute)
  { serial := serial, request := r, band := x.band, total := x.total, day := basis.1
    validity := basis.2 }

/-- The issue counters and the revenue counter (R83 step 3, R180). -/
def countIssue (t : TicketType) (band : Band) (total : Nat) (s : State) : State :=
  let s := count (match t with
    | .single => .issuedSingle
    | .ret => .issuedReturn) s
  countBy (match band with
    | .peak => .revenuePeak
    | .offPeak => .revenueOffPeak) total s

/-- An issue, carried out in the steps of R83. -/
def issueTicket (p : Port) (r : FareRequest) (x : Fare) (requoted : Bool) : Owner := fun s =>
  let serial := nextSerial s.sales.blocks
  let ticket := s.ticket serial r x
  let t := { s with sales := { s.sales with blocks := takeSerial s.sales.blocks } }
  let t := append (.sale serial p r x.band x.total) t
  let t := countIssue r.ticket x.band x.total t
  let t := if requoted then count .requotedIssues t else t
  let t :=
    setSales p
      { (t.sales.ports.get p).cleared with lastSale := some { serial := serial, window := 300 } } t
  (stockTests t,
    { result := .ok, body := ticketBytes ticket, requoted := requoted, notApplied := x.notApplied })

/-- The checks that end both ISSUE tables (R81, R82): card, stock, journal. As at a QUOTE, a refusal carries no
CONCESSION_NOT_APPLIED (log 27). -/
def State.issueTail (s : State) (r : FareRequest) : Except Answer Unit :=
  if s.cardRevoked r then .error (.refuse .cardRevoked)
  else if s.sales.remaining = 0 then .error (.refuse .stockEmpty)
  else if s.journal.free < 2 then .error (.refuse .journalFull)
  else .ok ()

/-- The checks of the ISSUE of a HELD quote (R81): the held fare is issued. -/
def State.heldChecks (s : State) (q : Quote) : Except Answer Fare :=
  if s.sales.isOpen then
    if s.targetOnSale q.request = false then .error (.refuse .serviceGone)
    else
      match s.issueTail q.request with
      | .error a => .error a
      | .ok _ => .ok q.fare
  else .error (closedAnswer s)

/-- The checks of a requote (R82): the fare computed again is issued, at an equal total. -/
def State.requoteChecks (s : State) (q : Quote) : Except Answer Fare :=
  if s.sales.isOpen then
    match s.computeFare q.request with
    | .noSuch => .error (.refuse .serviceGone)
    | .noFare => .error (.refuse .fareChanged)
    | .fare x =>
      if s.targetOnSale q.request = false then .error (.refuse .serviceGone)
      else if x.total ≠ q.fare.total then .error (.refuse .fareChanged)
      else
        match s.issueTail q.request with
        | .error a => .error a
        | .ok _ => .ok x
  else .error (closedAnswer s)

/-- A refusal of quote number 1..255: counted, the slot emptied, the mark "none" (R80). -/
def refuseIssue (p : Port) (a : Answer) : Owner := fun s =>
  let t := countRevoked a (count .refusedIssues s)
  (setSales p (t.sales.ports.get p).cleared t, a)

/-- How an ISSUE's number meets the slot and the mark (R80). -/
inductive IssueCase where
  | held (q : Quote)
  | requote (q : Quote)
  | invalidated
  | noQuote
deriving DecidableEq, Repr

/-- The table of R80. -/
def PortSales.issueCase (x : PortSales) (n : Nat) : IssueCase :=
  match x.slot with
  | some q => if q.number = n then .held q else .noQuote
  | none =>
    match x.mark with
    | .none => .noQuote
    | .expired q => if q.number = n then .requote q else .noQuote
    | .invalidated m => if m = n then .invalidated else .noQuote

/-- ISSUE (R80 to R83). -/
def issue (p : Port) (f : IssueBody) : Owner := fun s =>
  if f.number.toNat = 0 then (count .refusedIssues s, .refuse .badRequest)
  else
    match (s.sales.ports.get p).issueCase f.number.toNat with
    | .noQuote => refuseIssue p (.refuse .noQuote) s
    | .invalidated => refuseIssue p (.refuse .serviceGone) s
    | .held q =>
      match s.heldChecks q with
      | .error a => refuseIssue p a s
      | .ok x => issueTicket p q.request x false s
    | .requote q =>
      match s.requoteChecks q with
      | .error a => refuseIssue p a s
      | .ok x => issueTicket p q.request x true s

/-! ## VOID (R86, R87) -/

/-- VOID (R87). -/
def voidSale (p : Port) (f : VoidBody) : Owner := fun s =>
  match (s.sales.ports.get p).lastSale with
  | none => (s, .refuse .notVoidable)
  | some l =>
    if l.serial ≠ f.serial.toNat then (s, .refuse .notVoidable)
    else if s.journal.free < 1 then (s, .refuse .journalFull)
    else
      let t := count .voided (append (.void l.serial p) s)
      (setSales p { t.sales.ports.get p with lastSale := none } t, .done)

/-! ## Timers of the sales controller (R73, R77, R86) -/

/-- A quote's expiry timer runs out (R77; a timer with seconds left does not, log 3). -/
def quoteExpired (p : Port) (s : State) : State :=
  let x := s.sales.ports.get p
  match x.slot with
  | none => s
  | some q => if q.timer = 0 then setSales p { x with slot := none, mark := .expired q } s else s

/-- A void window timer runs out (R86; a timer with seconds left does not, log 3). -/
def voidWindowExpired (p : Port) (s : State) : State :=
  let x := s.sales.ports.get p
  match x.lastSale with
  | none => s
  | some l => if l.window = 0 then setSales p { x with lastSale := none } s else s

/-- The terminal-silence timer runs out (R73; a timer with seconds left does not, log 3). -/
def silenceExpired (s : State) : State :=
  if s.sales.silence = some 0 then
    { s with sales := { s.sales with silence := none, silent := true } }
  else s

/-- What a port reset does to the port's sales record; the next quote number is kept (R97). -/
def resetSales (p : Port) (s : State) : State :=
  setSales p { (s.sales.ports.get p).cleared with lastSale := none } s

/-! ## Suspension (R72) -/

/-- SALES_SUSPEND: from the service port alone. -/
def salesSuspend (p : Port) (_ : NoFields) : Owner := fun s =>
  match p with
  | .terminal => (s, .refuse .notPermitted)
  | .link => (s, .refuse .notPermitted)
  | .service =>
    let t := addReason .suspended s
    (t, .okWith (reasonBytes t.sales.reasons))

/-- SALES_RESUME: from the service port alone. -/
def salesResume (p : Port) (_ : NoFields) : Owner := fun s =>
  match p with
  | .terminal => (s, .refuse .notPermitted)
  | .link => (s, .refuse .notPermitted)
  | .service =>
    let t := removeReason .suspended s
    (t, .okWith (reasonBytes t.sales.reasons))

/-! ## The revocation list (R95, R96) -/

/-- RVL_WRITE (R95). -/
def rvlWrite (f : RvlWriteBody) : Owner := fun s =>
  let i := f.index.toNat
  if 63 < i then (s, .refuse .badRequest)
  else
    match flagOf f.valid with
    | none => (s, .refuse .badRequest)
    | some false => ({ s with revoked := s.revoked.setIfInBounds i none }, .okWith (rvlBytes i none))
    | some true =>
      let e : RvlEntry := ⟨f.card.toNat, min f.ignore.toNat 16⟩
      ({ s with revoked := s.revoked.setIfInBounds i (some e) }, .okWith (rvlBytes i (some e)))

/-- RVL_CLEAR_ALL (R95). -/
def rvlClearAll (_ : NoFields) : Owner := fun s =>
  ({ s with revoked := Vector.replicate 64 none }, .done)

/-- RVL_READ (R96): at most 31 entries fit in one reply (R205). -/
def rvlRead (f : RunBody) : Owner := fun s =>
  if runOk 64 f.first.toNat f.count.toNat then
    let n := min f.count.toNat 31
    (s, .okWith (num1 f.first.toNat ++ num1 n ++
      runBytes rvlBytes f.first.toNat ((s.revoked.toList.drop f.first.toNat).take n)))
  else (s, .refuse .badRequest)

/-! ## The commands -/

/-- QUOTE. -/
def execQuote (p : Port) (b : Body QuoteBody) (s : State) : Outcome :=
  .next (settle (request p .quote (b.bytes writeQuote) (quote p b) s))

/-- ISSUE. -/
def execIssue (p : Port) (b : Body IssueBody) (s : State) : Outcome :=
  .next (settle (request p .issue (b.bytes writeIssue) (onFields b (issue p)) s))

/-- VOID. -/
def execVoid (p : Port) (b : Body VoidBody) (s : State) : Outcome :=
  .next (settle (request p .void (b.bytes writeVoid) (onFields b (voidSale p)) s))

/-- STOCK_ADD. -/
def execStockAdd (p : Port) (b : Body StockAddBody) (s : State) : Outcome :=
  .next (settle (request p .stockAdd (b.bytes writeStockAdd) (onFields b stockAdd) s))

/-- RVL_WRITE. -/
def execRvlWrite (p : Port) (b : Body RvlWriteBody) (s : State) : Outcome :=
  .next (settle (request p .rvlWrite (b.bytes writeRvlWrite) (onFields b rvlWrite) s))

/-- RVL_CLEAR_ALL. -/
def execRvlClearAll (p : Port) (b : Body NoFields) (s : State) : Outcome :=
  .next (settle (request p .rvlClearAll (b.bytes writeNoFields) (onFields b rvlClearAll) s))

/-- RVL_READ. -/
def execRvlRead (p : Port) (b : Body RunBody) (s : State) : Outcome :=
  .next (settle (request p .rvlRead (b.bytes writeRun) (onFields b rvlRead) s))

/-- SALES_SUSPEND. -/
def execSalesSuspend (p : Port) (b : Body NoFields) (s : State) : Outcome :=
  .next (settle (request p .salesSuspend (b.bytes writeNoFields) (onFields b (salesSuspend p)) s))

/-- SALES_RESUME. -/
def execSalesResume (p : Port) (b : Body NoFields) (s : State) : Outcome :=
  .next (settle (request p .salesResume (b.bytes writeNoFields) (onFields b (salesResume p)) s))

/-- QUOTE_EXPIRY. -/
def execQuoteExpiry (p : Port) (s : State) : Outcome := .next (settle (whenUp (quoteExpired p) s))

/-- VOID_WINDOW_EXPIRY. -/
def execVoidWindowExpiry (p : Port) (s : State) : Outcome :=
  .next (settle (whenUp (voidWindowExpired p) s))

/-- TERMINAL_SILENCE_EXPIRY. -/
def execTerminalSilenceExpiry (s : State) : Outcome := .next (settle (whenUp silenceExpired s))

end Sys2Proof.Machine
end

