-- ==== Sys2Proof/Machine/Panels.lean ====
section
/-! DEFINITION. Panels.lean: the display compositor (chapter 6). Panel configuration, presence and group
sleep, transaction outcomes; the composition at a frame start stands in Frames.lean. -/

namespace Sys2Proof.Machine

/-! ## PANEL_CONFIG (R125, R126) -/

/-- The pending command that follows the group: WAKE while it is AWAKE, SLEEP while it is ASLEEP (R125). -/
def GroupState.command : GroupState → PendingCommand
  | .awake => .wake
  | .asleep => .sleep

/-- A record configured with the fields carried (R125). -/
def Panel.configuredWith (r : Panel) (d : PanelDirections) (rows brightness : Nat)
    (g : GroupState) : Panel :=
  if r.configured then { r with directions := d, rows := rows, brightness := brightness }
  else
    { configured := true, directions := d, rows := rows, brightness := brightness, state := .awake
      misses := 0, lastStatus := .ok, pending := g.command }

/-- A record unconfigured; directions, rows and brightness are kept as stored (R125). -/
def Panel.unconfigured (r : Panel) : Panel :=
  if r.configured then
    { r with configured := false, state := .unconfigured, misses := 0, lastStatus := .ok
             pending := .none }
  else r

/-- The panel at an address 1..8. -/
def panelAt (address : Nat) : Option (Fin 8) :=
  if h : 1 ≤ address ∧ address ≤ 8 then some ⟨address - 1, by omega⟩ else none

/-- The record a panel form stores, or a refusal (R125). -/
def Panel.formed (r : Panel) (f : PanelConfigBody) (g : GroupState) : Option Panel :=
  match flagOf f.configured with
  | none => none
  | some false => some r.unconfigured
  | some true =>
    match panelDirectionsOf f.directions with
    | none => none
    | some d =>
      if 1 ≤ f.rows.toNat ∧ f.rows.toNat ≤ 4 then
        some (r.configuredWith d f.rows.toNat (min f.brightness.toNat 7) g)
      else none

/-- PANEL_CONFIG, panel form: from the service port alone (R125). -/
def panelConfig (p : Port) (f : PanelConfigBody) : Owner := fun s =>
  if p ≠ .service then (s, .refuse .notPermitted)
  else
    match panelAt f.address.toNat with
    | none => (s, .refuse .badRequest)
    | some i =>
      match (s.panel i).formed f s.compositor.group with
      | none => (s, .refuse .badRequest)
      | some r => (setPanel i r s, .okWith (panelBytes r))

/-- PANEL_CONFIG, group form: from the service port alone (R125, R126). -/
def panelConfigGroup (p : Port) (f : PanelGroupBody) : Owner := fun s =>
  if p ≠ .service then (s, .refuse .notPermitted)
  else
    let t := { s with compositor := { s.compositor with
        sleepAfter := clamp 1 60 f.sleepAfter.toNat } }
    (t, .okWith (num1 t.compositor.sleepAfter ++ num1 t.sleepAfterInForce))

/-! ## Presence and group sleep (R134 to R138) -/

/-- A configured panel's pending command when the group goes to sleep (R138). -/
def Panel.groupSleep (r : Panel) : Panel :=
  match r.state with
  | .awake => { r with pending := .sleep }
  | .asleep => { r with pending := .none }
  | .absent => r
  | .unconfigured => r

/-- A configured panel's pending command when the group wakes (R138). -/
def Panel.groupWake (r : Panel) : Panel :=
  match r.state with
  | .asleep => { r with pending := .wake }
  | .awake => { r with pending := .none }
  | .absent => r
  | .unconfigured => r

/-- The group goes to sleep (R138). -/
def groupSleep (s : State) : State :=
  { s with compositor := { s.compositor with
      group := .asleep, panels := mapPanels Panel.groupSleep s.compositor.panels } }

/-- The group wakes (R138). -/
def groupWake (s : State) : State :=
  { s with compositor := { s.compositor with
      group := .awake, panels := mapPanels Panel.groupWake s.compositor.panels } }

/-- The presence idle timer started afresh with the sleep-after in force (R134). -/
def startIdle (s : State) : State :=
  { s with compositor := { s.compositor with idle := some (60 * s.sleepAfterInForce) } }

/-- The horizon test of a minute tick (R136). -/
def horizonTest (s : State) : State :=
  match s.compositor.group with
  | .asleep => if s.store.hasHorizon s.clock.minute then groupWake s else s
  | .awake =>
    if s.compositor.idle.isNone ∧ s.store.hasHorizon s.clock.minute = false then groupSleep s else s

/-- The presence idle timer expires (R135). A timer that has not run out does not: after an edge that was
taken first and restarted it, the expiry does not happen (R137; log 3). -/
def presenceIdleExpired (s : State) : State :=
  if s.compositor.idle = some 0 then
    let t := { s with compositor := { s.compositor with idle := none } }
    if t.compositor.group = .awake ∧ t.store.hasHorizon t.clock.minute = false then groupSleep t else t
  else s

/-- An accepted presence edge (R134, R137); a level equal to the accepted one is no edge, and none is
taken before the first acceptance (log 20). -/
def presenceEdge (occupied : Bool) (s : State) : State :=
  if s.compositor.presenceSeen ∧ s.compositor.occupied ≠ occupied then
    let t := startIdle { s with compositor := { s.compositor with occupied := occupied } }
    match t.compositor.group with
    | .asleep => groupWake t
    | .awake => t
  else s

/-- The first acceptance of the presence level gives no edge (R134). -/
def presenceFirst (occupied : Bool) (s : State) : State :=
  if s.compositor.presenceSeen then s
  else
    { s with compositor := { s.compositor with presenceSeen := true, occupied := occupied } }

/-! ## Transaction outcomes (R139 to R141) -/

/-- The outcome of a transaction as reported to the compositor; a READ_STATUS that is DONE carries the
decoded status (R139, R144). -/
inductive OutcomeReport where
  | done (status : PanelStatus)
  | noAck
  | disturbed
deriving DecidableEq, Repr

/-- SLEEP done (R139). -/
def Panel.slept (r : Panel) (g : GroupState) : Panel :=
  { r with misses := 0, state := .asleep, pending := match g with
      | .asleep => .none
      | .awake => .wake }

/-- WAKE done (R139). -/
def Panel.woken (r : Panel) (g : GroupState) : Panel :=
  { r with misses := 0, state := .awake, pending := match g with
      | .awake => .none
      | .asleep => .sleep }

/-- A miss (R140). -/
def Panel.missed (r : Panel) : Panel :=
  if 3 ≤ r.misses + 1 then { r with misses := 3, state := .absent, pending := .none }
  else { r with misses := r.misses + 1 }

/-- A READ_STATUS done (R141): the status is held, and an ABSENT panel returns to service. -/
def Panel.statusRead (r : Panel) (st : PanelStatus) (g : GroupState) : Panel :=
  match r.state with
  | .absent =>
    { r with misses := 0, lastStatus := st, state := .awake, pending := match g with
        | .asleep => .sleep
        | .awake => .none }
  | .awake => { r with misses := 0, lastStatus := st }
  | .asleep => { r with misses := 0, lastStatus := st }
  | .unconfigured => { r with misses := 0, lastStatus := st }

/-- Whether a status read notices PANEL_FAULT: a fault status that differs from the one held (R141). -/
def Panel.newFault (r : Panel) (st : PanelStatus) : Bool := decide (st ≠ .ok ∧ st ≠ r.lastStatus)

/-- An outcome report applied to a panel record (R139 to R141). -/
def reportOutcome (t : Transaction) (o : OutcomeReport) (s : State) : State :=
  let r := s.panel t.panel
  let g := s.compositor.group
  if r.state = .unconfigured then s
  else
    match o with
    | .disturbed => s
    | .noAck => count .panelMisses (setPanel t.panel r.missed s)
    | .done st =>
      match t.kind with
      | .sleep => setPanel t.panel (r.slept g) s
      | .wake => setPanel t.panel (r.woken g) s
      | .writeRows _ _ => setPanel t.panel { r with misses := 0 } s
      | .readStatus =>
        let u := setPanel t.panel (r.statusRead st g) s
        if r.newFault st then post .panelFault u else u

/-! ## The commands -/

/-- PANEL_CONFIG, panel form. -/
def execPanelConfig (p : Port) (b : Body PanelConfigBody) (s : State) : Outcome :=
  .next (settle (request p .panelConfig (b.bytes writePanelConfig) (onFields b (panelConfig p)) s))

/-- PANEL_CONFIG, group form. -/
def execPanelConfigGroup (p : Port) (f : PanelGroupBody) (s : State) : Outcome :=
  .next (settle (request p .panelConfig (writePanelGroup f) (panelConfigGroup p f) s))

/-- PRESENCE_IDLE_EXPIRY. -/
def execPresenceIdleExpiry (s : State) : Outcome := .next (settle (whenUp presenceIdleExpired s))

/-- PRESENCE_EDGE. -/
def execPresenceEdge (occupied : Bool) (s : State) : Outcome :=
  .next (settle (whenUp (presenceEdge occupied) s))

/-- PRESENCE_FIRST_ACCEPTANCE. -/
def execPresenceFirstAcceptance (occupied : Bool) (s : State) : Outcome :=
  .next (settle (whenUp (presenceFirst occupied) s))

end Sys2Proof.Machine
end

