-- ==== Sys2Proof/Machine/Display.lean ====
section
/-! DEFINITION. Display.lean: the display bus controller (chapter 7). Pacing, frame starts, the ends of
transactions, line faults and recovery, START and STOP; how a frame begins and goes on stands in Frames.lean. -/

namespace Sys2Proof.Machine

/-- A frame start taken while a frame runs (R151). -/
def overrun (s : State) : State := post .displayOverrun (count .frameOverruns s)

/-- A frame start, by the controller state (R151). -/
def frameStart (line : DataLine) (s : State) : State :=
  match s.bus.state with
  | .idle => beginFrame line s
  | .running => overrun s
  | .recovering .auto => overrun s
  | .recovering .manual => s
  | .fault => s
  | .stopped => s

/-- What follows a transaction's end: the stop mark is acted on, or the frame goes on (R154, R164). -/
def afterTransaction (line : DataLine) (s : State) : State :=
  if s.bus.stopMark then stopDisplay s
  else startNext line (setBus { s.bus with position := s.bus.position + 1 } s)

/-- The status a READ_STATUS returned (R144, R206). -/
def decodeStatus (status check : Byte) : PanelStatus :=
  if check = ~~~status then
    if status = 0x00 then .ok else if status = 0x01 then .lampFault else .other
  else .other

/-- The probe timer of a panel started afresh at a NO_ACK (R153). -/
def restartProbe (i : Fin 8) (s : State) : State :=
  setBus { s.bus with probes := s.bus.probes.set i.val (some 60) } s

/-- A transaction ends with its stop (R144): the outcome is reported and the frame goes on. With no
transaction in progress there is none to end (log 3). -/
def transactionEnded (e : TransactionEnd) (line : DataLine) (s : State) : State :=
  match s.inProgress with
  | none => s
  | some t =>
    match e with
    | .done st ck => afterTransaction line (reportOutcome t (.done (decodeStatus st ck)) s)
    | .noAck => afterTransaction line (restartProbe t.panel (reportOutcome t .noAck s))

/-- A transaction is disturbed and abandoned (R162). -/
def busDisturbed (line : DataLine) (s : State) : State :=
  match s.inProgress with
  | none => s
  | some t => afterTransaction line (reportOutcome t .disturbed s)

/-- The clock line has stayed low for 25 ms (R159). -/
def stuckClock (s : State) : State :=
  match s.bus.state with
  | .running => enterFault .stuckClock s
  | .recovering _ => enterFault .stuckClock s
  | .idle => s
  | .stopped => s
  | .fault => s

/-- An AUTO recovery sequence ends (R158). -/
def recoveryEndedAuto (r : RecoveryResult) (line : DataLine) (s : State) : State :=
  if s.bus.state = .recovering .auto then
    match r with
    | .held => enterFault .stuckData s
    | .released => if s.bus.stopMark then stopDisplay s else startNext line s
  else s

/-- A MANUAL recovery sequence ends (R161). -/
def recoveryEndedManual (r : RecoveryResult) (s : State) : State :=
  if s.bus.state = .recovering .manual then
    match r with
    | .held => enterFault .stuckData s
    | .released => if s.bus.stopMark then stopDisplay s else enterIdle s
  else s

/-! ## Pacing (R147 to R150) -/

/-- The interval in force has changed from `old` (R148). -/
def intervalChanged (old : Nat) (line : DataLine) (s : State) : State :=
  if s.bus.pacing = .interval ∧ s.bus.state ≠ .stopped then
    if old = 0 ∧ s.intervalInForce ≠ 0 then
      setBus { s.bus with frameTimer := some s.intervalInForce, startDue := false } s
    else if old ≠ 0 ∧ s.intervalInForce = 0 then
      let t := setBus { s.bus with frameTimer := none } s
      if t.bus.state = .idle then beginFrame line t else t
    else s
  else s

/-- The frame timer after a change from TRIGGER to INTERVAL pacing (R147). -/
def intervalPacingTaken (line : DataLine) (s : State) : State :=
  if s.bus.state = .stopped then s
  else if s.intervalInForce = 0 then
    if s.bus.state = .idle then beginFrame line s else s
  else setBus { s.bus with frameTimer := some s.intervalInForce } s

/-- The frame timer expires: its next period starts and a frame start is raised (R149; a timer with seconds
left does not expire, log 3). -/
def frameTimerExpired (line : DataLine) (s : State) : State :=
  if s.bus.frameTimer = some 0 then
    frameStart line (setBus { s.bus with frameTimer := some s.intervalInForce } s)
  else s

/-- A probe timer runs out (R153); one that has been started afresh does not (log 3). -/
def probeTimerExpired (i : Fin 8) (s : State) : State :=
  if s.bus.probes[i] = some 0 then setBus { s.bus with probes := s.bus.probes.set i.val none } s else s

/-- The trigger gate lets an edge through (R150; log 10). -/
def State.gateOpen (s : State) : Bool :=
  s.bus.firstEdge || decide (s.supply.state = .normal) ||
    match s.bus.sinceFrame with
    | none => true
    | some n => decide (s.intervalInForce ≤ n)

/-- The level the polarity names (R147). -/
def Polarity.level : Polarity → Bool
  | .rising => true
  | .falling => false

/-- An accepted change of the trigger input's level (R147, R150); a level equal to the accepted one is no
change, and none is taken before the first acceptance (log 20). -/
def triggerEdge (high : Bool) (line : DataLine) (s : State) : State :=
  if s.bus.triggerSeen ∧ s.bus.triggerHigh ≠ high then
    let t := setBus { s.bus with triggerHigh := high } s
    if t.bus.pacing = .trigger ∧ high = t.bus.polarity.level then
      let u := setBus { t.bus with firstEdge := false } t
      if t.gateOpen then frameStart line u else u
    else t
  else s

/-- The first acceptance of the trigger level gives no edge (R147). -/
def triggerFirst (high : Bool) (s : State) : State :=
  if s.bus.triggerSeen then s
  else setBus { s.bus with triggerSeen := true, triggerHigh := high } s

/-! ## DISPLAY_CONTROL (R146) -/

/-- The display summary of 10 bytes (R146, 11.2). -/
def State.displaySummary (s : State) : List Byte :=
  num1 s.bus.state.code ++ num1 (causeCode s.bus.cause) ++ num1 s.bus.pacing.code ++
    num1 s.bus.polarity.code ++ num1 s.bus.interval ++ num1 s.intervalInForce ++
    num1 s.bus.countSetting ++ remainingBytes s.bus.remaining ++ flagByte s.bus.autoRecovery

/-- Every reply of the controller carries the summary as it stands after the request (R146). -/
def displayAnswer (r : Result) (s : State) : State × Answer :=
  (s, { result := r, body := s.displaySummary })

/-- Frames resume: a frame start at once in INTERVAL pacing, with the frame timer started where the
interval in force is not 0; the next trigger edge passes the gate (R150, R163, R165). -/
def startFrames (line : DataLine) (s : State) : State :=
  match s.bus.pacing with
  | .trigger => s
  | .interval =>
    if s.intervalInForce = 0 then beginFrame line s
    else beginFrame line (setBus { s.bus with frameTimer := some s.intervalInForce } s)

/-- Frames remaining as a frame count setting loads them (R156). -/
def loadRemaining (setting : Nat) : Option Nat := if setting = 0 then none else some setting

/-- START (R163). The frames that begin at once stand in the reply's summary (R146, R149). -/
def displayStart (line : DataLine) : Owner := fun s =>
  displayAnswer .ok
    (match s.bus.state with
     | .stopped =>
       settleAt line
         (startFrames line
           (setBus
             { s.bus with
               state := .idle, runMark := true, remaining := loadRemaining s.bus.countSetting
               firstEdge := true } s))
     | .running => setBus { s.bus with stopMark := false } s
     | .recovering _ => setBus { s.bus with stopMark := false } s
     | .idle => s
     | .fault => s)

/-- STOP (R164). A transaction counts as in progress from its line test on, so a STOP taken while that test
waits for a low clock line sets the stop mark (log 5). -/
def displayStop : Owner := fun s =>
  displayAnswer .ok
    (match s.bus.state with
     | .idle => stopDisplay s
     | .fault => stopDisplay s
     | .running =>
       if s.inProgress.isSome then setBus { s.bus with stopMark := true } s else stopDisplay s
     | .recovering _ => setBus { s.bus with stopMark := true } s
     | .stopped => s)

/-- RECOVER: from the service port alone (R146, R161). -/
def displayRecover (p : Port) (line : ClockLine) : Owner := fun s =>
  if p ≠ .service then displayAnswer .notPermitted s
  else if s.bus.state = .fault then
    match line with
    | .low => displayAnswer .lineHeld s
    | .released =>
      displayAnswer .ok
        (count .busRecoveries (setBus { s.bus with state := .recovering .manual } s))
  else displayAnswer .badSequence s

/-- PACING (R147); the frames that begin at once stand in the reply's summary (R146, R149). -/
def displayPacing (f : DisplayPacingBody) (line : DataLine) : Owner := fun s =>
  match pacingOf f.pacing, polarityOf f.polarity with
  | some pc, some po =>
    let t := setBus
      { s.bus with pacing := pc, polarity := po, interval := min f.interval.toNat 60 } s
    displayAnswer .ok
      (match s.bus.pacing, pc with
       | .interval, .trigger => setBus { t.bus with frameTimer := none, startDue := false } t
       | .trigger, .interval => settleAt line (intervalPacingTaken line t)
       | .interval, .interval => settleAt line (intervalChanged s.intervalInForce line t)
       | .trigger, .trigger => t)
  | _, _ => displayAnswer .badRequest s

/-- FRAME_COUNT: from the service port alone (R146, R156). -/
def displayFrameCount (p : Port) (f : FrameCountBody) : Owner := fun s =>
  if p ≠ .service then displayAnswer .notPermitted s
  else
    displayAnswer .ok
      (setBus
        { s.bus with countSetting := f.count.toNat, remaining := loadRemaining f.count.toNat } s)

/-- AUTO_RECOVERY, and the refusal of an unknown form (R146, R204). -/
def displayAutoRecovery (b : Body AutoRecoveryBody) : Owner := fun s =>
  match b with
  | .raw _ => displayAnswer .badRequest s
  | .fields f =>
    match flagOf f.setting with
    | none => displayAnswer .badRequest s
    | some on => displayAnswer .ok (setBus { s.bus with autoRecovery := on } s)

/-! ## The commands -/

/-- DISPLAY_CONTROL START. -/
def execDisplayStart (p : Port) (line : DataLine) (s : State) : Outcome :=
  .next (settleAt line (request p .displayControl writeDisplayStart (displayStart line) s))

/-- DISPLAY_CONTROL STOP. -/
def execDisplayStop (p : Port) (s : State) : Outcome :=
  .next (settle (request p .displayControl writeDisplayStop displayStop s))

/-- DISPLAY_CONTROL RECOVER. -/
def execDisplayRecover (p : Port) (line : ClockLine) (s : State) : Outcome :=
  .next (settle (request p .displayControl writeDisplayRecover (displayRecover p line) s))

/-- DISPLAY_CONTROL PACING. -/
def execDisplayPacing (p : Port) (f : DisplayPacingBody) (line : DataLine) (s : State) : Outcome :=
  .next (settleAt line (request p .displayControl (writeDisplayPacing f) (displayPacing f line) s))

/-- DISPLAY_CONTROL FRAME_COUNT. -/
def execDisplayFrameCount (p : Port) (f : FrameCountBody) (s : State) : Outcome :=
  .next (settle (request p .displayControl (writeFrameCount f) (displayFrameCount p f) s))

/-- DISPLAY_CONTROL AUTO_RECOVERY. -/
def execDisplayAutoRecovery (p : Port) (b : Body AutoRecoveryBody) (s : State) : Outcome :=
  .next (settle (request p .displayControl (b.bytes writeAutoRecovery) (displayAutoRecovery b) s))

/-- FRAME_TIMER_EXPIRY. -/
def execFrameTimerExpiry (line : DataLine) (s : State) : Outcome :=
  .next (settleAt line (whenUp (frameTimerExpired line) s))

/-- PROBE_TIMER_EXPIRY. -/
def execProbeTimerExpiry (i : Fin 8) (s : State) : Outcome :=
  .next (settle (whenUp (probeTimerExpired i) s))

/-- TRIGGER_EDGE. -/
def execTriggerEdge (high : Bool) (line : DataLine) (s : State) : Outcome :=
  .next (settleAt line (whenUp (triggerEdge high line) s))

/-- TRIGGER_FIRST_ACCEPTANCE. -/
def execTriggerFirstAcceptance (high : Bool) (s : State) : Outcome :=
  .next (settle (whenUp (triggerFirst high) s))

/-- TRANSACTION_END. -/
def execTransactionEnd (e : TransactionEnd) (line : DataLine) (s : State) : Outcome :=
  .next (settleAt line (whenUp (transactionEnded e line) s))

/-- BUS_DISTURBED. -/
def execBusDisturbed (line : DataLine) (s : State) : Outcome :=
  .next (settleAt line (whenUp (busDisturbed line) s))

/-- STUCK_CLOCK. -/
def execStuckClock (s : State) : Outcome := .next (settle (whenUp stuckClock s))

/-- RECOVERY_END_AUTO. -/
def execRecoveryEndAuto (r : RecoveryResult) (line : DataLine) (s : State) : Outcome :=
  .next (settleAt line (whenUp (recoveryEndedAuto r line) s))

/-- RECOVERY_END_MANUAL. -/
def execRecoveryEndManual (r : RecoveryResult) (line : DataLine) (s : State) : Outcome :=
  .next (settleAt line (whenUp (recoveryEndedManual r) s))

end Sys2Proof.Machine
end

