-- ==== Sys2Proof/Machine/Timetable.lean ====
section
/-! DEFINITION. Timetable.lean: the station clock and the timetable store (chapters 1 and 2). Setting the
time, the day boundary, the minute tick with its lapses, the staged load, live updates. -/

namespace Sys2Proof.Machine

/-! ## Changing the store -/

/-- The store replaced. -/
def setStore (st : Store) (s : State) : State := { s with store := st }

/-- The clock replaced. -/
def setClock (c : Clock) (s : State) : State := { s with clock := c }

/-- Every call of a table changed. -/
def DayTable.onCalls (f : Call → Call) (t : DayTable) : DayTable := { t with calls := t.calls.map f }

/-- Every call of a live table changed. -/
def Store.onCalls (t : TableName) (f : Call → Call) (st : Store) : Store :=
  match t with
  | .today => { st with today := st.today.map (DayTable.onCalls f) }
  | .tomorrow => { st with tomorrow := st.tomorrow.map (DayTable.onCalls f) }

/-- The one call a reference names changed (no two calls of a table share a service id, R13). -/
def Store.onCall (r : CallRef) (f : Call → Call) (st : Store) : Store :=
  st.onCalls r.table (fun c => if c.service = r.service then f c else c)

/-- A live table replaced. -/
def Store.setTable (t : TableName) (x : Option DayTable) (st : Store) : Store :=
  match t with
  | .today => { st with today := x }
  | .tomorrow => { st with tomorrow := x }

/-- TIMETABLE_NEEDED, noticed when TODAY is EMPTY (R6, R12). -/
def needToday (s : State) : State :=
  if s.store.today.isNone then post .timetableNeeded s else s

/-! ## The day boundary (R9 to R12) -/

/-- A call with its removed-from-display flag clear (R9). -/
def Call.shown (c : Call) : Call := { c with removed := false }

/-- The new TODAY at a day boundary: TOMORROW whole when its day is the new one, else EMPTY (R9). -/
def Store.nextToday (st : Store) (newDay : Nat) : Option DayTable :=
  match st.tomorrow with
  | none => none
  | some t => if t.day = newDay then some (t.onCalls Call.shown) else none

/-- What the sales controller is told of TOMORROW at a day boundary: it moved, or it was dropped (R10). -/
def tellTomorrow (moved : Bool) (s : State) : State :=
  if moved then repoint s
  else if s.store.tomorrow.isSome then withdrawTable .tomorrow s
  else s

/-- The day kind after a boundary: the new TODAY's, or the fallback (R11). -/
def kindAfter (today : Option DayTable) (fallback : DayKind) : DayKind :=
  match today with
  | none => fallback
  | some t => t.kind

/-- One day boundary for the clock's day number (R9 to R12). -/
def dayBoundary (fallback : DayKind) (s : State) : State :=
  let new := s.store.nextToday s.clock.day
  let t := tellTomorrow new.isSome (withdrawTable .today s)
  let t := setStore
    { s.store with storeDay := s.clock.day, neededMark := false, today := new, tomorrow := none } t
  needToday (setClock { s.clock with kind := kindAfter new fallback } t)

/-! ## The minute tick (R3, R12, R15, R30, R31) -/

/-- A call lapsed, with its flag set in the same step (R15, R30). -/
def Call.lapsed (c : Call) : Call := { c with state := .lapsed, removed := true }

/-- One lapse handled whole: the state change, the quote withdrawal, the journal entry, the count (R31). -/
def lapseCall (c : Call) (s : State) : State :=
  let t := setStore (s.store.onCall ⟨.today, c.service⟩ Call.lapsed) s
  count .callsLapsed (append (.lapsedCall c.service c.scheduled) (withdrawCall ⟨.today, c.service⟩ t))

/-- The lapses of a tick, in table order (R30, R31). -/
def lapseCalls (s : State) : State :=
  ((callsOf s.store.today).filter (Call.lapses s.clock.minute)).foldl (fun t c => lapseCall c t) s

/-- A call's flag set when the call stops being displayable (R15). -/
def Call.flagged (now : Nat) (c : Call) : Call := { c with removed := c.removed || c.pastDisplay now }

/-- The flags of TODAY tested at a tick (R15). -/
def flagCalls (s : State) : State :=
  setStore (s.store.onCalls .today (Call.flagged s.clock.minute)) s

/-- The 23:00 test (R12). -/
def eveningTest (s : State) : State :=
  if 1200 ≤ s.clock.minute ∧ s.store.tomorrow.isNone ∧ s.store.neededMark = false then
    post .timetableNeeded (setStore { s.store with neededMark := true } s)
  else s

/-- A minute tick at the now minute: the timetable store, then the display compositor (R3, R136). -/
def minuteTick (s : State) : State := horizonTest (eveningTest (flagCalls (lapseCalls s)))

/-! ## The clock advances (R1, R2) -/

/-- One elapsed second of the station clock while the core domain runs. -/
def advanceClock (s : State) : State :=
  if s.clock.valid = false then s
  else if s.clock.second < lastSecond then
    let t := setClock { s.clock with second := s.clock.second + 1 } s
    if t.clock.minute = s.clock.minute then t else minuteTick t
  else if s.clock.day < lastDay then
    minuteTick (dayBoundary .weekday (setClock { s.clock with day := s.clock.day + 1, second := 0 } s))
  else s

/-- One elapsed second counted in the retention domain while the core supply is down: the second and the
day number alone (R4). -/
def Clock.dipSecond (c : Clock) : Clock :=
  if c.valid = false then c
  else if c.second < lastSecond then { c with second := c.second + 1 }
  else if c.day < lastDay then { c with day := c.day + 1, second := 0 }
  else c

/-! ## TIME_SET (R5 to R8) -/

/-- R6: the clock becomes VALID. -/
def timeFirst (c : Clock) (s : State) : State :=
  minuteTick
    (needToday (removeReason .noTime (setStore { s.store with storeDay := c.day } (setClock c s))))

/-- The day kind of a setting within the day: TODAY's while it is LOADED, else the one carried (R7). -/
def State.kindWithin (s : State) (carried : DayKind) : DayKind :=
  match s.store.today with
  | none => carried
  | some _ => s.clock.kind

/-- R7: a setting within the day; only a forward step to another minute ticks. -/
def timeWithin (kind : DayKind) (second : Nat) (s : State) : State :=
  let t := setClock { s.clock with kind := s.kindWithin kind, second := second } s
  let t := setStore { s.store with storeDay := s.clock.day } t
  if s.clock.minute < t.clock.minute then minuteTick t else t

/-- R8: a setting to a later day. -/
def timeLater (day : Nat) (kind : DayKind) (second : Nat) (s : State) : State :=
  minuteTick (dayBoundary kind (setClock { s.clock with day := day, second := second } s))

/-- TIME_SET (R5). -/
def timeSet (f : TimeSetBody) : Owner := fun s =>
  match dayKindOf f.kind with
  | none => (s, .refuse .badRequest)
  | some k =>
    if lastSecond < f.second.toNat then (s, .refuse .badRequest)
    else if s.clock.valid = false then (timeFirst ⟨true, f.day.toNat, k, f.second.toNat⟩ s, .done)
    else if f.day.toNat < s.clock.day then (s, .refuse .notMonotonic)
    else if f.day.toNat = s.clock.day then (timeWithin k f.second.toNat s, .done)
    else (timeLater f.day.toNat k f.second.toNat s, .done)

/-! ## The staged load (R16 to R22) -/

/-- The staging idle timer's full time, in seconds (R21). -/
abbrev stagingTime : Nat := 60

/-- The staging table replaced. -/
def setStaging (g : Option Staging) (s : State) : State := setStore { s.store with staging := g } s

/-- The idle timer of a staging the port holds restarted (R16, R21). -/
def touchStaging (p : Port) (s : State) : State :=
  match s.store.staging with
  | none => s
  | some g => if g.holder = p then setStaging (some { g with idle := stagingTime }) s else s

/-- The field check of TT_BEGIN (R16): the staging it would open. -/
def stagingOf (p : Port) (f : TtBeginBody) : Option Staging :=
  match dayKindOf f.kind with
  | none => none
  | some k =>
    if f.version.toNat = 0 ∨ f.count.toNat = 0 ∨ 96 < f.count.toNat then none
    else
      some
        { holder := p, day := f.day.toNat, kind := k, version := f.version.toNat
          count := f.count.toNat, next := 0, calls := [], idle := stagingTime }

/-- Staging is held by a port other than `p`. -/
def Store.stagedByOther (st : Store) (p : Port) : Bool :=
  match st.staging with
  | none => false
  | some g => decide (g.holder ≠ p)

/-- TT_BEGIN (R16). -/
def ttBegin (p : Port) (f : TtBeginBody) : Owner := fun s =>
  match stagingOf p f with
  | none => (touchStaging p s, .refuse .badRequest)
  | some g => if s.store.stagedByOther p then (s, .refuse .busy) else (setStaging (some g) s, .done)

/-- A TT_* request of the holder on its open staging: `act` decides with the idle timer restarted; no
staging gives BAD_SEQUENCE and another port's BUSY (R17, R18). -/
def onStaging (p : Port) (act : Staging → Owner) : Owner := fun s =>
  match s.store.staging with
  | none => (s, .refuse .badSequence)
  | some g =>
    if g.holder ≠ p then (s, .refuse .busy)
    else
      let g := { g with idle := stagingTime }
      act g (setStaging (some g) s)

/-- TT_CALLS (R17). -/
def ttCalls (p : Port) (f : TtCallsBody) : Owner :=
  onStaging p fun g s =>
    if f.first.toNat ≠ g.next then (s, .refuse .badSequence)
    else if g.count < f.first.toNat + f.records.length then (s, .refuse .badRequest)
    else
      match stagedCallsOf f.records with
      | none => (s, .refuse .badRequest)
      | some cs =>
        (setStaging (some { g with calls := g.calls ++ cs, next := g.next + cs.length }) s, .done)

/-- A call stands before another in a day table (R13): by scheduled minute, then by service id. -/
def StagedCall.before (a b : StagedCall) : Bool :=
  decide (a.scheduled < b.scheduled ∨ (a.scheduled = b.scheduled ∧ a.service < b.service))

/-- Each call stands before the next. -/
def stagedAscending : List StagedCall → Bool
  | a :: b :: cs => a.before b && stagedAscending (b :: cs)
  | [_] => true
  | [] => true

/-- The order and uniqueness test of TT_END (R18). -/
def stagedOrdered (cs : List StagedCall) : Bool :=
  stagedAscending cs && decide (cs.map StagedCall.service).Nodup

/-- The target of a staged day number against the clock (R18). -/
def Clock.target (c : Clock) (day : Nat) : Option TableName :=
  if c.valid = false then none
  else if day = c.day then some .today
  else if day = c.day + 1 then some .tomorrow
  else none

/-- The version test of TT_END (R18). -/
def versionNewer (old : Option DayTable) (version : Nat) : Bool :=
  match old with
  | none => true
  | some t => decide (t.version < version)

/-- A staged call as it enters its table: the live fields carried from the old target's call of the same
service id, or the initial ones (R14, R19). -/
def StagedCall.placed (old : List Call) (g : StagedCall) : Call :=
  match findCall old g.service with
  | none =>
    { service := g.service, direction := g.direction, scheduled := g.scheduled
      destination := g.destination, state := .scheduled, report := none, actual := none
      removed := false }
  | some c =>
    { service := g.service, direction := g.direction, scheduled := g.scheduled
      destination := g.destination, state := c.state, report := c.report, actual := c.actual
      removed := false }

/-- A placed call's flag: tested once against the now minute for TODAY, clear for TOMORROW (R15, R19). -/
def Call.entering (t : TableName) (now : Nat) (c : Call) : Call :=
  match t with
  | .today => c.flagged now
  | .tomorrow => c

/-- The table a staging becomes (R19). -/
def Staging.table (g : Staging) (t : TableName) (now : Nat) (old : List Call) : DayTable :=
  { day := g.day, kind := g.kind, version := g.version
    calls := g.calls.map (fun c => (c.placed old).entering t now) }

/-- The message that calls were discarded from a table, by service id (R20). -/
def withdrawServices (t : TableName) (gone : List Nat) : State → State :=
  withdraw (fun r => decide (r.table = t ∧ r.service ∈ gone))

/-- The service ids of an old table that a new one does not hold (R19). -/
def discardedServices (old : List Call) (new : List StagedCall) : List Nat :=
  (old.map Call.service).filter (fun n => decide (n ∉ new.map StagedCall.service))

/-- The clock's day kind after a load: the new header's when the target is TODAY (R20). -/
def kindLoaded (t : TableName) (kind : DayKind) (c : Clock) : Clock :=
  match t with
  | .today => { c with kind := kind }
  | .tomorrow => c

/-- A staging placed into its target (R19, R20). -/
def placeStaging (g : Staging) (t : TableName) (s : State) : State :=
  let old := callsOf (s.store.table t)
  let new := g.table t s.clock.minute old
  let u := setStore { s.store.setTable t (some new) with staging := none } s
  let u := withdrawServices t (discardedServices old g.calls) u
  let u := append (.timetable g.day g.version) u
  setClock (kindLoaded t g.kind u.clock) u

/-- TT_END (R18). -/
def ttEnd (p : Port) (_ : NoFields) : Owner :=
  onStaging p fun g s =>
    if g.next ≠ g.count then (s, .refuse .incomplete)
    else if stagedOrdered g.calls = false then (setStaging none s, .refuse .badRequest)
    else
      match s.clock.target g.day with
      | none => (setStaging none s, .refuse .wrongDay)
      | some t =>
        if versionNewer (s.store.table t) g.version = false then
          (setStaging none s, .refuse .staleVersion)
        else (placeStaging g t s, .okWith (num1 t.code))

/-- The staging idle timer runs out, 60 s after the holder's last request (R21); a timer that the holder has
restarted since does not (log 3). -/
def stagingExpired (s : State) : State :=
  match s.store.staging with
  | none => s
  | some g => if g.idle = 0 then postTo .stagingDiscarded [g.holder] (setStaging none s) else s

/-- A port reset discards the staging the port holds, with no notice (R22). -/
def releaseStaging (p : Port) (s : State) : State :=
  match s.store.staging with
  | none => s
  | some g => if g.holder = p then setStaging none s else s

/-! ## SVC_UPDATE (R23 to R26) -/

/-- A live update of one call: the field check, the search, then the kind (R23). -/
def svcUpdate (table : Byte) (service : BitVec 16) (act : CallRef → Call → Owner) : Owner := fun s =>
  match callRefOf table service with
  | none => (s, .refuse .badRequest)
  | some r =>
    match s.store.call r with
    | none => (s, .refuse .noSuch)
    | some c => act r c s

/-- One call of a live table changed, with result OK. -/
def changeCall (r : CallRef) (f : Call → Call) : Owner := fun s => (setStore (s.store.onCall r f) s, .done)

/-- A report, clamped (R24). -/
def reportOf (delay : BitVec 16) (allowance : Byte) : Report :=
  ⟨min delay.toNat 720, min allowance.toNat 60⟩

/-- Kind DELAY (R24). -/
def svcDelay (f : SvcDelayBody) : Owner :=
  svcUpdate f.table f.service fun r _ =>
    changeCall r (fun c => { c with report := some (reportOf f.delay f.allowance) })

/-- Kind CLEAR_DELAY (R24). -/
def svcClearDelay (f : SvcCallBody) : Owner :=
  svcUpdate f.table f.service fun r _ => changeCall r (fun c => { c with report := none })

/-- Kind CANCEL (R25). -/
def svcCancel (f : SvcCallBody) : Owner :=
  svcUpdate f.table f.service fun r c s =>
    match c.state with
    | .scheduled =>
      (withdrawCall r (setStore (s.store.onCall r (fun c => { c with state := .cancelled })) s), .done)
    | .cancelled => (s, .done)
    | .departed => (s, .refuse .notOnSale)
    | .lapsed => (s, .refuse .notOnSale)

/-- Kind REINSTATE (R26). -/
def svcReinstate (f : SvcCallBody) : Owner :=
  svcUpdate f.table f.service fun r c s =>
    match c.state with
    | .cancelled => changeCall r (fun c => { c with state := .scheduled, removed := false }) s
    | .scheduled => (s, .done)
    | .departed => (s, .done)
    | .lapsed => (s, .done)

/-! ## The commands -/

/-- TIME_SET. -/
def execTimeSet (p : Port) (b : Body TimeSetBody) (s : State) : Outcome :=
  .next (settle (request p .timeSet (b.bytes writeTimeSet) (onFields b timeSet) s))

/-- TT_BEGIN. -/
def execTtBegin (p : Port) (b : Body TtBeginBody) (s : State) : Outcome :=
  .next (settle (request p .ttBegin (b.bytes writeTtBegin) (onFields b (ttBegin p)) s))

/-- TT_CALLS. -/
def execTtCalls (p : Port) (b : Body TtCallsBody) (s : State) : Outcome :=
  .next (settle (request p .ttCalls (b.bytes writeTtCalls) (onFields b (ttCalls p)) s))

/-- TT_END. -/
def execTtEnd (p : Port) (b : Body NoFields) (s : State) : Outcome :=
  .next (settle (request p .ttEnd (b.bytes writeNoFields) (onFields b (ttEnd p)) s))

/-- SVC_UPDATE of kind DELAY, and the refusal of an unknown kind. -/
def execSvcUpdateDelay (p : Port) (b : Body SvcDelayBody) (s : State) : Outcome :=
  .next (settle (request p .svcUpdate (b.bytes writeSvcDelay) (onFields b svcDelay) s))

/-- SVC_UPDATE of kind CLEAR_DELAY. -/
def execSvcUpdateClearDelay (p : Port) (f : SvcCallBody) (s : State) : Outcome :=
  .next (settle (request p .svcUpdate (writeSvcClearDelay f) (svcClearDelay f) s))

/-- SVC_UPDATE of kind CANCEL. -/
def execSvcUpdateCancel (p : Port) (f : SvcCallBody) (s : State) : Outcome :=
  .next (settle (request p .svcUpdate (writeSvcCancel f) (svcCancel f) s))

/-- SVC_UPDATE of kind REINSTATE. -/
def execSvcUpdateReinstate (p : Port) (f : SvcCallBody) (s : State) : Outcome :=
  .next (settle (request p .svcUpdate (writeSvcReinstate f) (svcReinstate f) s))

/-- STAGING_IDLE_TIMEOUT. -/
def execStagingIdleTimeout (s : State) : Outcome := .next (settle (whenUp stagingExpired s))

end Sys2Proof.Machine
end

