-- ==== Sys2Proof/Machine/Passage.lean ====
section
/-! DEFINITION. Passage.lean: the treadle pair, axles, and train passages with their matching (chapter 2,
2.4 to 2.6). -/

namespace Sys2Proof.Machine

/-! ## Treadles -/

/-- The detector replaced. -/
def setDetector (d : Detector) (s : State) : State := { s with detector := d }

/-- One treadle. -/
def Detector.treadle (d : Detector) : TreadleId → Treadle
  | .ta => d.ta
  | .tb => d.tb

/-- One treadle replaced. -/
def Detector.setTreadle (d : Detector) (t : TreadleId) (x : Treadle) : Detector :=
  match t with
  | .ta => { d with ta := x }
  | .tb => { d with tb := x }

/-- The other treadle of the pair. -/
def otherTreadle : TreadleId → TreadleId
  | .ta => .tb
  | .tb => .ta

/-- The direction of an axle, by the treadle whose pulse rose first: TA first is DOWN, TB first is UP
(R36). -/
def directionFirst : TreadleId → Direction
  | .ta => .down
  | .tb => .up

/-! ## Passages (R40) -/

/-- The closing timer's full time, in seconds (R40). -/
abbrev closingTime : Nat := 8

/-- An axle count with one more, holding at 255 (R40). -/
def axleUp (n : Nat) : Nat := min (n + 1) 255

/-- The passage record after an axle (R40). -/
def passageAfter (d : Direction) (c : Clock) (o : Option Passage) : Passage :=
  match o, d with
  | none, .up =>
    { up := 1, down := 0, first := c.second, last := c.second, lastDay := c.day, closing := closingTime }
  | none, .down =>
    { up := 0, down := 1, first := c.second, last := c.second, lastDay := c.day, closing := closingTime }
  | some x, .up =>
    { x with up := axleUp x.up, last := c.second, lastDay := c.day, closing := closingTime }
  | some x, .down =>
    { x with down := axleUp x.down, last := c.second, lastDay := c.day, closing := closingTime }

/-- A treadle after an axle: its pulse overlapped, its run 0 and its state NORMAL (R36, R38). -/
def Treadle.overlapped (x : Treadle) : Treadle := { x with pulse := some true, fault := false, run := 0 }

/-- An axle formed in a direction (R36, R38, R40). -/
def formAxle (d : Direction) (s : State) : State :=
  setDetector
    { s.detector with
      ta := s.detector.ta.overlapped, tb := s.detector.tb.overlapped
      passage := some (passageAfter d s.clock s.detector.passage) } s

/-- A treadle PRESSED with a pulse record of its own. -/
def Treadle.pulsing (x : Treadle) : Bool := x.pressed && x.pulse.isSome

/-- An accepted rising edge acted on (R36, R39): a pulse record opens, and in PAIRED mode an axle forms
when the other treadle is pulsing. -/
def rise (t : TreadleId) (s : State) : State :=
  let d := s.detector
  let u := setDetector
    (d.setTreadle t { d.treadle t with pressed := true, pulse := some false }) s
  match d.mode with
  | .separate => u
  | .paired =>
    if (d.treadle (otherTreadle t)).pulsing then formAxle (directionFirst (otherTreadle t)) u else u

/-- A treadle released with its pulse record ended. -/
def Treadle.released (x : Treadle) : Treadle := { x with pressed := false, pulse := none }

/-- An unpaired pulse ends on a treadle (R37). -/
def unpaired (t : TreadleId) (s : State) : State :=
  let x := s.detector.treadle t
  let run := min (x.run + 1) 20
  let u := setDetector
    (s.detector.setTreadle t { x with run := run, fault := x.fault || decide (run = 20) }) s
  let u := count .treadleUnpaired u
  if x.run < 20 ∧ run = 20 then post .treadleFault u else u

/-- An accepted falling edge acted on (R36, R37, R39). -/
def fall (t : TreadleId) (s : State) : State :=
  let d := s.detector
  let x := d.treadle t
  let u := setDetector (d.setTreadle t x.released) s
  match x.pulse, d.mode with
  | none, _ => u
  | some true, .paired => u
  | some false, .paired => unpaired t u
  | some _, .separate =>
    setDetector (d.setTreadle t { x.released with test := min (x.test + 1) 65535 }) s

/-- TREADLE_RISING_EDGE (R32): no change is acted on before the first acceptance (R33), and a level equal
to the accepted one is no edge (log 20). -/
def treadleRises (t : TreadleId) (s : State) : State :=
  let x := s.detector.treadle t
  if x.seen ∧ x.pressed = false then rise t s else s

/-- TREADLE_FALLING_EDGE (R32). -/
def treadleFalls (t : TreadleId) (s : State) : State :=
  let x := s.detector.treadle t
  if x.seen ∧ x.pressed then fall t s else s

/-- The first acceptance of a treadle's level gives no edge and no pulse record (R33). -/
def treadleFirst (t : TreadleId) (pressed : Bool) (s : State) : State :=
  let x := s.detector.treadle t
  if x.seen then s
  else setDetector (s.detector.setTreadle t { x with seen := true, pressed := pressed }) s

/-! ## TREADLE_MODE (R34, R35) -/

/-- A treadle after a change of mode; on entry to SEPARATE its test count is 0 (R35). -/
def Treadle.remoded (m : TreadleMode) (x : Treadle) : Treadle :=
  { x with
    pulse := none, fault := false, run := 0
    test := match m with
      | .separate => 0
      | .paired => x.test }

/-- A change of mode (R35). -/
def changeMode (m : TreadleMode) (s : State) : State :=
  setDetector
    { mode := m, ta := s.detector.ta.remoded m, tb := s.detector.tb.remoded m, passage := none } s

/-- TREADLE_MODE (R34): SEPARATE from the service port alone. -/
def treadleMode (p : Port) (f : TreadleModeBody) : Owner := fun s =>
  match treadleModeOf f.mode with
  | none => (s, .refuse .badRequest)
  | some m =>
    if m = .separate ∧ p ≠ .service then (s, .refuse .notPermitted)
    else if m = s.detector.mode then (s, .done)
    else (changeMode m s, .done)

/-! ## Closing and matching (R41 to R44) -/

/-- The direction of a closed passage, by majority of axles (R41). -/
def Passage.direction (x : Passage) : PassageDirection :=
  if x.up < x.down then .down else if x.down < x.up then .up else .unknown

/-- A call's direction fits a passage's (R42). -/
def PassageDirection.fits : PassageDirection → Direction → Bool
  | .unknown, _ => true
  | .up, .up => true
  | .up, .down => false
  | .down, .down => true
  | .down, .up => false

/-- A call of TODAY is a candidate for a passage (R42). -/
def Passage.candidate (x : Passage) (c : Call) : Bool :=
  let m := x.last / 60
  decide (c.state = .scheduled) && x.direction.fits c.direction &&
    decide (c.scheduled ≤ m + 10 ∧ m ≤ c.expected + 60)

/-- The first candidate in table order, if the passage's day is the store's (R42). -/
def Store.matching (st : Store) (x : Passage) : Option Call :=
  if x.lastDay = st.storeDay then (callsOf st.today).find? x.candidate else none

/-- A call departed at a second (R43). -/
def Call.departedAt (second : Nat) (c : Call) : Call :=
  { c with state := .departed, actual := some second }

/-- A passage that matches a call (R43). -/
def matchPassage (x : Passage) (c : Call) (s : State) : State :=
  let r : CallRef := ⟨.today, c.service⟩
  count .passagesMatched (withdrawCall r (setStore (s.store.onCall r (Call.departedAt x.last)) s))

/-- A passage that matches none (R44). -/
def unmatchedPassage (x : Passage) (s : State) : State :=
  count .passagesUnmatched (append (.unmatchedPassage x.direction x.up x.down x.last) s)

/-- A passage closed and its record removed: discarded as minor, matched or unmatched (R41). -/
def closePassage (x : Passage) (s : State) : State :=
  let t := setDetector { s.detector with passage := none } s
  if x.up + x.down < 4 then count .passagesMinor t
  else
    match t.store.matching x with
    | some c => matchPassage x c t
    | none => unmatchedPassage x t

/-- The closing timer runs out (R41); a timer that a later axle has restarted does not (R40; log 3). A closing
and the minute tick may fall together and be taken in either order (R45, 2.6): in the timer's last second the
closing is taken before the CLOCK_SECOND that ends it, and at 0 seconds left after it (log 29). -/
def passageClosed (s : State) : State :=
  match s.detector.passage with
  | none => s
  | some x => if x.closing ≤ 1 then closePassage x s else s

/-! ## The commands -/

/-- TREADLE_MODE. -/
def execTreadleMode (p : Port) (b : Body TreadleModeBody) (s : State) : Outcome :=
  .next (settle (request p .treadleMode (b.bytes writeTreadleMode) (onFields b (treadleMode p)) s))

/-- TREADLE_RISING_EDGE. -/
def execTreadleRisingEdge (t : TreadleId) (s : State) : Outcome :=
  .next (settle (whenUp (treadleRises t) s))

/-- TREADLE_FALLING_EDGE. -/
def execTreadleFallingEdge (t : TreadleId) (s : State) : Outcome :=
  .next (settle (whenUp (treadleFalls t) s))

/-- TREADLE_FIRST_ACCEPTANCE. -/
def execTreadleFirstAcceptance (t : TreadleId) (pressed : Bool) (s : State) : Outcome :=
  .next (settle (whenUp (treadleFirst t pressed) s))

/-- PASSAGE_CLOSE. -/
def execPassageClose (s : State) : Outcome := .next (settle (whenUp passageClosed s))

end Sys2Proof.Machine
end

