-- ==== Sys2Proof/Machine/Supply.lean ====
section
/-! DEFINITION. Supply.lean: the supply monitor (chapter 8). Levels, samples and runs, changes of the supply
state, print load periods. -/

namespace Sys2Proof.Machine

/-- The monitor replaced. -/
def setSupply (x : Supply) (s : State) : State := { s with supply := x }

/-! ## SUPPLY_LEVELS (R168) -/

/-- All three runs at 0. -/
def Supply.runsCleared (x : Supply) : Supply := { x with reserveRun := 0, economyRun := 0, upgradeRun := 0 }

/-- The reply to SUPPLY_LEVELS: the two levels, the derived levels in the order of R167, the state
(11.2; log 14). -/
def Supply.levelBytes (x : Supply) : List Byte :=
  num1 x.economy ++ num1 x.reserve ++ num1 x.economyRecovery ++ num1 x.reserveRecovery ++
    num1 x.floor ++ num1 x.state.code

/-- SUPPLY_LEVELS (R168). -/
def supplyLevels (f : SupplyLevelsBody) : Owner := fun s =>
  if 7 < f.economy.toNat ∨ 7 < f.reserve.toNat ∨ f.economy.toNat ≤ f.reserve.toNat then
    (s, .refuse .badRequest)
  else
    let x := { s.supply.runsCleared with economy := f.economy.toNat, reserve := f.reserve.toNat }
    (setSupply x s, .okWith x.levelBytes)

/-! ## Changes of the supply state (R176) -/

/-- The closure reason SUPPLY_RESERVE follows the state (R176). -/
def tellSales (old new : SupplyState) (s : State) : State :=
  if new = .reserve ∧ old ≠ .reserve then addReason .supplyReserve s
  else if old = .reserve ∧ new ≠ .reserve then removeReason .supplyReserve s
  else s

/-- A change is a downgrade (R171). -/
def downgrade (old new : SupplyState) : Bool := decide (old.code < new.code)

/-- A change of the supply state with all its effects; `line` is the data line at the line test of a frame
that the new interval begins (R148, R176). -/
def changeSupply (new : SupplyState) (line : DataLine) (s : State) : State :=
  let old := s.supply.state
  let t := setSupply { s.supply.runsCleared with state := new } s
  let t := tellSales old new t
  let t := append (.supply new) t
  let t := post .supplyChanged t
  let t := if downgrade old new then count .supplyDowngrades t else t
  intervalChanged s.intervalInForce line t

/-! ## Samples (R169 to R172, R175) -/

/-- The recovery level of the present state (R170); in NORMAL no upgrade run is counted. -/
def Supply.recoveryLevel (x : Supply) : Option Nat :=
  match x.state with
  | .normal => none
  | .economy => some x.economyRecovery
  | .reserve => some x.reserveRecovery

/-- The reserve run after a sample (R170, R175). -/
def Supply.reserveRunAfter (x : Supply) (c : SampleClass) : Nat :=
  match x.state, x.load with
  | .reserve, _ => 0
  | _, some _ => if c.below x.floor then x.reserveRun + 1 else x.reserveRun
  | _, none => if c.below x.reserve then x.reserveRun + 1 else 0

/-- The economy run after a sample (R170, R175). -/
def Supply.economyRunAfter (x : Supply) (c : SampleClass) : Nat :=
  match x.state, x.load with
  | .normal, some _ => x.economyRun
  | .normal, none => if c.below x.economy then x.economyRun + 1 else 0
  | .economy, _ => 0
  | .reserve, _ => 0

/-- The upgrade run after a sample (R170, R175). -/
def Supply.upgradeRunAfter (x : Supply) (c : SampleClass) : Nat :=
  match x.recoveryLevel, x.load with
  | none, _ => 0
  | some _, some _ => x.upgradeRun
  | some l, none => if c.below l then 0 else x.upgradeRun + 1

/-- The monitor after a sample is stored and applied to the runs, its timer's next period started. -/
def Supply.sampled (x : Supply) (c : SampleClass) : Supply :=
  { x with
    lastClass := some c, sampleTimer := 2, reserveRun := x.reserveRunAfter c
    economyRun := x.economyRunAfter c, upgradeRun := x.upgradeRunAfter c }

/-- One step up (R172). -/
def SupplyState.up : SupplyState → SupplyState
  | .reserve => .economy
  | .economy => .normal
  | .normal => .normal

/-- The state that the runs call for, if any (R171, R172). -/
def Supply.nextState (x : Supply) : Option SupplyState :=
  if 3 ≤ x.reserveRun then some .reserve
  else if 3 ≤ x.economyRun then some .economy
  else if 30 ≤ x.upgradeRun then some x.state.up
  else none

/-- A sample stored and applied to the runs, with the change of state that a run at its limit calls for
(R169). -/
def applySample (millivolts : Nat) (line : DataLine) (s : State) : State :=
  let t := setSupply (s.supply.sampled (classOf millivolts)) s
  match t.supply.nextState with
  | none => t
  | some new => changeSupply new line t

/-- SAMPLE (R169): taken when the sample timer runs out, 2 s after a start and after each sample (log 3). -/
def sampleTaken (millivolts : Nat) (line : DataLine) (s : State) : State :=
  if s.supply.sampleTimer = 0 then applySample millivolts line s else s

/-! ## Load periods (R173, R174) -/

/-- A load period opened now (R173); its end second is now plus 20. -/
def newLoad (c : Clock) : LoadPeriod :=
  { beginSecond := c.second, endTimer := 20, limitTimer := 60 }

/-- The load period after a LOAD_BEGIN (R173). The end second follows the end timer. -/
def loadAfter (c : Clock) (o : Option LoadPeriod) : LoadPeriod :=
  match o with
  | none => newLoad c
  | some l => { l with endTimer := min 20 l.limitTimer }

/-- The record removed and both timers stopped (R174). -/
def endLoad (s : State) : State := setSupply { s.supply with load := none } s

/-- A load period ended by a timer: LOAD_OVERRUNS counted once (R174). -/
def overrunLoad (s : State) : State := count .loadOverruns (endLoad s)

/-- A load period whose limit timer has ended is ended by it, with its count (R173, R174). -/
def endLoadAtLimit (s : State) : State :=
  match s.supply.load with
  | none => s
  | some l => if l.limitTimer = 0 then overrunLoad s else s

/-- LOAD_BEGIN (R173): it finds no period open when the limit timer has ended, also where the old period's
LOAD_PERIOD_TIMEOUT is still to come; the overrun is then counted here (log 28). -/
def loadBegin (_ : NoFields) : Owner := fun s =>
  let s := endLoadAtLimit s
  let l := loadAfter s.clock s.supply.load
  (setSupply { s.supply with load := some l } s,
    .okWith (num1 s.supply.state.code ++ num1 l.endTimer))

/-- LOAD_END (R174): the reply shows whether a period was ended. -/
def loadEnd (_ : NoFields) : Owner := fun s =>
  (endLoad s, .okWith (num1 s.supply.state.code ++ flagByte s.supply.load.isSome))

/-- The period's end timer runs out (R174); a timer that a LOAD_BEGIN has restarted does not (R173; log 3). -/
def loadTimedOut (s : State) : State :=
  match s.supply.load with
  | none => s
  | some l => if l.endTimer = 0 then overrunLoad s else s

/-! ## The commands -/

/-- SUPPLY_LEVELS. -/
def execSupplyLevels (p : Port) (b : Body SupplyLevelsBody) (s : State) : Outcome :=
  .next (settle (request p .supplyLevels (b.bytes writeSupplyLevels) (onFields b supplyLevels) s))

/-- LOAD_BEGIN. -/
def execLoadBegin (p : Port) (b : Body NoFields) (s : State) : Outcome :=
  .next (settle (request p .loadBegin (b.bytes writeNoFields) (onFields b loadBegin) s))

/-- LOAD_END. -/
def execLoadEnd (p : Port) (b : Body NoFields) (s : State) : Outcome :=
  .next (settle (request p .loadEnd (b.bytes writeNoFields) (onFields b loadEnd) s))

/-- SAMPLE. -/
def execSample (millivolts : Nat) (line : DataLine) (s : State) : Outcome :=
  .next (settleAt line (whenUp (sampleTaken millivolts line) s))

/-- LOAD_PERIOD_TIMEOUT. -/
def execLoadPeriodTimeout (s : State) : Outcome := .next (settle (whenUp loadTimedOut s))

end Sys2Proof.Machine
end

