-- ==== Sys2Proof/Machine/Ports.lean ====
section
/-! DEFINITION. Ports.lean: the port controllers and the counter bank's reading (chapters 9 and 10). Rights,
port resets, STATUS, LIST_CALLS, READ_COUNTERS, READ_NOTICES, reply reads, cut frames. -/

namespace Sys2Proof.Machine

/-! ## Rights (R194) -/

/-- A port's rights set replaced. -/
def setRightsOf (p : Port) (rs : List RightsClass) (s : State) : State :=
  setPort p { s.ports.get p with rights := rs } s

/-- SET_RIGHTS: from the service port alone; the service port's set holds CONFIG (R193, R194). -/
def setRights (p : Port) (f : SetRightsBody) : Owner := fun s =>
  if p ≠ .service then (s, .refuse .notPermitted)
  else
    match portOf f.port, rightsOf f.rights with
    | some q, some rs =>
      if q = .service ∧ .config ∉ rs then (s, .refuse .badRequest)
      else
        let t := setRightsOf q rs s
        (t, .okWith (t.ports.toList.flatMap (fun c => rightsBytes c.rights)))
    | _, _ => (s, .refuse .badRequest)

/-! ## Port reset (R197, R198) -/

/-- What a reset clears in the port controller (R198, steps 1 and 2). -/
def PortControl.cleared (c : PortControl) : PortControl :=
  { c with reception := [], slot := none, overrun := false, notices := [] }

/-- Step 6 of a port reset: the terminal port's ends an open load period (R198). -/
def releaseLoad (p : Port) (s : State) : State :=
  match p with
  | .terminal => endLoad s
  | .link => s
  | .service => s

/-- A port reset, in the order of R198. -/
def resetPort (p : Port) (s : State) : State :=
  let t := setPort p (s.ports.get p).cleared s
  releaseLoad p (releaseBatch p (releaseStaging p (resetSales p t)))

/-- PORT_RESET: from the service port alone, naming TERMINAL or LINK (R197). -/
def portReset (p : Port) (f : PortResetBody) : Owner := fun s =>
  if p ≠ .service then (s, .refuse .notPermitted)
  else
    match portOf f.port with
    | some .terminal => (resetPort .terminal s, .done)
    | some .link => (resetPort .link s, .done)
    | some .service => (s, .refuse .badRequest)
    | none => (s, .refuse .badRequest)

/-- A port's reset condition set. -/
def setCondition (p : Port) (x : ResetCondition) (s : State) : State :=
  setPort p { s.ports.get p with condition := x } s

/-- The reset line becomes active (R197); before the first acceptance, and with the line already active,
it is no change of level (log 20). -/
def resetLineActive (p : Port) (s : State) : State :=
  if (s.ports.get p).lineSeen ∧ (s.ports.get p).condition = .run then
    setCondition p .held (resetPort p s)
  else s

/-- The reset line becomes inactive (R197). -/
def resetLineInactive (p : Port) (s : State) : State :=
  if (s.ports.get p).lineSeen then setCondition p .run s else s

/-- The first acceptance of the reset line's level makes no port reset (R201). -/
def resetLineFirst (p : Port) (active : Bool) (s : State) : State :=
  if (s.ports.get p).lineSeen then s
  else
    setPort p
      { s.ports.get p with lineSeen := true, condition := if active then .held else .run } s

/-! ## STATUS (R199) -/

/-- A day table in the CLOCK section: state, day number, day kind, version, call count. -/
def tableStatus (t : Option DayTable) : List Byte :=
  match t with
  | none => num1 0 ++ num 2 0 ++ num1 0 ++ num 2 0 ++ num1 0
  | some t => num1 1 ++ num 2 t.day ++ num1 t.kind.code ++ num 2 t.version ++ num1 t.calls.length

/-- The staging in the CLOCK section, after its presence byte. -/
def stagingStatus (g : Option Staging) : List Byte :=
  match g with
  | none => num1 0 ++ num 9 0
  | some g =>
    num1 1 ++ num1 (portCode g.holder) ++ num 2 g.day ++ num1 g.kind.code ++ num 2 g.version ++
      num1 g.count ++ num1 g.next ++ num1 g.idle

/-- Section CLOCK. -/
def State.statusClock (s : State) : List Byte :=
  flagByte s.clock.valid ++ num 2 s.clock.day ++ num1 s.clock.kind.code ++ num 3 s.clock.second ++
    num 2 s.store.storeDay ++ flagByte s.store.neededMark ++ tableStatus s.store.today ++
    tableStatus s.store.tomorrow ++ stagingStatus s.store.staging

/-- A treadle in the DETECTOR section: accepted level, state, unpaired run, test count (log 15). -/
def treadleStatus (x : Treadle) : List Byte :=
  flagByte x.pressed ++ flagByte x.fault ++ num1 x.run ++ num 2 x.test

/-- The open passage in the DETECTOR section, after its presence byte. -/
def passageStatus (x : Option Passage) : List Byte :=
  match x with
  | none => num1 0 ++ num 8 0
  | some x => num1 1 ++ num1 x.up ++ num1 x.down ++ num 3 x.first ++ num 3 x.last

/-- Section DETECTOR. -/
def State.statusDetector (s : State) : List Byte :=
  num1 s.detector.mode.code ++ treadleStatus s.detector.ta ++ treadleStatus s.detector.tb ++
    passageStatus s.detector.passage

/-- The number of a last-quote mark, 0 for none. -/
def QuoteMark.number : QuoteMark → Nat
  | .none => 0
  | .expired q => q.number
  | .invalidated n => n

/-- A port in the SALES section. -/
def portSalesStatus (x : PortSales) : List Byte :=
  (match x.slot with
   | none => num1 0 ++ num1 0 ++ num 3 0
   | some q => num1 1 ++ num1 q.number ++ num 3 q.expiry) ++
  num1 x.mark.code ++ num1 x.mark.number ++
  (match x.lastSale with
   | none => num1 0 ++ num 4 0
   | some l => num1 1 ++ num 4 l.serial)

/-- Section SALES. -/
def State.statusSales (s : State) : List Byte :=
  num1 (if s.sales.isOpen then 0 else 1) ++ reasonBytes s.sales.reasons ++ flagByte s.sales.silent ++
    s.sales.ports.toList.flatMap portSalesStatus ++ num1 s.sales.blocks.length ++
    num 4 s.sales.remaining ++ num 4 s.sales.horizon ++ flagByte s.sales.lowMark

/-- The next sequence number as STATUS reports it; past the last sequence the rules give no number (R101;
free value, log 13). -/
def Journal.reportedNext (j : Journal) : Nat :=
  if lastSequence < j.nextSequence then Config.nextSequenceWhenExhausted else j.nextSequence

/-- The batch in flight in the JOURNAL section, after its presence byte. -/
def batchStatus (b : Option Batch) : List Byte :=
  match b with
  | none => num1 0 ++ num 11 0
  | some b =>
    num1 1 ++ num 2 b.id ++ num1 (portCode b.holder) ++ num 4 b.first ++ num1 b.count ++ num 3 b.taken

/-- The due second while WAITING, else 0 (R199, 11.2). -/
def Scheduler.reportedDue (x : Scheduler) : Nat :=
  match x.state with
  | .waiting => x.dueSecond.getD 0
  | .due => 0
  | .held => 0

/-- Section JOURNAL. -/
def State.statusJournal (s : State) : List Byte :=
  num 2 s.journal.entries.length ++ num 2 s.journal.unsent.length ++ num 2 s.journal.free ++
    num 4 s.journal.reportedNext ++ num 2 s.journal.nextBatch ++ batchStatus s.journal.batch ++
    num1 s.scheduler.state.code ++ num1 s.scheduler.failures ++ num 3 s.scheduler.reportedDue

/-- List length and position while RUNNING, else 0; the position counts from 1 (R199; log 15). -/
def DisplayBus.progress (b : DisplayBus) : List Byte :=
  match b.state with
  | .running => num1 b.list.length ++ num1 (b.position + 1)
  | .stopped => num1 0 ++ num1 0
  | .idle => num1 0 ++ num1 0
  | .recovering _ => num1 0 ++ num1 0
  | .fault => num1 0 ++ num1 0

/-- The settings as the DISPLAY section gives them, from pacing to the auto-recovery flag. -/
def DisplayBus.settings (b : DisplayBus) (inForce : Nat) : List Byte :=
  num1 b.pacing.code ++ num1 b.polarity.code ++ num1 b.interval ++ num1 inForce ++
    num1 b.countSetting ++ remainingBytes b.remaining ++ flagByte b.autoRecovery

/-- Section DISPLAY. -/
def State.statusDisplay (s : State) : List Byte :=
  num1 s.bus.state.code ++ num1 s.bus.state.recoveryCode ++ num1 (causeCode s.bus.cause) ++
    s.bus.settings s.intervalInForce ++ flagByte s.bus.runMark ++ flagByte s.bus.stopMark ++
    num1 s.bus.cycle ++ s.bus.progress ++ num1 s.compositor.group.code ++
    flagByte s.compositor.idle.isNone ++ num1 s.compositor.sleepAfter ++ num1 s.sleepAfterInForce ++
    flagByte s.compositor.occupied ++ num1 (messageCode s.compositor.message) ++
    s.compositor.panels.toList.flatMap panelBytes

/-- The load period in the SUPPLY section, after its presence byte: its begin second and its end second as it
stands now (8.3). -/
def loadStatus (c : Clock) (o : Option LoadPeriod) : List Byte :=
  match o with
  | none => num1 0 ++ num 6 0
  | some l => num1 1 ++ num 3 l.beginSecond ++ num 3 (l.endSecond c)

/-- Section SUPPLY. -/
def State.statusSupply (s : State) : List Byte :=
  num1 s.supply.state.code ++ num1 s.supply.economy ++ num1 s.supply.reserve ++
    num1 s.supply.economyRecovery ++ num1 s.supply.reserveRecovery ++ num1 s.supply.floor ++
    num1 (sampleClassCode s.supply.lastClass) ++ num1 s.supply.reserveRun ++
    num1 s.supply.economyRun ++ num1 s.supply.upgradeRun ++ loadStatus s.clock s.supply.load

/-- A port in the PORTS section. -/
def portStatus (c : PortControl) : List Byte :=
  rightsBytes c.rights ++ num1 c.condition.code ++ flagByte c.replyLine ++ flagByte c.attn

/-- Section PORTS. -/
def State.statusPorts (s : State) : List Byte := s.ports.toList.flatMap portStatus

/-- The bytes of a section. -/
def State.statusBytes (s : State) : StatusSection → List Byte
  | .clock => s.statusClock
  | .detector => s.statusDetector
  | .sales => s.statusSales
  | .journal => s.statusJournal
  | .display => s.statusDisplay
  | .supply => s.statusSupply
  | .ports => s.statusPorts

/-- STATUS (R199). -/
def status (f : StatusBody) : Owner := fun s =>
  match statusSectionOf f.statusSection with
  | none => (s, .refuse .badRequest)
  | some x => (s, .okWith (s.statusBytes x))

/-! ## LIST_CALLS (R200) -/

/-- A call in a LIST_CALLS reply, 17 bytes (11.2). -/
def callBytes (c : Call) : List Byte :=
  num 2 c.service ++ num1 c.direction.code ++ num 2 c.scheduled ++ num1 c.destination ++
    num1 c.state.code ++
    (match c.report with
     | none => num1 0 ++ num 2 0 ++ num1 0
     | some r => num1 1 ++ num 2 r.delay ++ num1 r.allowance) ++
    num 2 c.expected ++
    num 3 (match c.state with
      | .departed => c.actual.getD 0
      | .scheduled => 0
      | .cancelled => 0
      | .lapsed => 0) ++
    flagByte c.removed

/-- The calls of a table that fit in one LIST_CALLS reply (R205). -/
abbrev listRoom : Nat := 14

/-- The calls returned (R200). -/
def listedCalls (t : Option DayTable) (first n : Nat) : List Call :=
  ((callsOf t).drop first).take (min n listRoom)

/-- The body of a LIST_CALLS reply: the 10-byte header and the calls (11.2). -/
def listCallsBytes (name : TableName) (t : Option DayTable) (first n : Nat) : List Byte :=
  let calls := listedCalls t first n
  num1 name.code ++ tableStatus t ++ num1 first ++ num1 calls.length ++ calls.flatMap callBytes

/-- LIST_CALLS (R200). -/
def listCalls (f : TableRunBody) : Owner := fun s =>
  match tableOf f.table with
  | none => (s, .refuse .badRequest)
  | some t =>
    if 95 < f.first.toNat ∨ f.count.toNat = 0 ∨ 96 < f.count.toNat then (s, .refuse .badRequest)
    else (s, .okWith (listCallsBytes t (s.store.table t) f.first.toNat f.count.toNat))

/-! ## READ_COUNTERS (R182 to R184) -/

/-- The values of a run of counters, the first by its number (R182). -/
def State.counterRun (s : State) (first n : Nat) : List Nat := (s.counters.toList.drop (first - 1)).take n

/-- A run of counters set to 0 (R184). -/
def zeroCounters (first n : Nat) (s : State) : State :=
  { s with counters :=
      Vector.ofFn (fun i => if first ≤ i.val + 1 ∧ i.val + 1 < first + n then 0 else s.counters[i]) }

/-- READ_COUNTERS (R182 to R184). The count of an unread reply that its own reply discards comes after the snapshot
(log 30). -/
def readCounters (p : Port) (f : ReadCountersBody) : Owner := fun s =>
  let first := f.first.toNat
  let n := f.count.toNat
  match flagOf f.reset with
  | none => (s, .refuse .badRequest)
  | some reset =>
    if first = 0 ∨ 24 < first ∨ n = 0 ∨ 24 < n ∨ 24 < first + n - 1 then (s, .refuse .badRequest)
    else if reset ∧ p = .terminal then (s, .refuse .notPermitted)
    else
      (if reset then zeroCounters first n s else s,
        .okWith (num1 first ++ num1 n ++ flagByte reset ++ (s.counterRun first n).flatMap (num 4)))

/-! ## READ_NOTICES (R196) -/

/-- The notices of an acknowledge list taken out of a set (R196). -/
def acknowledge (list held : List Notice) : List Notice := held.filter (fun k => decide (k ∉ list))

/-- READ_NOTICES (R196). -/
def readNotices (p : Port) (f : ReadNoticesBody) : Owner := fun s =>
  match noticesOf f.acknowledge with
  | none => (s, .refuse .badRequest)
  | some list =>
    let c := s.ports.get p
    (setPort p { c with notices := acknowledge list c.notices } s, .okWith (noticeBytes c.notices))

/-! ## Transfers that reach no block (R187 to R190) -/

/-- A complete frame whose code the part does not define (R189): heard and answered. -/
def unknownFrame (p : Port) (code : Byte) (body : List Byte) (s : State) : State :=
  if s.receives p then
    makeReply p code (.refuse .unknownRequest) (hear p (body.length + 2) s)
  else unheard p (body.length + 2) s

/-- A cut frame (R188): counted, and every state of the port as it was but the data output's record. A
select period with no whole byte is ignored (R187). -/
def cutFrame (p : Port) (received : List Byte) (s : State) : State :=
  if received.isEmpty then s
  else if s.receives p then
    count .portFrameErrors
      (setPort p { s.ports.get p with dataOut := List.replicate received.length filler } s)
  else unheard p received.length s

/-- The bytes the data output carries in a reply read of `n` bytes after the marker (R190): the reply from
its first byte, or a single 0, and then filler. -/
def readOutput (slot : Option ReplySlot) (n : Nat) : List Byte :=
  let frame := match slot with
    | none => [0x00]
    | some x => x.reply.bytes
  frame.take n ++ List.replicate (n - frame.length) filler

/-- The slot after a reply read: EMPTY once the last byte has been shifted out, else whole (R190). -/
def slotAfterRead (slot : Option ReplySlot) (n : Nat) : Option ReplySlot :=
  match slot with
  | none => none
  | some x => if x.reply.bytes.length ≤ n then none else some { x with readPosition := 0 }

/-- A reply read (R190). -/
def readReply (p : Port) (n : Nat) (s : State) : State :=
  if s.receives p then
    let c := s.ports.get p
    setPort p { c with slot := slotAfterRead c.slot n, dataOut := readOutput c.slot n } s
  else unheard p n s

/-! ## The commands -/

/-- SET_RIGHTS. -/
def execSetRights (p : Port) (b : Body SetRightsBody) (s : State) : Outcome :=
  .next (settle (request p .setRights (b.bytes writeSetRights) (onFields b (setRights p)) s))

/-- PORT_RESET. -/
def execPortReset (p : Port) (b : Body PortResetBody) (s : State) : Outcome :=
  .next (settle (request p .portReset (b.bytes writePortReset) (onFields b (portReset p)) s))

/-- STATUS. -/
def execStatus (p : Port) (b : Body StatusBody) (s : State) : Outcome :=
  .next (settle (request p .status (b.bytes writeStatus) (onFields b status) s))

/-- LIST_CALLS. -/
def execListCalls (p : Port) (b : Body TableRunBody) (s : State) : Outcome :=
  .next (settle (request p .listCalls (b.bytes writeTableRun) (onFields b listCalls) s))

/-- READ_COUNTERS. -/
def execReadCounters (p : Port) (b : Body ReadCountersBody) (s : State) : Outcome :=
  .next (settle (request p .readCounters (b.bytes writeReadCounters) (onFields b (readCounters p)) s))

/-- READ_NOTICES. -/
def execReadNotices (p : Port) (b : Body ReadNoticesBody) (s : State) : Outcome :=
  .next (settle (request p .readNotices (b.bytes writeReadNotices) (onFields b (readNotices p)) s))

/-- UNKNOWN_REQUEST. -/
def execUnknownRequest (p : Port) (code : Byte) (body : List Byte) (s : State) : Outcome :=
  .next (settle (unknownFrame p code body s))

/-- FRAME_CUT. -/
def execFrameCut (p : Port) (received : List Byte) (s : State) : Outcome :=
  .next (settle (cutFrame p received s))

/-- REPLY_READ. -/
def execReplyRead (p : Port) (clocked : Nat) (s : State) : Outcome :=
  .next (settle (readReply p clocked s))

/-- PORT_RESET_LINE_ACTIVE. -/
def execPortResetLineActive (p : Port) (s : State) : Outcome :=
  .next (settle (whenUp (resetLineActive p) s))

/-- PORT_RESET_LINE_INACTIVE. -/
def execPortResetLineInactive (p : Port) (s : State) : Outcome :=
  .next (settle (whenUp (resetLineInactive p) s))

/-- PORT_RESET_LINE_FIRST_ACCEPTANCE. -/
def execPortResetLineFirstAcceptance (p : Port) (active : Bool) (s : State) : Outcome :=
  .next (settle (whenUp (resetLineFirst p active) s))

end Sys2Proof.Machine
end

