-- ==== Sys2Proof/Machine/Starts.lean ====
section
/-! DEFINITION. Starts.lean: elapsed time, and the starts of the part. The second counts the interval timers
and the clock; a dip stops the core domain; a warm start and a cold start begin it again. -/

namespace Sys2Proof.Machine

/-! ## Elapsed time (log 2) -/

/-- A running timer with one second less left; at 0 it has run out and its expiry is due (log 3). -/
def tickTimer (t : Option Nat) : Option Nat := t.map (fun n => n - 1)

/-- A port's sales timers counted (R77, R86). -/
def PortSales.elapse (x : PortSales) : PortSales :=
  { x with
    slot := x.slot.map (fun q => { q with timer := q.timer - 1 })
    lastSale := x.lastSale.map (fun l => { l with window := l.window - 1 }) }

/-- The sales controller's timers counted (R73, R77, R86). -/
def Sales.elapse (x : Sales) : Sales :=
  { x with ports := x.ports.imap (fun _ y => y.elapse), silence := tickTimer x.silence }

/-- The display bus controller's timers counted, and the second since the last frame (R149, R150, R153). -/
def DisplayBus.elapse (x : DisplayBus) : DisplayBus :=
  { x with
    frameTimer := tickTimer x.frameTimer
    probes := Vector.ofFn (fun i => tickTimer x.probes[i])
    sinceFrame := x.sinceFrame.map (fun n => n + 1) }

/-- The supply monitor's timers counted (R169, R173). -/
def Supply.elapse (x : Supply) : Supply :=
  { x with
    sampleTimer := x.sampleTimer - 1
    load := x.load.map (fun l =>
      { l with endTimer := l.endTimer - 1, limitTimer := l.limitTimer - 1 }) }

/-- Every interval timer counted by one elapsed second, whether the clock is VALID or not. -/
def elapse (s : State) : State :=
  { s with
    store := { s.store with staging := s.store.staging.map (fun g => { g with idle := g.idle - 1 }) }
    detector := { s.detector with
      passage := s.detector.passage.map (fun x => { x with closing := x.closing - 1 }) }
    sales := s.sales.elapse
    journal := { s.journal with batch := s.journal.batch.map (fun b => { b with timer := b.timer - 1 }) }
    scheduler := { s.scheduler with wait := tickTimer s.scheduler.wait }
    compositor := { s.compositor with idle := tickTimer s.compositor.idle }
    bus := s.bus.elapse
    supply := s.supply.elapse }

/-- One elapsed second (R1, R2, R4): while the core supply is down the retention domain counts the clock
alone. -/
def secondElapses (s : State) : State :=
  match s.core with
  | .up => advanceClock (elapse s)
  | .down => setClock s.clock.dipSecond s

/-! ## The core domain lost -/

/-- A configured panel after a warm start (R142). -/
def Panel.warm (r : Panel) : Panel :=
  if r.configured then
    { r with state := .awake, misses := 0, lastStatus := .ok, pending := .wake }
  else { r with state := .unconfigured, misses := 0, lastStatus := .ok, pending := .none }

/-- The detector after a start: the mode is kept (2.4, R33, R34, R46). -/
def Detector.lost (d : Detector) : Detector :=
  { mode := d.mode, ta := .initial, tb := .initial, passage := none }

/-- The closure reasons as their owners stand (R71). -/
def State.rebuiltReasons (s : State) : List Reason :=
  Reason.all.filter (fun r => match r with
    | .noTime => !s.clock.valid
    | .noFares => !s.fares.loaded
    | .stockEmpty => decide (s.sales.remaining = 0)
    | .journalFull => decide (s.journal.free < 2)
    | .supplyReserve => false
    | .suspended => decide (.suspended ∈ s.sales.reasons))

/-- The sales controller after a start: the stock is kept, the rest at its start value (R73, R98); the
reason set is rebuilt later, when the START entry has been asked for. -/
def Sales.lost (x : Sales) : Sales :=
  { x with
    ports := ⟨.initial, .initial, .initial⟩
    silence := some 300
    silent := false }

/-- The supply monitor after a warm start (R177). -/
def Supply.lost (x : Supply) : Supply :=
  { economy := x.economy, reserve := x.reserve, state := .economy, lastClass := none, reserveRun := 0
    economyRun := 0, upgradeRun := 0, sampleTimer := 2, load := none }

/-- The display bus controller after a warm start, before frames resume (R165). -/
def DisplayBus.lost (x : DisplayBus) : DisplayBus :=
  { x with
    state := if x.runMark then .idle else .stopped
    cause := none, stopMark := false, cycle := 0, frameTimer := none, list := [], position := 0
    tried := false, probes := Vector.replicate 8 none, triggerSeen := false, triggerHigh := false
    firstEdge := true, sinceFrame := none, startDue := false }

/-- The compositor after a warm start, but for its idle timer (R134, R142). -/
def Compositor.lost (x : Compositor) : Compositor :=
  { x with
    panels := mapPanels Panel.warm x.panels, presenceSeen := false, occupied := false
    group := .awake }

/-- A port controller after a start: the rights set is kept, the port is HELD until its reset line has been
accepted, and the notice set is cleared (R201, R202). -/
def PortControl.lost (c : PortControl) : PortControl := .initial c.rights []

/-- The scheduler after a start (R122). -/
def Scheduler.initial : Scheduler := { state := .due, failures := 0, wait := none, dueSecond := none }

/-- The core domain lost: the retention domain is kept and every core field stands at the value that the
next warm start gives it (R4, R22, R46, R98, R122, R142, R165, R177, R201; log 8). -/
def coreLost (s : State) : State :=
  startIdle
    { s with
      store := { s.store with staging := none }
      detector := s.detector.lost
      sales := s.sales.lost
      journal := s.journal.returned
      scheduler := .initial
      compositor := s.compositor.lost
      bus := s.bus.lost
      supply := s.supply.lost
      ports := s.ports.imap (fun _ c => c.lost) }

/-- CORE_SUPPLY_DIP (R4): the core domain stops and loses its state; already stopped, it loses nothing. -/
def dip (s : State) : State := if s.running then coreLost { s with core := .down } else s

/-! ## WARM_START (R4, R122, R165, R202) -/

/-- Every notice set cleared, and RESTARTED posted to every port (R202). -/
def restarted (s : State) : State :=
  post .restarted { s with ports := s.ports.imap (fun _ c => { c with notices := [] }) }

/-- UPLOAD_DUE when the link port is ready at a start (R122). -/
def startUpload (s : State) : State := if s.linkReady then post .uploadDue s else s

/-- The day boundary of a warm start, when the clock's day is past the store's (R4). -/
def startBoundary (s : State) : State :=
  if s.store.storeDay < s.clock.day then dayBoundary .weekday s else s

/-- The minute tick of a warm start (R3, R4), raised for a VALID clock also where it stands stopped at second 86399
of day 65535: DESIGN CHOICE (R2; log 31). -/
def startTick (s : State) : State := if s.clock.valid then minuteTick s else s

/-- Frames resume at a warm start with the run mark set (R165; log 17). -/
def resumeFrames (line : DataLine) (s : State) : State :=
  if s.bus.runMark then startFrames line s else s

/-- The reason set rebuilt, with no notice (R71). -/
def rebuildReasons (s : State) : State := { s with sales := { s.sales with reasons := s.rebuiltReasons } }

/-- WARM_START: the core domain begins again with the retention domain kept. -/
def warmStarted (line : DataLine) (s : State) : State :=
  let t := coreLost { s with core := .up }
  let t := rebuildReasons (append (.start .warm) t)
  let t := startUpload (restarted t)
  resumeFrames line (startTick (startBoundary t))

/-! ## COLD_START (R123) -/

/-- COLD_START: every block at its Init values, as `State.reset` gives them; the queue and the count of free
values drawn are the model's own and stand (log 1, log 6). -/
def coldStarted (s : State) : State := { State.reset with draws := s.draws, pending := s.pending }

/-! ## The commands -/

/-- CLOCK_SECOND. -/
def execClockSecond (s : State) : Outcome := .next (settle (secondElapses s))

/-- COLD_START. -/
def execColdStart (s : State) : Outcome := .next (coldStarted s)

/-- WARM_START. -/
def execWarmStart (line : DataLine) (s : State) : Outcome := .next (warmStarted line s)

/-- CORE_SUPPLY_DIP. -/
def execCoreSupplyDip (s : State) : Outcome := .next (dip s)

end Sys2Proof.Machine
end

