-- ==== Sys2Proof/Machine/Dispatch.lean ====
section
/-! DEFINITION. Dispatch.lean: one arm per command, each one call of its meaning. -/

namespace Sys2Proof.Machine

def exec (i : Instr) (s : State) : Host.Outcome State Fault Refusal :=
  match i with
  | .timeSet p b => Sys2Proof.Machine.execTimeSet p b s
  | .ttBegin p b => Sys2Proof.Machine.execTtBegin p b s
  | .ttCalls p b => Sys2Proof.Machine.execTtCalls p b s
  | .ttEnd p b => Sys2Proof.Machine.execTtEnd p b s
  | .svcUpdateDelay p b => Sys2Proof.Machine.execSvcUpdateDelay p b s
  | .svcUpdateClearDelay p f => Sys2Proof.Machine.execSvcUpdateClearDelay p f s
  | .svcUpdateCancel p f => Sys2Proof.Machine.execSvcUpdateCancel p f s
  | .svcUpdateReinstate p f => Sys2Proof.Machine.execSvcUpdateReinstate p f s
  | .quote p b => Sys2Proof.Machine.execQuote p b s
  | .issue p b => Sys2Proof.Machine.execIssue p b s
  | .void p b => Sys2Proof.Machine.execVoid p b s
  | .loadBegin p b => Sys2Proof.Machine.execLoadBegin p b s
  | .loadEnd p b => Sys2Proof.Machine.execLoadEnd p b s
  | .fareRangeWrite p b => Sys2Proof.Machine.execFareRangeWrite p b s
  | .farePriceWrite p b => Sys2Proof.Machine.execFarePriceWrite p b s
  | .fareParamWrite p b => Sys2Proof.Machine.execFareParamWrite p b s
  | .fareConcessionWrite p b => Sys2Proof.Machine.execFareConcessionWrite p b s
  | .farePeakWrite p b => Sys2Proof.Machine.execFarePeakWrite p b s
  | .rvlWrite p b => Sys2Proof.Machine.execRvlWrite p b s
  | .rvlClearAll p b => Sys2Proof.Machine.execRvlClearAll p b s
  | .stockAdd p b => Sys2Proof.Machine.execStockAdd p b s
  | .batchTake p b => Sys2Proof.Machine.execBatchTake p b s
  | .batchAck p b => Sys2Proof.Machine.execBatchAck p b s
  | .batchFail p b => Sys2Proof.Machine.execBatchFail p b s
  | .linkResume p b => Sys2Proof.Machine.execLinkResume p b s
  | .panelConfig p b => Sys2Proof.Machine.execPanelConfig p b s
  | .panelConfigGroup p f => Sys2Proof.Machine.execPanelConfigGroup p f s
  | .displayStart p line => Sys2Proof.Machine.execDisplayStart p line s
  | .displayStop p => Sys2Proof.Machine.execDisplayStop p s
  | .displayRecover p line => Sys2Proof.Machine.execDisplayRecover p line s
  | .displayPacing p f line => Sys2Proof.Machine.execDisplayPacing p f line s
  | .displayFrameCount p f => Sys2Proof.Machine.execDisplayFrameCount p f s
  | .displayAutoRecovery p b => Sys2Proof.Machine.execDisplayAutoRecovery p b s
  | .supplyLevels p b => Sys2Proof.Machine.execSupplyLevels p b s
  | .treadleMode p b => Sys2Proof.Machine.execTreadleMode p b s
  | .salesSuspend p b => Sys2Proof.Machine.execSalesSuspend p b s
  | .salesResume p b => Sys2Proof.Machine.execSalesResume p b s
  | .setRights p b => Sys2Proof.Machine.execSetRights p b s
  | .portReset p b => Sys2Proof.Machine.execPortReset p b s
  | .status p b => Sys2Proof.Machine.execStatus p b s
  | .listCalls p b => Sys2Proof.Machine.execListCalls p b s
  | .fareRead p b => Sys2Proof.Machine.execFareRead p b s
  | .rvlRead p b => Sys2Proof.Machine.execRvlRead p b s
  | .readCounters p b => Sys2Proof.Machine.execReadCounters p b s
  | .readNotices p b => Sys2Proof.Machine.execReadNotices p b s
  | .unknownRequest p code body => Sys2Proof.Machine.execUnknownRequest p code body s
  | .frameCut p received => Sys2Proof.Machine.execFrameCut p received s
  | .replyRead p clocked => Sys2Proof.Machine.execReplyRead p clocked s
  | .portResetLineActive p => Sys2Proof.Machine.execPortResetLineActive p s
  | .portResetLineInactive p => Sys2Proof.Machine.execPortResetLineInactive p s
  | .portResetLineFirstAcceptance p active => Sys2Proof.Machine.execPortResetLineFirstAcceptance p active s
  | .clockSecond => Sys2Proof.Machine.execClockSecond s
  | .stagingIdleTimeout => Sys2Proof.Machine.execStagingIdleTimeout s
  | .passageClose => Sys2Proof.Machine.execPassageClose s
  | .quoteExpiry p => Sys2Proof.Machine.execQuoteExpiry p s
  | .voidWindowExpiry p => Sys2Proof.Machine.execVoidWindowExpiry p s
  | .terminalSilenceExpiry => Sys2Proof.Machine.execTerminalSilenceExpiry s
  | .batchTimeout => Sys2Proof.Machine.execBatchTimeout s
  | .waitExpiry => Sys2Proof.Machine.execWaitExpiry s
  | .presenceIdleExpiry => Sys2Proof.Machine.execPresenceIdleExpiry s
  | .frameTimerExpiry line => Sys2Proof.Machine.execFrameTimerExpiry line s
  | .probeTimerExpiry panel => Sys2Proof.Machine.execProbeTimerExpiry panel s
  | .sample millivolts line => Sys2Proof.Machine.execSample millivolts line s
  | .loadPeriodTimeout => Sys2Proof.Machine.execLoadPeriodTimeout s
  | .treadleRisingEdge t => Sys2Proof.Machine.execTreadleRisingEdge t s
  | .treadleFallingEdge t => Sys2Proof.Machine.execTreadleFallingEdge t s
  | .treadleFirstAcceptance t pressed => Sys2Proof.Machine.execTreadleFirstAcceptance t pressed s
  | .presenceEdge occupied => Sys2Proof.Machine.execPresenceEdge occupied s
  | .presenceFirstAcceptance occupied => Sys2Proof.Machine.execPresenceFirstAcceptance occupied s
  | .triggerEdge high line => Sys2Proof.Machine.execTriggerEdge high line s
  | .triggerFirstAcceptance high => Sys2Proof.Machine.execTriggerFirstAcceptance high s
  | .transactionEnd e line => Sys2Proof.Machine.execTransactionEnd e line s
  | .busDisturbed line => Sys2Proof.Machine.execBusDisturbed line s
  | .stuckClock => Sys2Proof.Machine.execStuckClock s
  | .recoveryEndAuto r line => Sys2Proof.Machine.execRecoveryEndAuto r line s
  | .recoveryEndManual r line => Sys2Proof.Machine.execRecoveryEndManual r line s
  | .coldStart => Sys2Proof.Machine.execColdStart s
  | .warmStart line => Sys2Proof.Machine.execWarmStart line s
  | .coreSupplyDip => Sys2Proof.Machine.execCoreSupplyDip s

end Sys2Proof.Machine
end

