-- ==== Sys2Proof/WellFormed.lean ====
section
/-! DEFINITION. WellFormed.lean: which commands can arrive. A raw body is one that does not fit its
row's layout and fits in a frame (R188, R203), an unknown request's code is not a defined one (R189), a
cut frame is a length byte and fewer bytes than it announces (R188). `exec` answers every command, well
formed or not; these checks say which of them the outside can send. -/

namespace Sys2Proof

/-- The largest body: a length byte of 255 leaves 254 bytes after the code (R188). -/
abbrev maxBody : Nat := 254

/-- A body of its row: its fields, or bytes that `read` does not take and a frame can hold. -/
def Body.wf {α : Type} (read : List Byte → Option α) : Body α → Bool
  | .fields _ => true
  | .raw bytes => (read bytes).isNone && decide (bytes.length ≤ maxBody)

/-- A TT_CALLS body: 1 to 12 records, or bytes that do not fit (R203). -/
def ttCallsWf : Body TtCallsBody → Bool
  | .fields f => decide (1 ≤ f.records.length ∧ f.records.length ≤ 12)
  | .raw bytes => (readTtCalls bytes).isNone && decide (bytes.length ≤ maxBody)

/-- A FARE_PRICE_WRITE body: 1 to 15 prices, or bytes that do not fit (R203). -/
def farePriceWf : Body FarePriceBody → Bool
  | .fields f => decide (1 ≤ f.prices.length ∧ f.prices.length ≤ 15)
  | .raw bytes => (readFarePrice bytes).isNone && decide (bytes.length ≤ maxBody)

/-- A raw SVC_UPDATE body: a wrong length, or a kind byte above 3 (R23). -/
def svcRawWf (bytes : List Byte) : Bool :=
  decide (bytes.length ≤ maxBody) &&
    match bytes with
    | [_, _, _, k, _, _, _] => decide (3 < k.toNat)
    | _ => true

/-- A raw DISPLAY_CONTROL body: a wrong length, or a form byte above 5 (R146). -/
def displayRawWf (bytes : List Byte) : Bool :=
  decide (bytes.length ≤ maxBody) &&
    match bytes with
    | [f, _, _, _] => decide (5 < f.toNat)
    | _ => true

/-- A panel form: an address other than 0 (0 is the group form's), or a wrong length. -/
def panelConfigWf : Body PanelConfigBody → Bool
  | .fields f => decide (f.address ≠ 0)
  | .raw bytes => decide (bytes.length ≠ 5 ∧ bytes.length ≤ maxBody)

/-- Whether a command can arrive. -/
def Instr.wf : Instr → Bool
  | .timeSet _ b => b.wf readTimeSet
  | .ttBegin _ b => b.wf readTtBegin
  | .ttCalls _ b => ttCallsWf b
  | .ttEnd _ b => b.wf readNoFields
  | .svcUpdateDelay _ (.fields _) => true
  | .svcUpdateDelay _ (.raw bytes) => svcRawWf bytes
  | .svcUpdateClearDelay _ _ => true
  | .svcUpdateCancel _ _ => true
  | .svcUpdateReinstate _ _ => true
  | .quote _ b => b.wf readQuote
  | .issue _ b => b.wf readIssue
  | .void _ b => b.wf readVoid
  | .loadBegin _ b => b.wf readNoFields
  | .loadEnd _ b => b.wf readNoFields
  | .fareRangeWrite _ b => b.wf readFareRange
  | .farePriceWrite _ b => farePriceWf b
  | .fareParamWrite _ b => b.wf readFareParam
  | .fareConcessionWrite _ b => b.wf readFareConcession
  | .farePeakWrite _ b => b.wf readFarePeak
  | .rvlWrite _ b => b.wf readRvlWrite
  | .rvlClearAll _ b => b.wf readNoFields
  | .stockAdd _ b => b.wf readStockAdd
  | .batchTake _ b => b.wf readBatchTake
  | .batchAck _ b => b.wf readBatchId
  | .batchFail _ b => b.wf readBatchId
  | .linkResume _ b => b.wf readNoFields
  | .panelConfig _ b => panelConfigWf b
  | .panelConfigGroup _ _ => true
  | .displayStart _ _ => true
  | .displayStop _ => true
  | .displayRecover _ _ => true
  | .displayPacing _ _ _ => true
  | .displayFrameCount _ _ => true
  | .displayAutoRecovery _ (.fields _) => true
  | .displayAutoRecovery _ (.raw bytes) => displayRawWf bytes
  | .supplyLevels _ b => b.wf readSupplyLevels
  | .treadleMode _ b => b.wf readTreadleMode
  | .salesSuspend _ b => b.wf readNoFields
  | .salesResume _ b => b.wf readNoFields
  | .setRights _ b => b.wf readSetRights
  | .portReset _ b => b.wf readPortReset
  | .status _ b => b.wf readStatus
  | .listCalls _ b => b.wf readTableRun
  | .fareRead _ b => b.wf readTableRun
  | .rvlRead _ b => b.wf readRun
  | .readCounters _ b => b.wf readReadCounters
  | .readNotices _ b => b.wf readReadNotices
  | .unknownRequest _ code body =>
    (ReqCode.ofByte code).isNone && decide (body.length ≤ maxBody)
  | .frameCut _ (l :: rest) => decide (l ≠ 0 ∧ rest.length < l.toNat)
  | .frameCut _ [] => false
  | .replyRead _ _ => true
  | .portResetLineActive _ => true
  | .portResetLineInactive _ => true
  | .portResetLineFirstAcceptance _ _ => true
  | .clockSecond => true
  | .stagingIdleTimeout => true
  | .passageClose => true
  | .quoteExpiry _ => true
  | .voidWindowExpiry _ => true
  | .terminalSilenceExpiry => true
  | .batchTimeout => true
  | .waitExpiry => true
  | .presenceIdleExpiry => true
  | .frameTimerExpiry _ => true
  | .probeTimerExpiry _ => true
  | .sample _ _ => true
  | .loadPeriodTimeout => true
  | .treadleRisingEdge _ => true
  | .treadleFallingEdge _ => true
  | .treadleFirstAcceptance _ _ => true
  | .presenceEdge _ => true
  | .presenceFirstAcceptance _ => true
  | .triggerEdge _ _ => true
  | .triggerFirstAcceptance _ => true
  | .transactionEnd _ _ => true
  | .busDisturbed _ => true
  | .stuckClock => true
  | .recoveryEndAuto _ _ => true
  | .recoveryEndManual _ _ => true
  | .coldStart => true
  | .warmStart _ => true
  | .coreSupplyDip => true

end Sys2Proof
end

