-- ==== Sys2Proof/Safety.lean ====
section
/-! DEFINITION. Safety.lean: the terms the statements are written in. What a request needs to reach its
owner, the state after a reply is made, which blocks a command leaves alone, and the invariants that every
step keeps. -/

namespace Sys2Proof

/-! ## Commands -/

/-- The display lines a step's tests find, for the commands that carry one. -/
def Instr.findsLines (data : DataLine) (clk : ClockLine) : Instr → Prop
  | .displayStart _ line => line = data
  | .displayRecover _ line => line = clk
  | .displayPacing _ _ line => line = data
  | _ => True

/-- The commands that act while the core supply is down: the elapsed second and the two starts (R4). -/
def Instr.actsWhileDown : Instr → Bool
  | .clockSecond => true
  | .coldStart => true
  | .warmStart _ => true
  | _ => false

end Sys2Proof

namespace Sys2Proof.Machine

/-! ## Requests -/

/-- A request of code `c` on port `p` reaches its owner, as far as the port goes: the port receives (R187) and
holds the request's rights class (R189). -/
abbrev State.admits (s : State) (p : Port) (c : ReqCode) : Prop :=
  s.receives p = true ∧ reqClass c ∈ (s.ports.get p).rights

/-- A state `u` once a complete frame with a body of `n` bytes has been heard on port `p` and its reply `a`,
echoing `code`, has been made (R73, R187, R191, R192): the frame's part in a request's step, whatever the
owner did. -/
def answered (p : Port) (code : Byte) (n : Nat) (a : Answer) (u : State) : State :=
  makeReply p code a (hear p (n + 2) u)

/-- What ends a request's step: the frames that run back to back of themselves, at the data line's level that a
START or a PACING carries, and at a free one after every other request (R149; log 9). -/
def requestSettled (i : Instr) (s : State) : State :=
  match i with
  | .displayStart _ line => settleAt line s
  | .displayPacing _ _ line => settleAt line s
  | _ => settle s

/-! ## Frames -/

/-- The blocks of the part, one for each field of `State` but the queue. -/
inductive Block where
  | core | clock | store | detector | fares | revoked | sales | journal | scheduler | compositor | bus
  | supply | counters | ports | draws
deriving DecidableEq, Repr

/-- A block is the same in two states. -/
def Block.same (s t : State) : Block → Prop
  | .core => t.core = s.core
  | .clock => t.clock = s.clock
  | .store => t.store = s.store
  | .detector => t.detector = s.detector
  | .fares => t.fares = s.fares
  | .revoked => t.revoked = s.revoked
  | .sales => t.sales = s.sales
  | .journal => t.journal = s.journal
  | .scheduler => t.scheduler = s.scheduler
  | .compositor => t.compositor = s.compositor
  | .bus => t.bus = s.bus
  | .supply => t.supply = s.supply
  | .counters => t.counters = s.counters
  | .ports => t.ports = s.ports
  | .draws => t.draws = s.draws

/-- Every block outside a list, and the queue, is as it was. -/
def changesOnly (l : List Block) (s t : State) : Prop :=
  t.pending = s.pending ∧ ∀ b, b ∉ l → b.same s t

/-- The counters outside a list are as they were. -/
def countsOnly (l : List Counter) (s t : State) : Prop := ∀ c, c ∉ l → t.counter c = s.counter c

/-- A port's controller is as it was but for its notice set. -/
def portsKeptButNotices (s t : State) : Prop :=
  ∀ p, t.ports.get p = { s.ports.get p with notices := (t.ports.get p).notices }

/-- The sales controller's per-port records, stock and timers are as they were; the closure reason set may
differ. -/
def salesKeptButReasons (s t : State) : Prop := t.sales = { s.sales with reasons := t.sales.reasons }

/-- A kind stands in a port's notice set. -/
def State.hasNotice (s : State) (p : Port) (k : Notice) : Prop := k ∈ (s.ports.get p).notices

/-- The notice sets gain the kinds named for each port and lose none, and each port's controller is as it was but
for its set. -/
def postsOnly (posted : Port → Notice → Prop) (s u : State) : Prop :=
  (∀ p k, u.hasNotice p k ↔ s.hasNotice p k ∨ posted p k) ∧ portsKeptButNotices s u

/-- Of the timetable store calls alone may differ: the store day, the TIMETABLE_NEEDED mark, the staging and the
header of each day table are as they were, and each LOADED table holds the same service ids in the same order. -/
def storeKeptButCalls (s u : State) : Prop :=
  u.store.storeDay = s.store.storeDay ∧ u.store.neededMark = s.store.neededMark ∧
    u.store.staging = s.store.staging ∧
    ∀ name,
      (s.store.table name = none → u.store.table name = none) ∧
      ∀ t, s.store.table name = some t → ∃ calls, u.store.table name = some { t with calls := calls } ∧
        calls.map Call.service = t.calls.map Call.service

/-- A counter's value with `n` more, saturated (R180). -/
def State.counterPlus (s : State) (c : Counter) (n : Nat) : Nat := min (s.counter c + n) counterMax

/-! ## The display frame (chapter 7) -/

/-- A WRITE_ROWS to a panel not entitled to rows: it is passed over when its turn comes (R133, R154). -/
def State.passesOver (s : State) (t : Transaction) : Prop :=
  (∃ b rows, t.kind = .writeRows b rows) ∧ (s.panel t.panel).entitled = false

/-- The frame of `s` completes (R155): it is counted, frames remaining decrease, and the controller is IDLE, where
frames that run back to back raise the next start, or with frames remaining at 0 STOPPED with its run mark clear,
its timer stopped and DISPLAY_STOPPED noticed; in STOPPED the stop mark is clear (log 33). -/
def frameCompletes (s u : State) : Prop :=
  let ended : DisplayBus := { s.bus with cause := none, list := [], position := 0 }
  (s.bus.remaining = none → u.bus = { ended with state := .idle, startDue := s.backToBack }) ∧
    (∀ n, s.bus.remaining = some n →
      (2 ≤ n →
        u.bus = { ended with state := .idle, remaining := some (n - 1), startDue := s.backToBack }) ∧
      (n ≤ 1 →
        u.bus =
          { ended with
            state := .stopped, remaining := some 0, runMark := false, stopMark := false
            frameTimer := none, startDue := false })) ∧
    u.counter .framesSent = s.counterPlus .framesSent 1 ∧ countsOnly [.framesSent] s u ∧
    postsOnly
      (fun p k => p = .service ∧ k = .displayStopped ∧ ∃ n, s.bus.remaining = some n ∧ n ≤ 1) s u ∧
    changesOnly [.bus, .counters, .ports] s u

/-- The transaction at the position of `s` is started with its line test (R154, R157): it runs with the data line
released; with the line low the frame's one AUTO recovery begins, or the controller enters FAULT (R160). -/
def lineTested (line : DataLine) (s u : State) : Prop :=
  (line = .released → u = { s with bus := { s.bus with state := .running } }) ∧
    (line = .low → s.bus.autoRecovery = true → s.bus.tried = false →
      u.bus = { s.bus with state := .recovering .auto, tried := true } ∧
        u.counter .busRecoveries = s.counterPlus .busRecoveries 1 ∧
        countsOnly [.busRecoveries] s u ∧ changesOnly [.bus, .counters] s u) ∧
    (line = .low → s.bus.autoRecovery = false ∨ s.bus.tried = true →
      u.bus =
          { s.bus with
            state := .fault, cause := some .stuckData, stopMark := false, list := [], position := 0
            startDue := false } ∧
        postsOnly (fun p k => p ≠ .terminal ∧ k = .panelBusFault) s u ∧
        changesOnly [.bus, .ports] s u)

/-- The frame of `s` goes on to `u` from a position of its list: after `k` transactions passed over the list is at
its end, and the frame completes (R155, R156), or the next one is started with its line test (R154, R157). -/
def frameGoesOn (line : DataLine) (s u : State) (position : Nat) : Prop :=
  ∀ k, (∀ j, j < k → ∃ t, s.bus.list[position + j]? = some t ∧ s.passesOver t) →
    (s.bus.list.length = position + k → frameCompletes s u) ∧
    ∀ next, s.bus.list[position + k]? = some next → ¬ s.passesOver next →
      lineTested line { s with bus := { s.bus with position := position + k } } u

/-! ## The journal (chapter 5) -/

/-- The entries hold consecutive sequence numbers that end just below the next one (R100, R101). -/
def Journal.consecutive (j : Journal) : Prop :=
  ∀ i e, j.entries[i]? = some e → e.sequence + (j.entries.length - i) = j.nextSequence

/-- The IN_FLIGHT entries are the oldest ones, as many as the batch in flight holds, and there are none when
no batch is in flight (R99, R105, R107). -/
def Journal.batchFits (j : Journal) : Prop :=
  match j.batch with
  | none => ∀ e ∈ j.entries, e.state = .unsent
  | some b =>
    1 ≤ b.count ∧ b.count ≤ 22 ∧ b.count ≤ j.entries.length ∧
      b.first + j.entries.length = j.nextSequence ∧
      ∀ i e, j.entries[i]? = some e → (e.state = .inFlight ↔ i < b.count)

/-- The journal is in order: at most 2048 entries, consecutive sequence numbers within 4 bytes, the batch in
flight at the oldest end, a batch id that is never 0. -/
structure Journal.ok (j : Journal) : Prop where
  size : j.entries.length ≤ journalSize
  room : j.entries.length < j.nextSequence
  next : j.nextSequence ≤ lastSequence + 1
  consecutive : j.consecutive
  batch : j.batchFits
  batchId : 1 ≤ j.nextBatch ∧ j.nextBatch ≤ 65535

/-! ## The closure reasons (R69, R71) -/

/-- While the core domain runs, each reason that stands for another block's condition is in the set exactly
while that condition holds. -/
structure State.reasonsOk (s : State) : Prop where
  noTime : s.core = .up → (.noTime ∈ s.sales.reasons ↔ s.clock.valid = false)
  noFares : s.core = .up → (.noFares ∈ s.sales.reasons ↔ s.fares.loaded = false)
  stockEmpty : s.core = .up → (.stockEmpty ∈ s.sales.reasons ↔ s.sales.remaining = 0)
  journalFull : s.core = .up → (.journalFull ∈ s.sales.reasons ↔ s.journal.free < 2)
  supplyReserve : s.core = .up → (.supplyReserve ∈ s.sales.reasons ↔ s.supply.state = .reserve)
  faresLoaded : s.fares.loaded = anyPrice s.fares.prices

/-! ## The timetable (chapter 1) -/

/-- A call stands before another in a day table (R13). -/
def Call.before (a b : Call) : Prop :=
  a.scheduled < b.scheduled ∨ (a.scheduled = b.scheduled ∧ a.service < b.service)

/-- The fields of a call lie in their ranges, and an actual second is present exactly when DEPARTED (R14). -/
structure Call.ok (c : Call) : Prop where
  service : 1 ≤ c.service ∧ c.service ≤ 9999
  scheduled : c.scheduled ≤ 1439
  destination : c.destination ≤ 255
  report : ∀ r, c.report = some r → r.delay ≤ 720 ∧ r.allowance ≤ 60
  actual : c.state = .departed ↔ c.actual.isSome

/-- A LOADED day table holds 1 to 96 calls in order, no two with one service id (R13). -/
structure DayTable.ok (t : DayTable) : Prop where
  version : 1 ≤ t.version ∧ t.version ≤ 65535
  count : 1 ≤ t.calls.length ∧ t.calls.length ≤ 96
  ordered : t.calls.Pairwise Call.before
  unique : (t.calls.map Call.service).Nodup
  calls : ∀ c ∈ t.calls, c.ok

/-- The fields of a staged call lie in their ranges (R17). -/
structure StagedCall.ok (c : StagedCall) : Prop where
  service : 1 ≤ c.service ∧ c.service ≤ 9999
  scheduled : c.scheduled ≤ 1439
  destination : c.destination ≤ 255

/-- An open staging holds as many calls as its next expected index says (1.5). -/
structure Staging.ok (g : Staging) : Prop where
  version : 1 ≤ g.version ∧ g.version ≤ 65535
  count : 1 ≤ g.count ∧ g.count ≤ 96
  received : g.calls.length = g.next ∧ g.next ≤ g.count
  calls : ∀ c ∈ g.calls, c.ok

/-- The clock and the timetable store are in order: TODAY is the store's day and TOMORROW the next (R13), the
clock's day kind is TODAY's (R11), both tables are EMPTY while the clock is INVALID (R6), TOMORROW's calls
keep their flags clear (R15), and while the core domain runs a VALID clock's day is the store's (R4). -/
structure State.tablesOk (s : State) : Prop where
  second : s.clock.second ≤ lastSecond
  today : ∀ t, s.store.today = some t → t.ok ∧ t.day = s.store.storeDay ∧ t.kind = s.clock.kind
  tomorrow : ∀ t, s.store.tomorrow = some t →
    t.ok ∧ t.day = s.store.storeDay + 1 ∧ ∀ c ∈ t.calls, c.removed = false
  invalid : s.clock.valid = false → s.store.today = none ∧ s.store.tomorrow = none
  day : s.core = .up → s.clock.valid = true → s.clock.day = s.store.storeDay
  notPast : s.store.storeDay ≤ s.clock.day
  staging : ∀ g, s.store.staging = some g → g.ok

/-! ## Quotes and stock (chapter 4) -/

/-- A port's quote or expired record. -/
def PortSales.holds (x : PortSales) (q : Quote) : Prop := x.slot = some q ∨ x.mark = .expired q

/-- Every quote and expired record whose target is hit is withdrawn: the slot empties with the mark INVALIDATED
and the quote's number, or the expired record's mark becomes INVALIDATED with its number; every other slot and
mark, and the rest of each port's record, is as it was (R78). -/
def quotesWithdrawn (hit : CallRef → Prop) (s u : State) : Prop :=
  ∀ p,
    let x := s.sales.ports.get p
    let y := u.sales.ports.get p
    let gone := fun q : Quote => ∃ r, q.request.target = some r ∧ hit r
    (∀ q, x.slot = some q → gone q → y = { x with slot := none, mark := .invalidated q.number }) ∧
    ((∀ q, x.slot = some q → ¬ gone q) → y = { x with mark := y.mark } ∧
      (∀ q, x.mark = .expired q → gone q → y.mark = .invalidated q.number) ∧
      ((∀ q, x.mark = .expired q → ¬ gone q) → y.mark = x.mark))

/-- The target of every HELD quote and of every expired record is a SCHEDULED call of the table it names
(R78, R79). -/
def State.quotesOk (s : State) : Prop :=
  ∀ p q r, (s.sales.ports.get p).holds q → q.request.target = some r →
    ∃ c, s.store.call r = some c ∧ c.state = .scheduled

/-- The serial stock is in order: at most 4 blocks, each with a serial left, ranges that rise and do not
overlap, all at or below the horizon (R88 to R91); the low mark is set while fewer than 200 serials remain
(R92). -/
structure Sales.stockOk (x : Sales) : Prop where
  count : x.blocks.length ≤ 4
  left : ∀ b ∈ x.blocks, 1 ≤ b.first ∧ b.first ≤ b.next ∧ b.next ≤ b.last ∧ b.last ≤ x.horizon
  long : ∀ b ∈ x.blocks, b.last ≤ b.first + 99999
  rising : x.blocks.Pairwise (fun a b => a.last < b.first)
  horizon : x.horizon ≤ 99999999
  low : x.remaining < 200 → x.lowMark = true

/-- The fare tables lie in the ranges their writes keep (R49, R51, R53 to R55). -/
structure FareTables.ok (f : FareTables) : Prop where
  ranges : ∀ e, some e ∈ f.ranges.toList → e.first ≤ e.last ∧ e.last ≤ 4095 ∧ 1 ≤ e.distance ∧
    e.distance ≤ 15
  prices : ∀ x ∈ f.prices.toList, x ≤ 50000
  percents : 100 ≤ f.returnPercent ∧ f.returnPercent ≤ 250 ∧ 30 ≤ f.offPeakPercent ∧
    f.offPeakPercent ≤ 100 ∧ f.childPercent ≤ 100
  step : f.step = 1 ∨ f.step = 5 ∨ f.step = 10 ∨ f.step = 50
  cap : 2 ≤ f.capMultiple ∧ f.capMultiple ≤ 10
  concessions : ∀ c ∈ f.concessions.toList, c.discount ≤ 90
  peaks : ∀ w ∈ f.peaks.toList, w.start ≤ 1439 ∧ w.stop ≤ 1440

/-- A held revocation entry fits its fields: a card of 40 bits, an ignore count of at most 16 (R93, R95). -/
def State.revokedOk (s : State) : Prop :=
  ∀ e, some e ∈ s.revoked.toList → e.card < 2 ^ 40 ∧ e.ignore ≤ 16

/-! ## Supply, counters, ports -/

/-- The supply monitor is in order: the reserve level lies below the economy level (R166, R168), the runs are
below their limits and 0 where they are not counted (R170), and a load period's timers keep their limits
(R173). -/
structure Supply.ok (x : Supply) : Prop where
  levels : x.reserve < x.economy ∧ x.economy ≤ 7
  runs : x.reserveRun ≤ 2 ∧ x.economyRun ≤ 2 ∧ x.upgradeRun ≤ 29
  normal : x.state = .normal → x.upgradeRun = 0
  economyState : x.state = .economy → x.economyRun = 0
  reserveState : x.state = .reserve → x.reserveRun = 0 ∧ x.economyRun = 0
  load : ∀ l, x.load = some l → l.endTimer ≤ 20 ∧ l.endTimer ≤ l.limitTimer ∧ l.limitTimer ≤ 60

/-- Every counter lies in its range (R179), every held set holds each member at most once in its own order
(R193, R195), and the service port holds CONFIG (R193). -/
structure State.portsOk (s : State) : Prop where
  counters : ∀ c, s.counter c ≤ counterMax
  notices : ∀ p, (s.ports.get p).notices.Sublist Notice.all
  rights : ∀ p, (s.ports.get p).rights.Sublist RightsClass.all
  reasons : s.sales.reasons.Sublist Reason.all
  config : .config ∈ (s.ports.get .service).rights

/-! ## The display (chapters 6 and 7) -/

/-- A panel record is in order (R124, R125). -/
structure Panel.ok (r : Panel) : Prop where
  state : r.configured = false ↔ r.state = .unconfigured
  rows : 1 ≤ r.rows ∧ r.rows ≤ 4
  brightness : r.brightness ≤ 7
  misses : r.misses ≤ 3
  idle : r.state = .unconfigured → r.pending = .none ∧ r.misses = 0

/-- The display bus controller is in order (R145, R149, R154): the run mark stands exactly outside STOPPED; a
RUNNING controller has a transaction in progress; a fault cause stands in FAULT and in a MANUAL recovery
alone; the stop mark stands in RUNNING and RECOVERING alone (log 33); the frame timer runs exactly in INTERVAL pacing
outside STOPPED with an interval in force other than 0, and frames that run back to back have a start due
in IDLE (both while the core domain runs). -/
structure State.busOk (s : State) : Prop where
  mark : s.bus.runMark = true ↔ s.bus.state ≠ .stopped
  running : s.bus.state = .running → s.inProgress.isSome = true
  list : s.bus.state = .idle ∨ s.bus.state = .stopped ∨ s.bus.state = .fault → s.bus.list = []
  cause : s.bus.cause.isSome = true ↔ s.bus.state = .fault ∨ s.bus.state = .recovering .manual
  stop : s.bus.stopMark = true → s.bus.state = .running ∨ ∃ k, s.bus.state = .recovering k
  timer : s.core = .up →
    (s.bus.frameTimer.isSome = true ↔
      s.bus.pacing = .interval ∧ s.bus.state ≠ .stopped ∧ s.intervalInForce ≠ 0)
  due : s.core = .up → s.bus.state = .idle → s.backToBack = true → s.bus.startDue = true
  settings : s.bus.interval ≤ 60 ∧ s.bus.countSetting ≤ 255 ∧ s.bus.cycle ≤ 29
  panels : ∀ i, (s.panel i).ok
  sleepAfter : 1 ≤ s.compositor.sleepAfter ∧ s.compositor.sleepAfter ≤ 60

/-- The state of a part in order: every invariant together. -/
structure State.inOrder (s : State) : Prop where
  journal : s.journal.ok
  reasons : s.reasonsOk
  tables : s.tablesOk
  quotes : s.quotesOk
  stock : s.sales.stockOk
  fares : s.fares.ok
  revoked : s.revokedOk
  supply : s.supply.ok
  ports : s.portsOk
  bus : s.busOk

end Sys2Proof.Machine
end

