-- ==== Sys2Proof/Certificates/Slice0/Obligations.lean ====
section
/-! DEFINITION. Obligations.lean: the statements for the provers, from the numbered rules of spec/. A
request's completion is said as: `exec` answers next, with `answered` (the frame heard and the reply made) of
a state `u`, and the statement says what `u`, the state after the owner's own effect, is. Every command ends
with `settle` (`settleAt` where the command carries the data line's level): the frames that run back to back of
themselves are taken at once (R149). It changes nothing where no frame start is due; O44 says what it does. A
timer's expiry has its effect once the timer has run out, at 0 seconds left; O2 says that it has none before. -/

open Sys2Proof Sys2Proof.Machine

/-! ## The queue and the ports (chapter 10) -/

/-- A step carries out the command at the front of the queue with the queue's rest; with the queue empty the
part idles (the queue and the idling are the model's, log 1). -/
def Obligations.StepRunsFrontCommand : Prop :=
  (∀ c rest (s : State), step { s with pending := c :: rest } = exec c { s with pending := rest }) ∧
  ∀ s : State, s.pending = [] → step s = .next s

/-- Every command answers a next state and leaves the queue alone; while the core supply is down only the
elapsed second and the two starts act (log 8). The starts and the dip complete in every state: a cold start
leaves the part as reset has it, a warm start leaves the core domain up and a dip leaves it down (R4, R123; O52
says the rest). A timer's expiry that comes while the timer has seconds left, or does not run, has no effect
(log 3); the closing timer's may come in its last second (log 29). -/
def Obligations.EveryCommandAnswersNext : Prop :=
  (∀ (i : Instr) (s : State), ∃ t, exec i s = .next t ∧ t.pending = s.pending ∧
    (s.core = .down → i.actsWhileDown = false → t = s)) ∧
  (∀ s, exec .coldStart s = .next { State.reset with draws := s.draws, pending := s.pending }) ∧
  (∀ line s, ∃ t, exec (.warmStart line) s = .next t ∧ t.core = .up) ∧
  (∀ s, ∃ t, exec .coreSupplyDip s = .next t ∧ t.core = .down) ∧
  ∀ s, s.core = .up →
    ((∀ g, s.store.staging = some g → g.idle ≠ 0) → exec .stagingIdleTimeout s = .next (settle s)) ∧
    ((∀ x, s.detector.passage = some x → 2 ≤ x.closing) → exec .passageClose s = .next (settle s)) ∧
    (∀ p, (∀ q, (s.sales.ports.get p).slot = some q → q.timer ≠ 0) →
      exec (.quoteExpiry p) s = .next (settle s)) ∧
    (∀ p, (∀ l, (s.sales.ports.get p).lastSale = some l → l.window ≠ 0) →
      exec (.voidWindowExpiry p) s = .next (settle s)) ∧
    (s.sales.silence ≠ some 0 → exec .terminalSilenceExpiry s = .next (settle s)) ∧
    ((∀ b, s.journal.batch = some b → b.timer ≠ 0) → exec .batchTimeout s = .next (settle s)) ∧
    (s.scheduler.wait ≠ some 0 → exec .waitExpiry s = .next (settle s)) ∧
    (∀ i : Fin 8, s.bus.probes[i] ≠ some 0 → exec (.probeTimerExpiry i) s = .next (settle s)) ∧
    (∀ line, s.bus.frameTimer ≠ some 0 →
      exec (.frameTimerExpiry line) s = .next (settleAt line s)) ∧
    (∀ mv line, s.supply.sampleTimer ≠ 0 → exec (.sample mv line) s = .next (settleAt line s)) ∧
    ((∀ l, s.supply.load = some l → l.endTimer ≠ 0) → exec .loadPeriodTimeout s = .next (settle s))

/-- The port controller's three checks, in their order, on every request that arrives as a frame (R189,
R203), and the filler of a HELD port (R187). Then UNKNOWN_REQUEST's own clause, and the two bodies of the right
length that fit no row, which their owners refuse with nothing changed: an SVC_UPDATE of an unknown kind (R23)
and a DISPLAY_CONTROL of an unknown form, whose reply carries the summary (R146). A START and a PACING end with
the data line's level that they carry (`requestSettled`, log 9). The record of a HELD port's data output is the model's
(logs 12, 32). -/
def Obligations.PortChecksInOrder : Prop :=
  (∀ i fr s, i.wf = true → encodeFrame i = some fr → s.receives fr.port = true →
    (ReqCode.ofByte fr.code = none →
      exec i s =
        .next (requestSettled i (answered fr.port fr.code fr.body.length (.refuse .unknownRequest) s))) ∧
    ∀ c, ReqCode.ofByte fr.code = some c →
      (reqClass c ∉ (s.ports.get fr.port).rights →
        exec i s =
          .next (requestSettled i (answered fr.port fr.code fr.body.length (.refuse .notPermitted) s))) ∧
      (reqClass c ∈ (s.ports.get fr.port).rights → c.fits fr.body = false →
        exec i s =
          .next (requestSettled i (answered fr.port fr.code fr.body.length (.refuse .badRequest) s)))) ∧
  (∀ i fr s, encodeFrame i = some fr → s.core = .up → (s.ports.get fr.port).condition = .held →
    exec i s =
      .next (requestSettled i (setPort fr.port
        { s.ports.get fr.port with dataOut := List.replicate (fr.body.length + 2) 0xFF } s))) ∧
  (∀ p code body s, s.receives p = true →
    exec (.unknownRequest p code body) s =
      .next (settle (answered p code body.length (.refuse .unknownRequest) s))) ∧
  (∀ p body s, s.admits p .svcUpdate → (Instr.svcUpdateDelay p (.raw body)).wf = true →
    body.length = 7 →
    exec (.svcUpdateDelay p (.raw body)) s =
      .next (settle (answered p ReqCode.svcUpdate.byte 7 (.refuse .badRequest) s))) ∧
  ∀ p body s, s.admits p .displayControl → (Instr.displayAutoRecovery p (.raw body)).wf = true →
    body.length = 4 →
    exec (.displayAutoRecovery p (.raw body)) s =
      .next (settle (answered p ReqCode.displayControl.byte 4
        { result := .badRequest, body := s.displaySummary } s))

/-- What hearing a frame and making its reply do (R73, R187, R191, R192): the slot holds the new reply with
its flags, a reply that waited unread is counted once and marks the new one, the terminal port's frame
restarts the silence timer, and nothing else changes. The record of the data output, which ends with the frame's last
byte, is the model's (logs 12, 32). -/
def Obligations.ReplyIsMade : Prop :=
  ∀ p code n a u,
    let t := answered p code n a u
    let c := u.ports.get p
    (t.ports.get p).slot =
        some ⟨{ echo := code, result := a.result, body := a.body
                flags :=
                  { overrun := c.slot.isSome || c.overrun, noticesPending := !c.notices.isEmpty
                    requoted := a.requoted, notApplied := a.notApplied } }, 0⟩ ∧
      t.ports.get p =
        { c with slot := (t.ports.get p).slot, overrun := false
                 dataOut := List.replicate (n + 2) 0xFF } ∧
      (∀ q, q ≠ p → t.ports.get q = u.ports.get q) ∧
      t.counter .portFrameErrors =
        (if c.slot.isSome then u.counterPlus .portFrameErrors 1 else u.counter .portFrameErrors) ∧
      countsOnly [.portFrameErrors] u t ∧
      t.sales = (if p = .terminal then { u.sales with silence := some 300, silent := false } else u.sales) ∧
      changesOnly [.sales, .counters, .ports] u t

/-- A reply read shifts out the held reply and then filler; the slot empties exactly when the last byte has
been shifted out, and an EMPTY slot gives one byte 0 (R190). A cut frame is counted and changes nothing
else of the part (R188). The record of the bytes shifted out is the model's (log 12). -/
def Obligations.ReplyReadAndCutFrame : Prop :=
  (∀ p n s, s.receives p = true →
    ((s.ports.get p).slot = none →
      exec (.replyRead p n) s =
        .next (settle (setPort p
          { s.ports.get p with
            dataOut := [0x00].take n ++ List.replicate (n - 1) 0xFF } s))) ∧
    ∀ x, (s.ports.get p).slot = some x →
      (n < x.reply.bytes.length →
        exec (.replyRead p n) s =
          .next (settle (setPort p
            { s.ports.get p with
              slot := some ⟨x.reply, 0⟩, dataOut := x.reply.bytes.take n } s))) ∧
      (x.reply.bytes.length ≤ n →
        exec (.replyRead p n) s =
          .next (settle (setPort p
            { s.ports.get p with
              slot := none
              dataOut := x.reply.bytes ++ List.replicate (n - x.reply.bytes.length) 0xFF } s)))) ∧
  ∀ p received s, s.receives p = true → received ≠ [] →
    ∃ t, exec (.frameCut p received) s = .next (settle t) ∧
      t.counter .portFrameErrors = s.counterPlus .portFrameErrors 1 ∧
      countsOnly [.portFrameErrors] s t ∧
      t.ports.get p =
        { s.ports.get p with dataOut := List.replicate received.length 0xFF } ∧
      (∀ q, q ≠ p → t.ports.get q = s.ports.get q) ∧
      changesOnly [.counters, .ports] s t

/-- The frame decoder reads back every well-formed request from the frame the encoder writes for it, with
every operand, over all 46 request rows (11.1). -/
def Obligations.DecodeFrameReadsEncodeFrame : Prop :=
  ∀ i fr data clk, i.wf = true → i.findsLines data clk → encodeFrame i = some fr →
    decodeFrame fr.port fr.code fr.body data clk = i

/-! ## Timetable and clock (chapters 1 and 2) -/

/-- TIME_SET on an INVALID clock (R6; both tables are then EMPTY): the clock takes what is carried and
becomes VALID, its day becomes the store day, NO_TIME leaves the reason set, TIMETABLE_NEEDED is noticed, and then
the minute tick of the new minute is raised: on EMPTY tables it can change the store's mark, the notices and the
compositor alone, and O9 says how. On any
clock: field refusals; on a VALID one NOT_MONOTONIC for an earlier day (R5), and a setting within the day
(R7), which ticks the minute only when it moves forward to another one. -/
def Obligations.TimeSetSetsClock : Prop :=
  (∀ p f k s, s.admits p .timeSet → dayKindOf f.kind = some k → f.second.toNat ≤ 86399 →
    s.clock.valid = false → s.store.today = none → s.store.tomorrow = none →
    ∃ u, exec (.timeSet p (.fields f)) s =
        .next (settle (answered p ReqCode.timeSet.byte 6 .done (minuteTick u))) ∧
      u.clock = { valid := true, day := f.day.toNat, kind := k, second := f.second.toNat } ∧
      u.store = { s.store with storeDay := f.day.toNat } ∧
      (∀ r, r ∈ u.sales.reasons ↔ r ∈ s.sales.reasons ∧ r ≠ .noTime) ∧
      salesKeptButReasons s u ∧
      postsOnly
        (fun q n => (q ≠ .terminal ∧ n = .timetableNeeded) ∨
          (q ≠ .link ∧ n = .salesState ∧ .noTime ∈ s.sales.reasons)) s u ∧
      changesOnly [.clock, .store, .sales, .ports] s u ∧
      (minuteTick u).store = { u.store with neededMark := (minuteTick u).store.neededMark } ∧
      (∀ q n, n ≠ .timetableNeeded → ((minuteTick u).hasNotice q n ↔ u.hasNotice q n)) ∧
      portsKeptButNotices u (minuteTick u) ∧
      changesOnly [.store, .compositor, .ports] u (minuteTick u)) ∧
  ∀ p f s, s.admits p .timeSet →
    (dayKindOf f.kind = none ∨ 86399 < f.second.toNat →
      exec (.timeSet p (.fields f)) s =
        .next (settle (answered p ReqCode.timeSet.byte 6 (.refuse .badRequest) s))) ∧
    ∀ k, dayKindOf f.kind = some k → f.second.toNat ≤ 86399 → s.clock.valid = true →
      (f.day.toNat < s.clock.day →
        exec (.timeSet p (.fields f)) s =
          .next (settle (answered p ReqCode.timeSet.byte 6 (.refuse .notMonotonic) s))) ∧
      (f.day.toNat = s.clock.day →
        let c : Clock :=
          { s.clock with
            kind := if s.store.today = none then k else s.clock.kind
            second := f.second.toNat }
        let v : State := { s with clock := c, store := { s.store with storeDay := s.clock.day } }
        exec (.timeSet p (.fields f)) s =
          .next (settle (answered p ReqCode.timeSet.byte 6 .done
            (if s.clock.second / 60 < f.second.toNat / 60 then minuteTick v else v))))

/-- TIME_SET to a later day (R8) processes one day boundary and then the minute tick; a day boundary rolls
TOMORROW into TODAY when its day is the new one and empties both tables otherwise (R9), sets the day kind
(R11) and notices TIMETABLE_NEEDED when TODAY is EMPTY (R12). The quotes and expired records on the old TODAY are
withdrawn; on a move those on TOMORROW stay held and target TODAY, and without one those on a LOADED TOMORROW are
withdrawn too (R10, R79). -/
def Obligations.LaterDayRollsTables : Prop :=
  (∀ p f k s, s.admits p .timeSet → dayKindOf f.kind = some k → f.second.toNat ≤ 86399 →
    s.clock.valid = true → s.clock.day < f.day.toNat →
    exec (.timeSet p (.fields f)) s =
      .next (settle (answered p ReqCode.timeSet.byte 6 .done
        (minuteTick (dayBoundary k
          { s with clock := { s.clock with day := f.day.toNat, second := f.second.toNat } }))))) ∧
  ∀ fallback s,
    let u := dayBoundary fallback s
    (∀ t, s.store.tomorrow = some t → t.day = s.clock.day →
      u.store.today = some { t with calls := t.calls.map (fun c => { c with removed := false }) } ∧
      u.clock = { s.clock with kind := t.kind } ∧ portsKeptButNotices s u ∧
      (∀ p k, u.hasNotice p k ↔ s.hasNotice p k)) ∧
    ((∀ t, s.store.tomorrow = some t → t.day ≠ s.clock.day) →
      u.store.today = none ∧ u.clock = { s.clock with kind := fallback } ∧
      u.hasNotice .link .timetableNeeded ∧ u.hasNotice .service .timetableNeeded) ∧
    u.store.tomorrow = none ∧ u.store.storeDay = s.clock.day ∧ u.store.neededMark = false ∧
    u.store.staging = s.store.staging ∧
    (∀ p q, (u.sales.ports.get p).holds q → ∀ r, q.request.target = some r →
      r.table = .today → ∃ q', (s.sales.ports.get p).holds q' ∧ q'.number = q.number ∧
        q'.request.target = some ⟨.tomorrow, r.service⟩) ∧
    (∀ t, s.store.tomorrow = some t → t.day = s.clock.day → ∀ p,
      let x := s.sales.ports.get p
      let y := u.sales.ports.get p
      let dropped := fun q : Quote => ∃ n, q.request.target = some ⟨.today, n⟩
      let moved := fun q : Quote =>
        match q.request.target with
        | some ⟨.tomorrow, n⟩ => { q with request := { q.request with target := some ⟨.today, n⟩ } }
        | _ => q
      (∀ q, x.slot = some q → dropped q →
        y = { x with slot := none, mark := .invalidated q.number }) ∧
      ((∀ q, x.slot = some q → ¬ dropped q) →
        y = { x with slot := x.slot.map moved, mark := y.mark } ∧
        (∀ q, x.mark = .expired q →
          (dropped q → y.mark = .invalidated q.number) ∧
          (¬ dropped q → y.mark = .expired (moved q))) ∧
        ((∀ q, x.mark ≠ .expired q) → y.mark = x.mark))) ∧
    ((∀ t, s.store.tomorrow = some t → t.day ≠ s.clock.day) →
      quotesWithdrawn (fun r => r.table = .today ∨ s.store.tomorrow.isSome = true) s u) ∧
    u.sales = { s.sales with ports := u.sales.ports } ∧
    changesOnly [.clock, .store, .sales, .ports] s u

/-- A minute tick lapses every due call of TODAY, whole and in table order, and flags the calls that stop
being displayable (R15, R30, R31); CALLS_LAPSED grows by their number whether or not the journal has room, and
the entries that find fewer than 3 free are dropped and counted (R102). The quotes and expired records on a lapsed
call are withdrawn and every other one stays (R78). From 23:00 on it notices
TIMETABLE_NEEDED once a day (R12), and the compositor's horizon test wakes or sleeps the group (R136, R138). -/
def Obligations.MinuteTickLapsesCalls : Prop :=
  (∀ s t, s.store.today = some t → (t.calls.map Call.service).Nodup →
    let now := s.clock.second / 60
    let due := t.calls.filter (fun c => decide (c.state = .scheduled ∧ c.expected + 60 ≤ now))
    let u := minuteTick s
    u.store.today =
        some { t with calls := t.calls.map (fun c =>
          if c.state = .scheduled ∧ c.expected + 60 ≤ now then
            { c with state := .lapsed, removed := true }
          else { c with removed := c.removed || c.pastDisplay now }) } ∧
      u.store.tomorrow = s.store.tomorrow ∧ u.store.storeDay = s.store.storeDay ∧
      u.store.staging = s.store.staging ∧
      (due ≠ [] → u.counter .callsLapsed = s.counterPlus .callsLapsed due.length) ∧
      (due = [] → u.counter .callsLapsed = s.counter .callsLapsed) ∧
      countsOnly [.callsLapsed, .journalDropped] s u ∧
      (let room := min due.length
          (min (s.journal.free - 2) (lastSequence + 1 - s.journal.nextSequence))
       u.journal.entries.map Entry.kind =
          s.journal.entries.map Entry.kind ++
            (due.take room).map (fun c => .lapsedCall c.service c.scheduled) ∧
        u.journal.nextSequence = s.journal.nextSequence + room ∧
        u.journal.batch = s.journal.batch ∧
        (room < due.length →
          u.counter .journalDropped = s.counterPlus .journalDropped (due.length - room)) ∧
        (room = due.length → u.counter .journalDropped = s.counter .journalDropped)) ∧
      (∀ p q r, (u.sales.ports.get p).holds q → q.request.target = some r → r.table = .today →
        ∀ c ∈ due, r.service ≠ c.service) ∧
      quotesWithdrawn (fun r => r.table = .today ∧ ∃ c ∈ due, r.service = c.service) s u ∧
      u.sales = { s.sales with reasons := u.sales.reasons, ports := u.sales.ports } ∧
      (.journalFull ∈ u.sales.reasons ↔
        .journalFull ∈ s.sales.reasons ∨ (2 ≤ s.journal.free ∧ u.journal.free < 2)) ∧
      (∀ r, r ≠ .journalFull → (r ∈ u.sales.reasons ↔ r ∈ s.sales.reasons)) ∧
      portsKeptButNotices s u ∧
      changesOnly [.store, .sales, .journal, .compositor, .counters, .ports] s u) ∧
  ∀ s,
    let now := s.clock.second / 60
    let u := minuteTick s
    let evening := 1200 ≤ now ∧ s.store.tomorrow = none ∧ s.store.neededMark = false
    let horizon := ∃ c ∈ callsOf u.store.today, c.removed = false ∧ c.expected ≤ now + 15
    (evening → u.store.neededMark = true ∧ u.hasNotice .link .timetableNeeded ∧
      u.hasNotice .service .timetableNeeded) ∧
    (¬ evening → u.store.neededMark = s.store.neededMark ∧
      ∀ p, (u.hasNotice p .timetableNeeded ↔ s.hasNotice p .timetableNeeded)) ∧
    (s.compositor.group = .asleep → horizon →
      u.compositor = { s.compositor with group := .awake, panels := u.compositor.panels } ∧
      ∀ i, u.panel i =
        if (s.panel i).state = .asleep then { s.panel i with pending := .wake }
        else if (s.panel i).state = .awake then { s.panel i with pending := .none }
        else s.panel i) ∧
    (s.compositor.group = .awake → s.compositor.idle = none → ¬ horizon →
      u.compositor = { s.compositor with group := .asleep, panels := u.compositor.panels } ∧
      ∀ i, u.panel i =
        if (s.panel i).state = .awake then { s.panel i with pending := .sleep }
        else if (s.panel i).state = .asleep then { s.panel i with pending := .none }
        else s.panel i) ∧
    (s.compositor.group = .asleep ∧ ¬ horizon ∨
        s.compositor.group = .awake ∧ (s.compositor.idle ≠ none ∨ horizon) →
      u.compositor = s.compositor)

/-- One elapsed second (R1, R2, R4): every interval timer counts; a VALID clock advances, ticks at a new
minute, runs over into a day boundary and the tick of minute 0, and stops at the end of day 65535; with the
core supply down the clock alone counts. The last clause says what counting is (log 2): each running timer one
second lower, the gate's seconds one higher, and the clock and everything else as it was. -/
def Obligations.ClockSecondAdvances : Prop :=
  (∀ s, s.core = .up →
    (s.clock.valid = false → exec .clockSecond s = .next (settle (elapse s))) ∧
    (s.clock.valid = true →
      (s.clock.second < 86399 →
        let v : State := { elapse s with clock := { s.clock with second := s.clock.second + 1 } }
        exec .clockSecond s =
          .next (settle (if (s.clock.second + 1) % 60 = 0 then minuteTick v else v))) ∧
      (s.clock.second = 86399 → s.clock.day < 65535 →
        exec .clockSecond s =
          .next (settle (minuteTick (dayBoundary .weekday
            { elapse s with clock := { s.clock with day := s.clock.day + 1, second := 0 } })))) ∧
      (s.clock.second = 86399 → s.clock.day = 65535 → exec .clockSecond s = .next (settle (elapse s))))) ∧
  (∀ s, s.core = .down → ∃ c : Clock, exec .clockSecond s = .next { s with clock := c } ∧
    c.valid = s.clock.valid ∧ c.kind = s.clock.kind ∧
    (s.clock.valid = true → s.clock.second < 86399 →
      c.second = s.clock.second + 1 ∧ c.day = s.clock.day) ∧
    (s.clock.valid = true → s.clock.second = 86399 → s.clock.day < 65535 →
      c.second = 0 ∧ c.day = s.clock.day + 1) ∧
    (s.clock.valid = false ∨ (s.clock.second = 86399 ∧ s.clock.day = 65535) → c = s.clock)) ∧
  ∀ s,
    let u := elapse s
    let less := fun n : Nat => n - 1
    u.store = { s.store with
      staging := s.store.staging.map (fun g => { g with idle := g.idle - 1 }) } ∧
    u.detector = { s.detector with
      passage := s.detector.passage.map (fun x => { x with closing := x.closing - 1 }) } ∧
    (∀ p, let x := s.sales.ports.get p
      u.sales.ports.get p =
        { x with
          slot := x.slot.map (fun q => { q with timer := q.timer - 1 })
          lastSale := x.lastSale.map (fun l => { l with window := l.window - 1 }) }) ∧
    u.sales = { s.sales with ports := u.sales.ports, silence := s.sales.silence.map less } ∧
    u.journal = { s.journal with
      batch := s.journal.batch.map (fun b => { b with timer := b.timer - 1 }) } ∧
    u.scheduler = { s.scheduler with wait := s.scheduler.wait.map less } ∧
    u.compositor = { s.compositor with idle := s.compositor.idle.map less } ∧
    (∀ i : Fin 8, u.bus.probes[i] = s.bus.probes[i].map less) ∧
    u.bus =
      { s.bus with
        frameTimer := s.bus.frameTimer.map less, probes := u.bus.probes
        sinceFrame := s.bus.sinceFrame.map (fun n => n + 1) } ∧
    u.supply =
      { s.supply with
        sampleTimer := s.supply.sampleTimer - 1
        load := s.supply.load.map (fun l =>
          { l with endTimer := l.endTimer - 1, limitTimer := l.limitTimer - 1 }) } ∧
    changesOnly [.store, .detector, .sales, .journal, .scheduler, .compositor, .bus, .supply] s u

/-- TT_BEGIN opens or restarts staging for the requesting port; a wrong field refuses and only restarts the
holder's idle timer, and another port's staging is left alone (R16). The idle timer's
expiry discards the staging and tells its holder (R21). -/
def Obligations.TtBeginOpensStaging : Prop :=
  (∀ p f s, s.admits p .ttBegin →
    (∀ k, dayKindOf f.kind = some k → f.version.toNat ≠ 0 → 1 ≤ f.count.toNat → f.count.toNat ≤ 96 →
      ((∀ g, s.store.staging = some g → g.holder = p) →
        exec (.ttBegin p (.fields f)) s =
          .next (settle (answered p ReqCode.ttBegin.byte 6 .done
            (setStaging
              (some
                { holder := p, day := f.day.toNat, kind := k, version := f.version.toNat
                  count := f.count.toNat, next := 0, calls := [], idle := 60 }) s)))) ∧
      (∀ g, s.store.staging = some g → g.holder ≠ p →
        exec (.ttBegin p (.fields f)) s =
          .next (settle (answered p ReqCode.ttBegin.byte 6 (.refuse .busy) s)))) ∧
    (dayKindOf f.kind = none ∨ f.version.toNat = 0 ∨ f.count.toNat = 0 ∨ 96 < f.count.toNat →
      (∀ g, s.store.staging = some g → g.holder = p →
        exec (.ttBegin p (.fields f)) s =
          .next (settle (answered p ReqCode.ttBegin.byte 6 (.refuse .badRequest)
            (setStaging (some { g with idle := 60 }) s)))) ∧
      ((∀ g, s.store.staging = some g → g.holder ≠ p) →
        exec (.ttBegin p (.fields f)) s =
          .next (settle (answered p ReqCode.ttBegin.byte 6 (.refuse .badRequest) s))))) ∧
  ∀ s g, s.core = .up → s.store.staging = some g → g.idle = 0 →
    ∃ u, exec .stagingIdleTimeout s = .next (settle u) ∧ u.store = { s.store with staging := none } ∧
      (∀ p k, u.hasNotice p k ↔
        s.hasNotice p k ∨ (p = g.holder ∧ k = .stagingDiscarded)) ∧
      portsKeptButNotices s u ∧ changesOnly [.store, .ports] s u

/-- TT_CALLS checks in the order of R17; an accepted one appends its records, and any one from the holder
restarts the idle timer. Its body has the length its record count gives (R203). -/
def Obligations.TtCallsAppendsRecords : Prop :=
  ∀ p f s, s.admits p .ttCalls → 1 ≤ f.records.length → f.records.length ≤ 12 →
    let n := 2 + 6 * f.records.length
    (s.store.staging = none →
      exec (.ttCalls p (.fields f)) s =
        .next (settle (answered p ReqCode.ttCalls.byte n (.refuse .badSequence) s))) ∧
    ∀ g, s.store.staging = some g →
      (g.holder ≠ p →
        exec (.ttCalls p (.fields f)) s =
          .next (settle (answered p ReqCode.ttCalls.byte n (.refuse .busy) s))) ∧
      (g.holder = p →
        let kept : State := setStaging (some { g with idle := 60 }) s
        (f.first.toNat ≠ g.next →
          exec (.ttCalls p (.fields f)) s =
            .next (settle (answered p ReqCode.ttCalls.byte n (.refuse .badSequence) kept))) ∧
        (f.first.toNat = g.next → g.count < f.first.toNat + f.records.length →
          exec (.ttCalls p (.fields f)) s =
            .next (settle (answered p ReqCode.ttCalls.byte n (.refuse .badRequest) kept))) ∧
        (f.first.toNat = g.next → f.first.toNat + f.records.length ≤ g.count →
          (stagedCallsOf f.records = none →
            exec (.ttCalls p (.fields f)) s =
              .next (settle (answered p ReqCode.ttCalls.byte n (.refuse .badRequest) kept))) ∧
          ∀ cs, stagedCallsOf f.records = some cs →
            cs.length = f.records.length ∧
            exec (.ttCalls p (.fields f)) s =
              .next (settle (answered p ReqCode.ttCalls.byte n .done
                (setStaging
                  (some
                    { g with calls := g.calls ++ cs, next := g.next + cs.length, idle := 60 }) s)))))

/-- TT_END: the checks in their order (R18), then the staged table replaces its target whole with the live
fields carried by service id (R19), a TIMETABLE entry is asked for and a TODAY load sets the day kind
(R20). The quotes and expired records whose target call is discarded are invalidated, and those whose target
carries over stay (R20, R78). The reply's byte is the model's reading (log 14). -/
def Obligations.TtEndReplacesTable : Prop :=
  (∀ p s, s.admits p .ttEnd → s.store.staging = none →
    exec (.ttEnd p (.fields {})) s =
      .next (settle (answered p ReqCode.ttEnd.byte 0 (.refuse .badSequence) s))) ∧
  ∀ p s g, s.admits p .ttEnd → s.store.staging = some g →
    (g.holder ≠ p →
      exec (.ttEnd p (.fields {})) s = .next (settle (answered p ReqCode.ttEnd.byte 0 (.refuse .busy) s))) ∧
    (g.holder = p → g.next ≠ g.count →
      exec (.ttEnd p (.fields {})) s =
        .next (settle (answered p ReqCode.ttEnd.byte 0 (.refuse .incomplete)
          (setStaging (some { g with idle := 60 }) s)))) ∧
    (g.holder = p → g.next = g.count →
      let gone : State := setStaging none s
      (stagedOrdered g.calls = false →
        exec (.ttEnd p (.fields {})) s =
          .next (settle (answered p ReqCode.ttEnd.byte 0 (.refuse .badRequest) gone))) ∧
      (stagedOrdered g.calls = true →
        (s.clock.target g.day = none →
          exec (.ttEnd p (.fields {})) s =
            .next (settle (answered p ReqCode.ttEnd.byte 0 (.refuse .wrongDay) gone))) ∧
        ∀ name, s.clock.target g.day = some name →
          (∀ old, s.store.table name = some old → g.version ≤ old.version →
            exec (.ttEnd p (.fields {})) s =
              .next (settle (answered p ReqCode.ttEnd.byte 0 (.refuse .staleVersion) gone))) ∧
          ((∀ old, s.store.table name = some old → old.version < g.version) →
            ∃ u new, exec (.ttEnd p (.fields {})) s =
                .next (settle (answered p ReqCode.ttEnd.byte 0
                  { result := .ok, body := [BitVec.ofNat 8 name.code] } u)) ∧
              u.store.table name = some new ∧
              (∀ other, other ≠ name → u.store.table other = s.store.table other) ∧
              u.store.staging = none ∧ u.store.storeDay = s.store.storeDay ∧
              u.store.neededMark = s.store.neededMark ∧
              new.day = g.day ∧ new.kind = g.kind ∧ new.version = g.version ∧
              new.calls.length = g.calls.length ∧
              (∀ (i : Nat) (c : StagedCall), g.calls[i]? = some c → ∃ d, new.calls[i]? = some d ∧
                d.service = c.service ∧ d.direction = c.direction ∧ d.scheduled = c.scheduled ∧
                d.destination = c.destination ∧
                (∀ o, findCall (callsOf (s.store.table name)) c.service = some o →
                  d.state = o.state ∧ d.report = o.report ∧ d.actual = o.actual) ∧
                (findCall (callsOf (s.store.table name)) c.service = none →
                  d.state = .scheduled ∧ d.report = none ∧ d.actual = none) ∧
                (d.removed = true ↔ name = .today ∧ d.pastDisplay (s.clock.second / 60) = true)) ∧
              (let discarded := fun q : Quote => ∃ r, q.request.target = some r ∧ r.table = name ∧
                  r.service ∈ (callsOf (s.store.table name)).map Call.service ∧
                  r.service ∉ g.calls.map StagedCall.service
               ∀ o,
                let x := s.sales.ports.get o
                let y := u.sales.ports.get o
                (∀ q, x.slot = some q →
                  (discarded q → y = { x with slot := none, mark := .invalidated q.number }) ∧
                  (¬ discarded q → y.slot = some q)) ∧
                (x.slot = none → y = { x with mark := y.mark } ∧
                  ∀ q, x.mark = .expired q →
                    (discarded q → y.mark = .invalidated q.number) ∧
                    (¬ discarded q → y.mark = x.mark))) ∧
              u.sales = { s.sales with reasons := u.sales.reasons, ports := u.sales.ports } ∧
              u.clock = (if name = .today then { s.clock with kind := g.kind } else s.clock) ∧
              (3 ≤ s.journal.free →
                u.journal.entries =
                  s.journal.entries ++ [newEntry (.timetable g.day g.version) s] ∧
                countsOnly [] s u) ∧
              (s.journal.free < 3 → u.journal = s.journal ∧ countsOnly [.journalDropped] s u ∧
                u.counter .journalDropped = s.counterPlus .journalDropped 1) ∧
              portsKeptButNotices s u ∧
              changesOnly [.clock, .store, .sales, .journal, .counters, .ports] s u)))

/-- SVC_UPDATE DELAY and CLEAR_DELAY: the field check, NO_SUCH (R23), and the report of the one call named,
clamped to 720 and 60 or removed (R24), with every other call, each table's header and the rest of the store as it
was. -/
def Obligations.SvcUpdateSetsReport : Prop :=
  ∀ p d f s, s.admits p .svcUpdate → f.table = d.table → f.service = d.service →
    (callRefOf f.table f.service = none →
      exec (.svcUpdateDelay p (.fields d)) s =
          .next (settle (answered p ReqCode.svcUpdate.byte 7 (.refuse .badRequest) s)) ∧
        exec (.svcUpdateClearDelay p f) s =
          .next (settle (answered p ReqCode.svcUpdate.byte 7 (.refuse .badRequest) s))) ∧
    ∀ r, callRefOf f.table f.service = some r →
      (s.store.call r = none →
        exec (.svcUpdateDelay p (.fields d)) s =
            .next (settle (answered p ReqCode.svcUpdate.byte 7 (.refuse .noSuch) s)) ∧
          exec (.svcUpdateClearDelay p f) s =
            .next (settle (answered p ReqCode.svcUpdate.byte 7 (.refuse .noSuch) s))) ∧
      ∀ c, s.store.call r = some c →
        ∃ u v, exec (.svcUpdateDelay p (.fields d)) s =
            .next (settle (answered p ReqCode.svcUpdate.byte 7 .done u)) ∧
          exec (.svcUpdateClearDelay p f) s = .next (settle (answered p ReqCode.svcUpdate.byte 7 .done v)) ∧
          u.store.call r =
            some { c with report := some ⟨min d.delay.toNat 720, min d.allowance.toNat 60⟩ } ∧
          v.store.call r = some { c with report := none } ∧
          (∀ q, q ≠ r → u.store.call q = s.store.call q ∧ v.store.call q = s.store.call q) ∧
          storeKeptButCalls s u ∧ storeKeptButCalls s v ∧
          changesOnly [.store] s u ∧ changesOnly [.store] s v

/-- SVC_UPDATE CANCEL and REINSTATE act on the call's state (R25, R26): CANCEL withdraws the quotes and
expired records that target the call and no other one (R78), and a call that has departed or lapsed is left as it
was. Neither changes another call, a table's header or the rest of the store. -/
def Obligations.SvcUpdateCancelsAndReinstates : Prop :=
  ∀ p f s, s.admits p .svcUpdate →
    (callRefOf f.table f.service = none →
      exec (.svcUpdateCancel p f) s =
          .next (settle (answered p ReqCode.svcUpdate.byte 7 (.refuse .badRequest) s)) ∧
        exec (.svcUpdateReinstate p f) s =
          .next (settle (answered p ReqCode.svcUpdate.byte 7 (.refuse .badRequest) s))) ∧
    ∀ r, callRefOf f.table f.service = some r →
      (s.store.call r = none →
        exec (.svcUpdateCancel p f) s =
            .next (settle (answered p ReqCode.svcUpdate.byte 7 (.refuse .noSuch) s)) ∧
          exec (.svcUpdateReinstate p f) s =
            .next (settle (answered p ReqCode.svcUpdate.byte 7 (.refuse .noSuch) s))) ∧
      ∀ c, s.store.call r = some c →
        (c.state = .scheduled →
          ∃ u, exec (.svcUpdateCancel p f) s = .next (settle (answered p ReqCode.svcUpdate.byte 7 .done u)) ∧
            u.store.call r = some { c with state := .cancelled } ∧
            (∀ q, q ≠ r → u.store.call q = s.store.call q) ∧
            storeKeptButCalls s u ∧
            (∀ q x, (u.sales.ports.get q).holds x → x.request.target ≠ some r ∧
              (s.sales.ports.get q).holds x) ∧
            quotesWithdrawn (fun t => t = r) s u ∧
            u.sales = { s.sales with ports := u.sales.ports } ∧
            changesOnly [.store, .sales] s u) ∧
        (c.state = .cancelled →
          exec (.svcUpdateCancel p f) s = .next (settle (answered p ReqCode.svcUpdate.byte 7 .done s)) ∧
          ∃ u, exec (.svcUpdateReinstate p f) s =
              .next (settle (answered p ReqCode.svcUpdate.byte 7 .done u)) ∧
            u.store.call r = some { c with state := .scheduled, removed := false } ∧
            (∀ q, q ≠ r → u.store.call q = s.store.call q) ∧
            storeKeptButCalls s u ∧ changesOnly [.store] s u) ∧
        (c.state = .departed ∨ c.state = .lapsed →
          exec (.svcUpdateCancel p f) s =
            .next (settle (answered p ReqCode.svcUpdate.byte 7 (.refuse .notOnSale) s))) ∧
        (c.state ≠ .cancelled →
          exec (.svcUpdateReinstate p f) s = .next (settle (answered p ReqCode.svcUpdate.byte 7 .done s)))

/-! ## Treadles and passages (chapter 2) -/

/-- An accepted rising edge opens a pulse record; in PAIRED mode, while the other treadle is PRESSED with a
pulse of its own, it forms an axle whose direction the other treadle gives (R36), clears both runs (R38)
and extends or opens the passage (R40). An edge that changes no accepted level does nothing (log 20). An
accepted falling edge ends the pulse: in SEPARATE mode it adds to the test count (R39), in PAIRED mode an
overlapped pulse has no further effect and an unpaired one is counted and adds to the run, with
TREADLE_FAULT when the run reaches 20 (R36, R37). -/
def Obligations.TreadleEdgesFormAxles : Prop :=
  (∀ t s, s.core = .up →
    let x := s.detector.treadle t
    let y := s.detector.treadle (otherTreadle t)
    (x.seen = false ∨ x.pressed = true → exec (.treadleRisingEdge t) s = .next (settle s)) ∧
    (x.seen = true → x.pressed = false →
      (s.detector.mode = .separate ∨ y.pressed = false ∨ y.pulse = none →
        exec (.treadleRisingEdge t) s =
          .next (settle (setDetector
            (s.detector.setTreadle t { x with pressed := true, pulse := some false }) s))) ∧
      (s.detector.mode = .paired → y.pressed = true → y.pulse.isSome = true →
        ∃ u o, exec (.treadleRisingEdge t) s = .next (settle u) ∧
          u.detector.mode = .paired ∧
          u.detector.treadle t =
            { x with pressed := true, pulse := some true, fault := false, run := 0 } ∧
          u.detector.treadle (otherTreadle t) = { y with pulse := some true, fault := false, run := 0 } ∧
          u.detector.passage = some o ∧ o.last = s.clock.second ∧ o.lastDay = s.clock.day ∧
          o.closing = 8 ∧
          (s.detector.passage = none →
            o.first = s.clock.second ∧ o.up = (if t = .ta then 1 else 0) ∧
              o.down = (if t = .tb then 1 else 0)) ∧
          (∀ o', s.detector.passage = some o' →
            o.first = o'.first ∧ o.up = (if t = .ta then min (o'.up + 1) 255 else o'.up) ∧
              o.down = (if t = .tb then min (o'.down + 1) 255 else o'.down)) ∧
          changesOnly [.detector] s u))) ∧
  ∀ t s, s.core = .up →
    let x := s.detector.treadle t
    (x.seen = false ∨ x.pressed = false → exec (.treadleFallingEdge t) s = .next (settle s)) ∧
    (x.seen = true → x.pressed = true →
      (x.pulse = none ∨ (x.pulse = some true ∧ s.detector.mode = .paired) →
        exec (.treadleFallingEdge t) s =
          .next (settle (setDetector (s.detector.setTreadle t { x with pressed := false, pulse := none }) s))) ∧
      (x.pulse.isSome = true → s.detector.mode = .separate →
        exec (.treadleFallingEdge t) s =
          .next (settle (setDetector
            (s.detector.setTreadle t
              { x with pressed := false, pulse := none, test := min (x.test + 1) 65535 }) s))) ∧
      (x.pulse = some false → s.detector.mode = .paired →
        ∃ u, exec (.treadleFallingEdge t) s = .next (settle u) ∧
          u.detector =
            s.detector.setTreadle t
              { x with
                pressed := false, pulse := none, run := min (x.run + 1) 20
                fault := x.fault || decide (19 ≤ x.run) } ∧
          u.counter .treadleUnpaired = s.counterPlus .treadleUnpaired 1 ∧
          countsOnly [.treadleUnpaired] s u ∧
          (∀ p k, u.hasNotice p k ↔
            s.hasNotice p k ∨ (x.run = 19 ∧ p ≠ .terminal ∧ k = .treadleFault)) ∧
          portsKeptButNotices s u ∧ changesOnly [.detector, .counters, .ports] s u))

/-- The first acceptance of a treadle, presence, trigger or port reset level sets that level and gives no edge,
no pulse, no frame start and no port reset (R33, R134, R147, R201); a second one does not happen. -/
def Obligations.FirstAcceptancesGiveNoEdge : Prop :=
  ∀ s, s.core = .up →
    (∀ t level, let x := s.detector.treadle t
      exec (.treadleFirstAcceptance t level) s =
        .next (settle (if x.seen then s else
          setDetector (s.detector.setTreadle t { x with seen := true, pressed := level }) s))) ∧
    (∀ level, exec (.presenceFirstAcceptance level) s =
      .next (settle (if s.compositor.presenceSeen then s else
        { s with compositor := { s.compositor with presenceSeen := true, occupied := level } }))) ∧
    (∀ level, exec (.triggerFirstAcceptance level) s =
      .next (settle (if s.bus.triggerSeen then s else
        { s with bus := { s.bus with triggerSeen := true, triggerHigh := level } }))) ∧
    ∀ p active, exec (.portResetLineFirstAcceptance p active) s =
      .next (settle (if (s.ports.get p).lineSeen then s else
        setPort p
          { s.ports.get p with
            lineSeen := true, condition := if active then .held else .run } s))

/-- TREADLE_MODE (R34): an unknown mode, SEPARATE from another port than the service port, the mode in force;
and a change of mode with all its effects in one step (R35). -/
def Obligations.TreadleModeChanges : Prop :=
  ∀ p f s, s.admits p .treadleMode →
    (treadleModeOf f.mode = none →
      exec (.treadleMode p (.fields f)) s =
        .next (settle (answered p ReqCode.treadleMode.byte 1 (.refuse .badRequest) s))) ∧
    (treadleModeOf f.mode = some .separate → p ≠ .service →
      exec (.treadleMode p (.fields f)) s =
        .next (settle (answered p ReqCode.treadleMode.byte 1 (.refuse .notPermitted) s))) ∧
    ∀ m, treadleModeOf f.mode = some m → (m = .separate → p = .service) →
      (m = s.detector.mode →
        exec (.treadleMode p (.fields f)) s =
          .next (settle (answered p ReqCode.treadleMode.byte 1 .done s))) ∧
      (m ≠ s.detector.mode →
        ∃ u, exec (.treadleMode p (.fields f)) s =
            .next (settle (answered p ReqCode.treadleMode.byte 1 .done u)) ∧
          u.detector.mode = m ∧ u.detector.passage = none ∧
          (∀ t, u.detector.treadle t =
            { s.detector.treadle t with
              pulse := none, fault := false, run := 0
              test := if m = .separate then 0 else (s.detector.treadle t).test }) ∧
          changesOnly [.detector] s u)

/-- The closing timer's expiry: a passage of fewer than 4 axles is minor (R41); else the first candidate of
TODAY departs, with every other call and the rest of the store as they were and its quotes and no other withdrawn
(R42, R43, R78), or the passage is unmatched and journalled (R44). That an
expiry with no open passage does nothing is the model's choice (log 3); it may come in the timer's last second, so
before the minute tick that falls together with it or after (R45, log 29). -/
def Obligations.PassageClosesAndMatches : Prop :=
  ∀ s, s.core = .up →
    (s.detector.passage = none → exec .passageClose s = .next (settle s)) ∧
    ∀ x, s.detector.passage = some x → x.closing ≤ 1 →
      let m := x.last / 60
      let candidate := fun c : Call => decide (c.state = .scheduled ∧
        (x.up < x.down → c.direction = .down) ∧ (x.down < x.up → c.direction = .up) ∧
        c.scheduled ≤ m + 10 ∧ m ≤ c.expected + 60)
      (x.up + x.down < 4 →
        ∃ u, exec .passageClose s = .next (settle u) ∧ u.detector = { s.detector with passage := none } ∧
          u.counter .passagesMinor = s.counterPlus .passagesMinor 1 ∧
          countsOnly [.passagesMinor] s u ∧ changesOnly [.detector, .counters] s u) ∧
      (4 ≤ x.up + x.down →
        (∀ t c, s.store.today = some t → (t.calls.map Call.service).Nodup →
          x.lastDay = s.store.storeDay → t.calls.find? candidate = some c →
          ∃ u, exec .passageClose s = .next (settle u) ∧ u.detector = { s.detector with passage := none } ∧
            u.store.call ⟨.today, c.service⟩ =
              some { c with state := .departed, actual := some x.last } ∧
            (∀ r, r ≠ ⟨.today, c.service⟩ → u.store.call r = s.store.call r) ∧
            storeKeptButCalls s u ∧
            (∀ p q, (u.sales.ports.get p).holds q →
              q.request.target ≠ some ⟨.today, c.service⟩ ∧ (s.sales.ports.get p).holds q) ∧
            quotesWithdrawn (fun r => r = ⟨.today, c.service⟩) s u ∧
            u.sales = { s.sales with ports := u.sales.ports } ∧
            u.counter .passagesMatched = s.counterPlus .passagesMatched 1 ∧
            countsOnly [.passagesMatched] s u ∧
            changesOnly [.detector, .store, .sales, .counters] s u) ∧
        (s.store.today = none ∨ x.lastDay ≠ s.store.storeDay ∨
            (∀ t, s.store.today = some t → t.calls.find? candidate = none) →
          ∃ u, exec .passageClose s = .next (settle u) ∧ u.detector = { s.detector with passage := none } ∧
            u.counter .passagesUnmatched = s.counterPlus .passagesUnmatched 1 ∧
            (3 ≤ s.journal.free →
              u.journal.entries = s.journal.entries ++
                [newEntry (.unmatchedPassage x.direction x.up x.down x.last) s] ∧
              countsOnly [.passagesUnmatched] s u) ∧
            (s.journal.free < 3 → u.journal = s.journal ∧
              u.counter .journalDropped = s.counterPlus .journalDropped 1 ∧
              countsOnly [.passagesUnmatched, .journalDropped] s u) ∧
            salesKeptButReasons s u ∧ portsKeptButNotices s u ∧
            changesOnly [.detector, .sales, .journal, .counters, .ports] s u))

/-! ## Fares (chapter 3) -/

/-- FARE_RANGE_WRITE (R49): the checks in order, codes aligned outward to fours, distance at most 15; only the
entry named changes. FARE_PARAM_WRITE clamps and stores all five parameters (R53); FARE_CONCESSION_WRITE
(R54) and FARE_PEAK_WRITE (R55) check their fields and store the one entry named. -/
def Obligations.FareWritesStoreEntries : Prop :=
  (∀ p f s, s.admits p .fareRangeWrite →
    let i := f.index.toNat
    let a := f.first.toNat / 4 * 4
    let z := min (f.last.toNat / 4 * 4 + 3) 4095
    let stores := fun (e : Option RangeEntry) =>
      ∃ u, exec (.fareRangeWrite p (.fields f)) s =
          .next (settle (answered p ReqCode.fareRangeWrite.byte 7 (.okWith (rangeBytes i e)) u)) ∧
        u.fares = { s.fares with ranges := u.fares.ranges } ∧ u.fares.ranges[i]? = some e ∧
        (∀ j : Nat, j ≠ i → u.fares.ranges[j]? = s.fares.ranges[j]?) ∧ changesOnly [.fares] s u
    (31 < i ∨ flagOf f.valid = none ∨ (flagOf f.valid = some true ∧ f.distance.toNat = 0) →
      exec (.fareRangeWrite p (.fields f)) s =
        .next (settle (answered p ReqCode.fareRangeWrite.byte 7 (.refuse .badRequest) s))) ∧
    (i ≤ 31 → flagOf f.valid = some false → stores none) ∧
    (i ≤ 31 → flagOf f.valid = some true → 1 ≤ f.distance.toNat →
      (z < a →
        exec (.fareRangeWrite p (.fields f)) s =
          .next (settle (answered p ReqCode.fareRangeWrite.byte 7 (.refuse .badRange) s))) ∧
      (a ≤ z → stores (some ⟨a, z, min f.distance.toNat 15⟩)))) ∧
  (∀ p f s, s.admits p .fareParamWrite →
    let n := f.step.toNat
    let u : State := { s with fares := { s.fares with
      returnPercent := max 100 (min 250 f.returnPercent.toNat)
      offPeakPercent := max 30 (min 100 f.offPeakPercent.toNat)
      childPercent := min 100 f.childPercent.toNat
      step := if n = 1 ∨ n = 5 ∨ n = 10 ∨ n = 50 then n else 10
      capMultiple := max 2 (min 10 f.capMultiple.toNat) } }
    exec (.fareParamWrite p (.fields f)) s =
      .next (settle (answered p ReqCode.fareParamWrite.byte 5 (.okWith (paramBytes u.fares)) u))) ∧
  (∀ p f s, s.admits p .fareConcessionWrite →
    let i := f.cls.toNat
    (i = 0 ∨ 7 < i ∨ appliesToOf f.appliesTo = none →
      exec (.fareConcessionWrite p (.fields f)) s =
        .next (settle (answered p ReqCode.fareConcessionWrite.byte 3 (.refuse .badRequest) s))) ∧
    (1 ≤ i → i ≤ 7 → ∀ a, appliesToOf f.appliesTo = some a →
      let c : Concession := ⟨min f.discount.toNat 90, a⟩
      ∃ u, exec (.fareConcessionWrite p (.fields f)) s =
          .next (settle (answered p ReqCode.fareConcessionWrite.byte 3 (.okWith (concessionBytes i c)) u)) ∧
        u.fares = { s.fares with concessions := u.fares.concessions } ∧
        u.fares.concessions[i]? = some c ∧
        (∀ j : Nat, j ≠ i → u.fares.concessions[j]? = s.fares.concessions[j]?) ∧
        changesOnly [.fares] s u)) ∧
  ∀ p f s, s.admits p .farePeakWrite →
    let i := f.index.toNat
    (3 < i ∨ 1439 < f.start.toNat ∨ 1440 < f.stop.toNat →
      exec (.farePeakWrite p (.fields f)) s =
        .next (settle (answered p ReqCode.farePeakWrite.byte 5 (.refuse .badRequest) s))) ∧
    (i ≤ 3 → f.start.toNat ≤ 1439 → f.stop.toNat ≤ 1440 →
      let w : PeakWindow := ⟨f.start.toNat, f.stop.toNat⟩
      ∃ u, exec (.farePeakWrite p (.fields f)) s =
          .next (settle (answered p ReqCode.farePeakWrite.byte 5 (.okWith (peakBytes i w)) u)) ∧
        u.fares = { s.fares with peaks := u.fares.peaks } ∧ u.fares.peaks[i]? = some w ∧
        (∀ j : Nat, j ≠ i → u.fares.peaks[j]? = s.fares.peaks[j]?) ∧ changesOnly [.fares] s u)

/-- FARE_PRICE_WRITE (R51, R52): the run of prices is stored, each at most 50,000, the fares-loaded flag is
whether any price is above 0, and NO_FARES follows the flag. -/
def Obligations.FarePriceWriteStoresRow : Prop :=
  ∀ p f s, s.admits p .farePriceWrite → 1 ≤ f.prices.length → f.prices.length ≤ 15 →
    let d := f.first.toNat
    let n := 2 + 3 * f.prices.length
    (d = 0 ∨ 15 < d + f.prices.length - 1 →
      exec (.farePriceWrite p (.fields f)) s =
        .next (settle (answered p ReqCode.farePriceWrite.byte n (.refuse .badRequest) s))) ∧
    (1 ≤ d → d + f.prices.length - 1 ≤ 15 →
      (.noFares ∈ s.sales.reasons ↔ s.fares.loaded = false) →
      ∃ u, exec (.farePriceWrite p (.fields f)) s =
          .next (settle (answered p ReqCode.farePriceWrite.byte n (.okWith (priceRowBytes u.fares)) u)) ∧
        (∀ j : Nat, u.fares.prices[j]? =
          match f.prices[j + 1 - d]? with
          | some x => if d ≤ j + 1 then some (min x.toNat 50000) else s.fares.prices[j]?
          | none => s.fares.prices[j]?) ∧
        (u.fares.loaded = true ↔ ∃ x ∈ u.fares.prices.toList, 0 < x) ∧
        u.fares = { s.fares with prices := u.fares.prices, loaded := u.fares.loaded } ∧
        (.noFares ∈ u.sales.reasons ↔ u.fares.loaded = false) ∧
        (∀ r, r ≠ .noFares → (r ∈ u.sales.reasons ↔ r ∈ s.sales.reasons)) ∧
        salesKeptButReasons s u ∧ portsKeptButNotices s u ∧
        (s.fares.loaded = u.fares.loaded → u.sales = s.sales ∧ u.ports = s.ports) ∧
        changesOnly [.fares, .sales, .ports] s u)

/-- STATUS, LIST_CALLS, FARE_READ and RVL_READ give OK with what they name, in at most 252 bytes (R205), and
change nothing but the port's own transfer (R56, R96, R199, R200); an unknown section or table, or a run outside
its limits, gives BAD_REQUEST. STATUS reads the part with its own frame heard, so that a frame on the terminal
port finds it ACTIVE, which is the model's reading (log 24), and before its own reply is made (log 30). -/
def Obligations.ReadsChangeNothing : Prop :=
  (∀ p f x s, s.admits p .status → statusSectionOf f.statusSection = some x →
    let body := (hear p 3 s).statusBytes x
    body.length ≤ 252 ∧ (p ≠ .terminal ∨ s.sales.silent = false → body = s.statusBytes x) ∧
    exec (.status p (.fields f)) s =
      .next (settle (answered p ReqCode.status.byte 1 (.okWith body) s))) ∧
  (∀ p f t s, s.admits p .listCalls → tableOf f.table = some t → f.first.toNat ≤ 95 →
    1 ≤ f.count.toNat → f.count.toNat ≤ 96 →
    let calls := ((callsOf (s.store.table t)).drop f.first.toNat).take (min f.count.toNat 14)
    let body := num1 t.code ++ tableStatus (s.store.table t) ++ num1 f.first.toNat ++
      num1 calls.length ++ calls.flatMap callBytes
    body.length = 10 + 17 * calls.length ∧ body.length ≤ 252 ∧
    exec (.listCalls p (.fields f)) s =
      .next (settle (answered p ReqCode.listCalls.byte 3 (.okWith body) s))) ∧
  (∀ p f name s, s.admits p .fareRead → fareTableOf f.table = some name →
    (name = .ranges → f.first.toNat ≤ 31 ∧ 1 ≤ f.count.toNat ∧ f.first.toNat + f.count.toNat ≤ 32) →
    let body := fareReadBytes s.fares name f.first.toNat f.count.toNat
    body.length ≤ 252 ∧
    exec (.fareRead p (.fields f)) s =
      .next (settle (answered p ReqCode.fareRead.byte 3 (.okWith body) s))) ∧
  (∀ p f s, s.admits p .rvlRead → f.first.toNat ≤ 63 → 1 ≤ f.count.toNat →
    f.first.toNat + f.count.toNat ≤ 64 →
    let run := (s.revoked.toList.drop f.first.toNat).take (min f.count.toNat 31)
    let body := num1 f.first.toNat ++ num1 (min f.count.toNat 31) ++
      runBytes rvlBytes f.first.toNat run
    body.length = 2 + 8 * min f.count.toNat 31 ∧ body.length ≤ 252 ∧
    exec (.rvlRead p (.fields f)) s =
      .next (settle (answered p ReqCode.rvlRead.byte 2 (.okWith body) s))) ∧
  (∀ p f s, s.admits p .status → statusSectionOf f.statusSection = none →
    exec (.status p (.fields f)) s =
      .next (settle (answered p ReqCode.status.byte 1 (.refuse .badRequest) s))) ∧
  (∀ p f s, s.admits p .listCalls →
    tableOf f.table = none ∨ 95 < f.first.toNat ∨ f.count.toNat = 0 ∨ 96 < f.count.toNat →
    exec (.listCalls p (.fields f)) s =
      .next (settle (answered p ReqCode.listCalls.byte 3 (.refuse .badRequest) s))) ∧
  (∀ p f s, s.admits p .fareRead →
    fareTableOf f.table = none ∨ (fareTableOf f.table = some .ranges ∧
      (31 < f.first.toNat ∨ f.count.toNat = 0 ∨ 32 < f.first.toNat + f.count.toNat)) →
    exec (.fareRead p (.fields f)) s =
      .next (settle (answered p ReqCode.fareRead.byte 3 (.refuse .badRequest) s))) ∧
  ∀ p f s, s.admits p .rvlRead →
    63 < f.first.toNat ∨ f.count.toNat = 0 ∨ 64 < f.first.toNat + f.count.toNat →
    exec (.rvlRead p (.fields f)) s =
      .next (settle (answered p ReqCode.rvlRead.byte 2 (.refuse .badRequest) s))

/-- Rounding gives the multiple of the step nearest to the exact value n/d, the greater one at a half
(R63). -/
def Obligations.RoundingIsNearest : Prop :=
  ∀ step n d, 0 < step → 0 < d →
    let r := roundTo step n d
    r % step = 0 ∧ 2 * (r * d) ≤ 2 * n + step * d ∧ 2 * n < 2 * (r * d) + step * d

/-- What a fare is (R57 to R68). A fare request is read from a QUOTE's fields within their limits and from no other.
The distance is that of the valid range at the lowest index that contains the code (R50), and NO_FARE answers a code
in none and a distance without a price (R59); NO_SUCH answers a target call that its table does not hold (R60). Else
the fare has the band of the target's scheduled minute and its table's day kind, or of the now minute and the
clock's (R55, R61), the per-person values rounded once from the exact ones (R62 to R64; O23 says what `roundTo`
does), the card holder with its flag (R65), the sum (R66), and the cap and total (R67). Its total never passes
1,125,000 (R67), its sum, or the cap, with the tables in the ranges their writes keep. -/
def Obligations.FareTotalIsBounded : Prop :=
  (∀ f : QuoteBody,
    let party := f.adults.toNat + f.children.toNat
    let plain := f.concession = 0 ∧ f.cardPresent = 0
    let carded := 1 ≤ f.concession.toNat ∧ f.concession.toNat ≤ 7 ∧ f.cardPresent = 1
    let named := fun t : TableName =>
      f.targetPresent = 1 ∧ tableOf f.table = some t ∧ 1 ≤ f.service.toNat ∧ f.service.toNat ≤ 9999
    let valid := f.destination.toNat ≤ 4095 ∧ (f.ticket = 0 ∨ f.ticket = 1) ∧
      f.adults.toNat ≤ 9 ∧ f.children.toNat ≤ 9 ∧ 1 ≤ party ∧ party ≤ 9 ∧ (plain ∨ carded) ∧
      (f.targetPresent = 0 ∨ ∃ t, named t)
    (¬ valid → fareRequestOf f = none) ∧
    (valid → ∃ r, fareRequestOf f = some r ∧ r.destination = f.destination.toNat ∧
      r.ticket = (if f.ticket = 0 then .single else .ret) ∧
      r.adults = f.adults.toNat ∧ r.children = f.children.toNat ∧ (plain → r.concession = none) ∧
      (carded → r.concession = some ⟨f.concession.toNat, f.card.toNat⟩) ∧
      (f.targetPresent = 0 → r.target = none) ∧
      ∀ t, named t → r.target = some ⟨t, f.service.toNat⟩)) ∧
  (∀ (s : State) (r : FareRequest),
    let covers := fun e : RangeEntry => e.first ≤ r.destination ∧ r.destination ≤ e.last
    ((∀ (i : Fin 32) e, s.fares.ranges[i] = some e → ¬ covers e) → s.computeFare r = .noFare) ∧
    ∀ (i : Fin 32) e (d : Fin 15), s.fares.ranges[i] = some e → covers e →
      (∀ j, j < i → ∀ e', s.fares.ranges[j] = some e' → ¬ covers e') → e.distance = d.val + 1 →
      let price := s.fares.prices[d]
      (price = 0 → s.computeFare r = .noFare) ∧
      (price ≠ 0 → ∀ t, r.target = some t → s.store.call t = none → s.computeFare r = .noSuch) ∧
      (price ≠ 0 → ∀ (minute : Nat) (kind : DayKind),
        (r.target = none ∧ minute = s.clock.second / 60 ∧ kind = s.clock.kind ∨
          ∃ t tab c, r.target = some t ∧ s.store.table t.table = some tab ∧ s.store.call t = some c ∧
            minute = c.scheduled ∧ kind = tab.kind) →
        let peak := kind = .weekday ∧
          ∃ w : Fin 4, s.fares.peaks[w].start ≤ minute ∧ minute < s.fares.peaks[w].stop
        ∃ x, s.computeFare r = .fare x ∧ x.distance = e.distance ∧ x.price = price ∧
          (peak → x.band = .peak) ∧ (¬ peak → x.band = .offPeak) ∧
          let base := price * (if r.ticket = .single then 100 else s.fares.returnPercent) *
            (if x.band = .peak then 100 else s.fares.offPeakPercent)
          let party := r.adults + r.children
          x.adult = roundTo s.fares.step base 10000 ∧
          x.child = roundTo s.fares.step (base * s.fares.childPercent) 1000000 ∧
          (r.concession = none → x.holder = .none ∧ x.notApplied = false) ∧
          (∀ (k : Fin 8) card, r.concession = some ⟨k.val, card⟩ →
            let c := s.fares.concessions[k]
            x.concAdult = roundTo s.fares.step (base * (100 - c.discount)) 1000000 ∧
            x.concChild =
              roundTo s.fares.step (base * s.fares.childPercent * (100 - c.discount)) 100000000 ∧
            (1 ≤ r.adults → x.holder = .adult ∧ x.notApplied = false) ∧
            (r.adults = 0 → c.appliesTo = .all → x.holder = .child ∧ x.notApplied = false) ∧
            (r.adults = 0 → c.appliesTo = .adults → x.holder = .none ∧ x.notApplied = true)) ∧
          x.sum =
            (match x.holder with
             | .adult => x.concAdult + (r.adults - 1) * x.adult + r.children * x.child
             | .child => r.adults * x.adult + x.concChild + (r.children - 1) * x.child
             | .none => r.adults * x.adult + r.children * x.child) ∧
          (2 ≤ party → x.cap = some (s.fares.capMultiple * x.adult) ∧
            x.total = min x.sum (s.fares.capMultiple * x.adult)) ∧
          (party ≤ 1 → x.cap = none ∧ x.total = x.sum))) ∧
  ∀ (s : State) (r : FareRequest) (x : Fare), s.fares.ok → 1 ≤ r.adults + r.children → r.adults + r.children ≤ 9 →
    s.computeFare r = .fare x →
    x.total ≤ 1125000 ∧ x.total ≤ x.sum ∧ x.child ≤ x.adult ∧ x.concAdult ≤ x.adult ∧
      x.concChild ≤ x.adult ∧
      (2 ≤ r.adults + r.children → x.total ≤ s.fares.capMultiple * x.adult) ∧
      (r.adults + r.children = 1 → x.total = x.sum)

/-! ## Sales (chapter 4) -/

/-- QUOTE: with every check of R75 passed the slot takes a new quote record for 120 s, the number advances and
nothing is reserved (R74, R76). The first check of R75 that fails decides the result, and SALES_CLOSED alone
carries a body, the reason set; a refused quote is counted and leaves the slot and the stock alone (R75, R76,
R181). That a refusal does not carry CONCESSION_NOT_APPLIED is the model's choice (log 27). -/
def Obligations.QuoteFillsSlot : Prop :=
  ∀ p f s, s.admits p .quote →
    (∀ r x, s.sales.reasons = [] → fareRequestOf f = some r → s.computeFare r = .fare x →
      s.targetOnSale r = true → s.cardRevoked r = false → s.sales.remaining ≠ 0 →
      let y := s.sales.ports.get p
      let q : Quote :=
        { number := y.nextQuote, request := r, fare := x
          expiry := (s.clock.second + 120) % 86400, timer := 120 }
      ∃ u, exec (.quote p (.fields f)) s =
          .next (settle (answered p ReqCode.quote.byte 16
            { result := .ok, body := quoteBytes q, notApplied := x.notApplied } u)) ∧
        (quoteBytes q).length = 48 ∧
        u.sales.ports.get p =
          { y with
            slot := some q, mark := .none
            nextQuote := if y.nextQuote = 255 then 1 else y.nextQuote + 1 } ∧
        (∀ o, o ≠ p → u.sales.ports.get o = s.sales.ports.get o) ∧
        u.sales = { s.sales with ports := u.sales.ports } ∧ changesOnly [.sales] s u) ∧
    let refused := fun (r : Result) (body : List Byte) =>
      ∃ u, exec (.quote p (.fields f)) s =
          .next (settle (answered p ReqCode.quote.byte 16 { result := r, body := body } u)) ∧
        u.counter .refusedQuotes = s.counterPlus .refusedQuotes 1 ∧
        u.counter .cardRevoked =
          (if r = .cardRevoked then s.counterPlus .cardRevoked 1 else s.counter .cardRevoked) ∧
        countsOnly [.refusedQuotes, .cardRevoked] s u ∧ changesOnly [.counters] s u
    (s.sales.reasons ≠ [] → refused .salesClosed (num1 (setBits Reason.all s.sales.reasons))) ∧
    (s.sales.reasons = [] → fareRequestOf f = none → refused .badRequest []) ∧
    ∀ r, s.sales.reasons = [] → fareRequestOf f = some r →
      (s.computeFare r = .noFare → refused .noFare []) ∧
      (s.computeFare r = .noSuch → refused .noSuch []) ∧
      ∀ x, s.computeFare r = .fare x →
        (s.targetOnSale r = false → refused .notOnSale []) ∧
        (s.targetOnSale r = true →
          (s.cardRevoked r = true → refused .cardRevoked []) ∧
          (s.cardRevoked r = false → s.sales.remaining = 0 → refused .stockEmpty []))

/-- An issue of a HELD quote (R81) or by requote (R82), with every check passed, draws the next serial of the
oldest block, which leaves the list after its last (R91), appends the SALE entry, counts the issue and its
revenue, empties the slot and opens the void window, all in one step (R83, R92). The ticket record takes its day
and start minute from the target call and its table, or from the clock (R84). -/
def Obligations.IssueDrawsNextSerial : Prop :=
  ∀ p f q x requoted b rest s, s.admits p .issue → f.number.toNat = q.number → q.number ≠ 0 →
    s.sales.blocks = b :: rest → s.sales.reasons = [] → s.targetOnSale q.request = true → s.cardRevoked q.request = false →
    s.sales.remaining ≠ 0 → 2 ≤ s.journal.free →
    ((s.sales.ports.get p).slot = some q ∧ x = q.fare ∧ requoted = false ∨
      (s.sales.ports.get p).slot = none ∧ (s.sales.ports.get p).mark = .expired q ∧
        s.computeFare q.request = .fare x ∧ x.total = q.fare.total ∧ requoted = true) →
    let serial := b.next
    ∃ u day start, exec (.issue p (.fields f)) s =
        .next (settle (answered p ReqCode.issue.byte 1
          { result := .ok
            body := ticketBytes
              { serial := serial, request := q.request, band := x.band, total := x.total, day := day
                validity := start }
            requoted := requoted, notApplied := x.notApplied } u)) ∧
      (q.request.target = none → day = s.clock.day ∧ start = s.clock.second / 60) ∧
      (∀ r tab c, q.request.target = some r → s.store.table r.table = some tab →
        s.store.call r = some c → day = tab.day ∧ start = c.scheduled) ∧
      u.sales.blocks = (if b.next = b.last then rest else { b with next := b.next + 1 } :: rest) ∧
      u.sales.horizon = s.sales.horizon ∧
      u.journal.entries =
        s.journal.entries ++ [newEntry (.sale serial p q.request x.band x.total) s] ∧
      (let kind := if q.request.ticket = .single then .issuedSingle else .issuedReturn
       let revenue := if x.band = .peak then .revenuePeak else .revenueOffPeak
       u.counter kind = s.counterPlus kind 1 ∧ u.counter revenue = s.counterPlus revenue x.total ∧
       (requoted = true → u.counter .requotedIssues = s.counterPlus .requotedIssues 1) ∧
       countsOnly (if requoted then [kind, revenue, .requotedIssues] else [kind, revenue]) s u) ∧
      u.sales.ports.get p =
        { s.sales.ports.get p with
          slot := none, mark := .none, lastSale := some { serial := serial, window := 300 } } ∧
      (∀ o, o ≠ p → u.sales.ports.get o = s.sales.ports.get o) ∧
      (.stockEmpty ∈ u.sales.reasons ↔ u.sales.remaining = 0) ∧
      (.journalFull ∈ u.sales.reasons ↔ u.journal.free < 2) ∧
      u.sales.lowMark = (s.sales.lowMark || decide (u.sales.remaining < 200)) ∧
      (u.sales.remaining < 200 → s.sales.lowMark = false →
        u.hasNotice .link .stockLow ∧ u.hasNotice .service .stockLow) ∧
      (s.sales.stockOk → u.sales.remaining + 1 = s.sales.remaining) ∧
      portsKeptButNotices s u ∧ changesOnly [.sales, .journal, .counters, .ports] s u

/-- A refused ISSUE (R80 to R82): number 0 is counted and leaves the slot; every other refusal is counted,
empties the slot and the mark, and draws no serial. The first check that fails, in the order of R81 for a HELD
quote and of R82 for an expired one, decides the result, and SALES_CLOSED alone carries a body, the reason set.
That a refusal does not carry CONCESSION_NOT_APPLIED is the model's choice (log 27). -/
def Obligations.RefusedIssueEmptiesSlot : Prop :=
  ∀ p f s, s.admits p .issue →
    let y := s.sales.ports.get p
    (f.number.toNat = 0 →
      ∃ u, exec (.issue p (.fields f)) s =
          .next (settle (answered p ReqCode.issue.byte 1 (.refuse .badRequest) u)) ∧
        u.counter .refusedIssues = s.counterPlus .refusedIssues 1 ∧
        countsOnly [.refusedIssues] s u ∧ changesOnly [.counters] s u) ∧
    (f.number.toNat ≠ 0 →
      let refused := fun (r : Result) (body : List Byte) =>
        ∃ u, exec (.issue p (.fields f)) s =
            .next (settle (answered p ReqCode.issue.byte 1 { result := r, body := body } u)) ∧
          u.sales.ports.get p = { y with slot := none, mark := .none } ∧
          (∀ o, o ≠ p → u.sales.ports.get o = s.sales.ports.get o) ∧
          u.sales = { s.sales with ports := u.sales.ports } ∧
          u.counter .refusedIssues = s.counterPlus .refusedIssues 1 ∧
          u.counter .cardRevoked =
            (if r = .cardRevoked then s.counterPlus .cardRevoked 1 else s.counter .cardRevoked) ∧
          countsOnly [.refusedIssues, .cardRevoked] s u ∧ changesOnly [.sales, .counters] s u
      let closed := s.sales.reasons ≠ [] →
        refused .salesClosed (num1 (setBits Reason.all s.sales.reasons))
      let lastChecks := fun q : Quote =>
        (s.cardRevoked q.request = true → refused .cardRevoked []) ∧
        (s.cardRevoked q.request = false →
          (s.sales.remaining = 0 → refused .stockEmpty []) ∧
          (s.sales.remaining ≠ 0 → s.journal.free < 2 → refused .journalFull []))
      ((∀ q, y.slot = some q → q.number ≠ f.number.toNat) →
        (y.slot = none → ∀ q, y.mark = .expired q → q.number ≠ f.number.toNat) →
        (y.slot = none → y.mark ≠ .invalidated f.number.toNat) → refused .noQuote []) ∧
      (y.slot = none → y.mark = .invalidated f.number.toNat → refused .serviceGone []) ∧
      (∀ q, y.slot = some q → q.number = f.number.toNat →
        closed ∧
        (s.sales.reasons = [] →
          (s.targetOnSale q.request = false → refused .serviceGone []) ∧
          (s.targetOnSale q.request = true → lastChecks q))) ∧
      ∀ q, y.slot = none → y.mark = .expired q → q.number = f.number.toNat →
        closed ∧
        (s.sales.reasons = [] →
          (s.computeFare q.request = .noSuch → refused .serviceGone []) ∧
          (s.computeFare q.request = .noFare → refused .fareChanged []) ∧
          ∀ x, s.computeFare q.request = .fare x →
            (s.targetOnSale q.request = false → refused .serviceGone []) ∧
            (s.targetOnSale q.request = true →
              (x.total ≠ q.fare.total → refused .fareChanged []) ∧
              (x.total = q.fare.total → lastChecks q))))

/-- VOID (R87): the port's own last sale, with a free entry, is voided in one step; without one, or with
another serial, nothing changes. -/
def Obligations.VoidCancelsLastSale : Prop :=
  ∀ p f s, s.admits p .void →
    (∀ l, (s.sales.ports.get p).lastSale = some l → l.serial = f.serial.toNat →
      (1 ≤ s.journal.free →
        ∃ u, exec (.void p (.fields f)) s = .next (settle (answered p ReqCode.void.byte 4 .done u)) ∧
          u.journal.entries = s.journal.entries ++ [newEntry (.void l.serial p) s] ∧
          u.counter .voided = s.counterPlus .voided 1 ∧ countsOnly [.voided] s u ∧
          u.sales.ports.get p = { s.sales.ports.get p with lastSale := none } ∧
          (∀ o, o ≠ p → u.sales.ports.get o = s.sales.ports.get o) ∧
          u.sales = { s.sales with reasons := u.sales.reasons, ports := u.sales.ports } ∧
          (2 ≤ s.journal.free → (.journalFull ∈ u.sales.reasons ↔
            .journalFull ∈ s.sales.reasons ∨ u.journal.free < 2)) ∧
          portsKeptButNotices s u ∧ changesOnly [.sales, .journal, .counters, .ports] s u) ∧
      (s.journal.free = 0 →
        exec (.void p (.fields f)) s =
          .next (settle (answered p ReqCode.void.byte 4 (.refuse .journalFull) s)))) ∧
    ((∀ l, (s.sales.ports.get p).lastSale = some l → l.serial ≠ f.serial.toNat) →
      exec (.void p (.fields f)) s =
        .next (settle (answered p ReqCode.void.byte 4 (.refuse .notVoidable) s)))

/-- LOAD_BEGIN opens a period of 20 s or extends it within its 60 s limit, and opens a new one when the limit timer
has ended (R173; that it then counts the old one's LOAD_OVERRUNS where its timeout has not come is log 28);
LOAD_END ends it with no count, and the end timer's expiry counts LOAD_OVERRUNS (R174). STATUS gives an open period's begin second and its end second, which is now plus
the time left on the end timer, modulo 86400 (8.3; log 26). -/
def Obligations.LoadPeriodsOpenAndEnd : Prop :=
  (∀ p s, s.admits p .loadBegin →
    (s.supply.load = none →
      exec (.loadBegin p (.fields {})) s =
        .next (settle (answered p ReqCode.loadBegin.byte 0
          (.okWith [BitVec.ofNat 8 s.supply.state.code, 20])
          (setSupply { s.supply with load := some ⟨s.clock.second, 20, 60⟩ } s)))) ∧
    (∀ l, s.supply.load = some l → l.limitTimer = 0 →
      ∃ u, exec (.loadBegin p (.fields {})) s =
          .next (settle (answered p ReqCode.loadBegin.byte 0
            (.okWith [BitVec.ofNat 8 s.supply.state.code, 20]) u)) ∧
        u.supply = { s.supply with load := some ⟨s.clock.second, 20, 60⟩ } ∧
        u.counter .loadOverruns = s.counterPlus .loadOverruns 1 ∧
        countsOnly [.loadOverruns] s u ∧ changesOnly [.supply, .counters] s u) ∧
    ∀ l, s.supply.load = some l → l.limitTimer ≠ 0 →
      let left := min 20 l.limitTimer
      exec (.loadBegin p (.fields {})) s =
        .next (settle (answered p ReqCode.loadBegin.byte 0
          (.okWith [BitVec.ofNat 8 s.supply.state.code, BitVec.ofNat 8 left])
          (setSupply
            { s.supply with
              load := some { l with endTimer := left } }
            s)))) ∧
  (∀ p s, s.admits p .loadEnd →
    exec (.loadEnd p (.fields {})) s =
      .next (settle (answered p ReqCode.loadEnd.byte 0
        (.okWith [BitVec.ofNat 8 s.supply.state.code, if s.supply.load = none then 0 else 1])
        (setSupply { s.supply with load := none } s)))) ∧
  (∀ s l, s.core = .up → s.supply.load = some l → l.endTimer = 0 →
    ∃ u, exec .loadPeriodTimeout s = .next (settle u) ∧ u.supply = { s.supply with load := none } ∧
      u.counter .loadOverruns = s.counterPlus .loadOverruns 1 ∧
      countsOnly [.loadOverruns] s u ∧ changesOnly [.supply, .counters] s u) ∧
  ∀ p f s l, s.admits p .status → statusSectionOf f.statusSection = some .supply →
    s.supply.load = some l →
    ∃ monitor, monitor.length = 10 ∧
      exec (.status p (.fields f)) s =
        .next (settle (answered p ReqCode.status.byte 1
          (.okWith (monitor ++ num1 1 ++ num 3 l.beginSecond ++
            num 3 ((s.clock.second + l.endTimer) % 86400))) s))

/-- STOCK_ADD (R89, R90): the checks in their order, with the first serial aligned up and the last down to
hundreds; an accepted block of at most 100,000 serials joins the list, moves the horizon, removes
STOCK_EMPTY and clears the low mark when 200 serials remain. The reply's layout is the model's reading
(log 14). -/
def Obligations.StockAddAcceptsBlock : Prop :=
  ∀ p f s, s.admits p .stockAdd →
    let a := (f.first.toNat + 99) / 100 * 100
    let z := (f.last.toNat + 1) / 100 * 100 - 1
    let refused := fun r => exec (.stockAdd p (.fields f)) s =
      .next (settle (answered p ReqCode.stockAdd.byte 8 (.refuse r) s))
    (f.first.toNat = 0 ∨ 99999999 < f.first.toNat ∨ f.last.toNat = 0 ∨ 99999999 < f.last.toNat ∨
      z < a → refused .badRange) ∧
    (1 ≤ f.first.toNat → f.first.toNat ≤ 99999999 → 1 ≤ f.last.toNat → f.last.toNat ≤ 99999999 →
      a ≤ z →
      (a ≤ s.sales.horizon → refused .overlap) ∧
      (s.sales.horizon < a → 4 ≤ s.sales.blocks.length → refused .stockFull) ∧
      (s.sales.horizon < a → s.sales.blocks.length < 4 →
        let b : StockBlock := { first := a, last := min z (a + 99999), next := a }
        ∃ u, exec (.stockAdd p (.fields f)) s =
            .next (settle (answered p ReqCode.stockAdd.byte 8
              (.okWith (num 4 b.first ++ num 4 b.last ++ num 4 u.sales.remaining)) u)) ∧
          u.sales.blocks = s.sales.blocks ++ [b] ∧ u.sales.horizon = b.last ∧
          u.sales.remaining = s.sales.remaining + (b.last + 1 - a) ∧
          (∀ r, r ∈ u.sales.reasons ↔ r ∈ s.sales.reasons ∧ r ≠ .stockEmpty) ∧
          u.sales.lowMark = (s.sales.lowMark && decide (u.sales.remaining < 200)) ∧
          u.sales.ports = s.sales.ports ∧ u.sales.silence = s.sales.silence ∧
          u.sales.silent = s.sales.silent ∧ portsKeptButNotices s u ∧
          changesOnly [.sales, .ports] s u))

/-- RVL_WRITE stores or clears one entry and RVL_CLEAR_ALL clears all 64 (R95); no quote is touched. -/
def Obligations.RvlWritesStoreEntries : Prop :=
  (∀ p f s, s.admits p .rvlWrite →
    let i := f.index.toNat
    let stores := fun (e : Option RvlEntry) =>
      ∃ u, exec (.rvlWrite p (.fields f)) s =
          .next (settle (answered p ReqCode.rvlWrite.byte 8 (.okWith (rvlBytes i e)) u)) ∧
        u.revoked[i]? = some e ∧ (∀ j : Nat, j ≠ i → u.revoked[j]? = s.revoked[j]?) ∧
        changesOnly [.revoked] s u
    (63 < i ∨ flagOf f.valid = none →
      exec (.rvlWrite p (.fields f)) s =
        .next (settle (answered p ReqCode.rvlWrite.byte 8 (.refuse .badRequest) s))) ∧
    (i ≤ 63 → flagOf f.valid = some false → stores none) ∧
    (i ≤ 63 → flagOf f.valid = some true → stores (some ⟨f.card.toNat, min f.ignore.toNat 16⟩))) ∧
  ∀ p s, s.admits p .rvlClearAll →
    ∃ u, exec (.rvlClearAll p (.fields {})) s =
        .next (settle (answered p ReqCode.rvlClearAll.byte 0 .done u)) ∧
      (∀ e ∈ u.revoked.toList, e = none) ∧ changesOnly [.revoked] s u

/-- SALES_SUSPEND and SALES_RESUME (R72): from the service port they add and remove SUSPENDED, with
SALES_STATE noticed when the set changes (R69); from another port they are refused. The reply's layout is the
model's reading (log 14). -/
def Obligations.SuspendAndResumeSales : Prop :=
  (∀ p s, p ≠ .service →
    (s.admits p .salesSuspend → exec (.salesSuspend p (.fields {})) s =
      .next (settle (answered p ReqCode.salesSuspend.byte 0 (.refuse .notPermitted) s))) ∧
    (s.admits p .salesResume → exec (.salesResume p (.fields {})) s =
      .next (settle (answered p ReqCode.salesResume.byte 0 (.refuse .notPermitted) s)))) ∧
  ∀ s, s.admits .service .salesSuspend → s.sales.reasons.Sublist Reason.all →
    ∃ u v, exec (.salesSuspend .service (.fields {})) s =
        .next (settle (answered .service ReqCode.salesSuspend.byte 0
          (.okWith (num1 (setBits Reason.all u.sales.reasons))) u)) ∧
      exec (.salesResume .service (.fields {})) s =
        .next (settle (answered .service ReqCode.salesResume.byte 0
          (.okWith (num1 (setBits Reason.all v.sales.reasons))) v)) ∧
      (∀ r, r ∈ u.sales.reasons ↔ r ∈ s.sales.reasons ∨ r = .suspended) ∧
      (∀ r, r ∈ v.sales.reasons ↔ r ∈ s.sales.reasons ∧ r ≠ .suspended) ∧
      (.suspended ∈ s.sales.reasons → u = s) ∧ (.suspended ∉ s.sales.reasons → v = s) ∧
      (.suspended ∉ s.sales.reasons →
        u.hasNotice .terminal .salesState ∧ u.hasNotice .service .salesState) ∧
      (.suspended ∈ s.sales.reasons →
        v.hasNotice .terminal .salesState ∧ v.hasNotice .service .salesState) ∧
      salesKeptButReasons s u ∧ salesKeptButReasons s v ∧ portsKeptButNotices s u ∧
      portsKeptButNotices s v ∧ changesOnly [.sales, .ports] s u ∧ changesOnly [.sales, .ports] s v

/-- The sales timers, each at 0 seconds left (log 3): a quote expires into the EXPIRED mark (R77), a void window
closes (R86), and the terminal port falls silent (R73). -/
def Obligations.SalesTimersExpire : Prop :=
  ∀ s, s.core = .up →
    (∀ p q, (s.sales.ports.get p).slot = some q → q.timer = 0 →
      ∃ u, exec (.quoteExpiry p) s = .next (settle u) ∧
        u.sales.ports.get p = { s.sales.ports.get p with slot := none, mark := .expired q } ∧
        (∀ o, o ≠ p → u.sales.ports.get o = s.sales.ports.get o) ∧
        u.sales = { s.sales with ports := u.sales.ports } ∧ changesOnly [.sales] s u) ∧
    (∀ p l, (s.sales.ports.get p).lastSale = some l → l.window = 0 →
      ∃ u, exec (.voidWindowExpiry p) s = .next (settle u) ∧
      u.sales.ports.get p = { s.sales.ports.get p with lastSale := none } ∧
      (∀ o, o ≠ p → u.sales.ports.get o = s.sales.ports.get o) ∧
      u.sales = { s.sales with ports := u.sales.ports } ∧ changesOnly [.sales] s u) ∧
    (s.sales.silence = some 0 →
      exec .terminalSilenceExpiry s =
        .next (settle { s with sales := { s.sales with silence := none, silent := true } }))

/-! ## The journal and the upload scheduler (chapter 5) -/

/-- BATCH_TAKE: the checks in their order (R106, R114), then the greatest number of oldest entries that meets
the count, the list and the room of one reply goes IN_FLIGHT under the next batch id for 300 s (R105,
R107, R205). -/
def Obligations.BatchTakeMarksOldest : Prop :=
  ∀ p f s, s.admits p .batchTake →
    let m := f.maximum.toNat
    let refused := fun r => exec (.batchTake p (.fields f)) s =
      .next (settle (answered p ReqCode.batchTake.byte 1 (.refuse r) s))
    (m = 0 ∨ 32 < m → refused .badRequest) ∧
    (1 ≤ m → m ≤ 32 →
      (s.journal.batch.isSome = true → refused .busy) ∧
      (s.journal.batch = none →
        ((∀ e ∈ s.journal.entries, e.state = .inFlight) → refused .nothingToSend) ∧
        ((∃ e ∈ s.journal.entries, e.state = .unsent) →
          (p = .link → s.scheduler.state ≠ .due → s.journal.entries.length < 1536 →
            refused .notDue) ∧
          (p ≠ .link ∨ s.scheduler.state = .due ∨ 1536 ≤ s.journal.entries.length →
            s.journal.ok →
            ∃ u n e, s.journal.entries.head? = some e ∧
              (let taken := s.journal.entries.take n
               exec (.batchTake p (.fields f)) s =
                .next (settle (answered p ReqCode.batchTake.byte 1
                  (.okWith (num 2 s.journal.nextBatch ++ num 4 e.sequence ++ num1 n ++
                    taken.flatMap Entry.bytes)) u)) ∧
               1 ≤ n ∧ n ≤ m ∧ n ≤ s.journal.entries.length ∧
               (taken.flatMap Entry.bytes).length ≤ 245 ∧
               (n < m → n < s.journal.entries.length →
                245 < ((s.journal.entries.take (n + 1)).flatMap Entry.bytes).length) ∧
               u.journal =
                { s.journal with
                  entries := taken.map (Entry.as .inFlight) ++ s.journal.entries.drop n
                  nextBatch := if s.journal.nextBatch = 65535 then 1 else s.journal.nextBatch + 1
                  batch := some ⟨s.journal.nextBatch, p, e.sequence, n, s.clock.second, 300⟩ } ∧
               changesOnly [.journal] s u)))))

/-- BATCH_ACK (R108): the batch's entries leave the oldest end, a link batch sets the scheduler to DUE (R117),
and JOURNAL_FULL goes when the free count reaches 2; a stale one changes nothing (R110). -/
def Obligations.BatchAckRemovesEntries : Prop :=
  ∀ p f s, s.admits p .batchAck →
    (f.id.toNat = 0 → exec (.batchAck p (.fields f)) s =
      .next (settle (answered p ReqCode.batchAck.byte 2 (.refuse .badRequest) s))) ∧
    (f.id.toNat ≠ 0 →
      ((∀ b, s.journal.batch = some b → b.id ≠ f.id.toNat ∨ b.holder ≠ p) →
        exec (.batchAck p (.fields f)) s =
          .next (settle (answered p ReqCode.batchAck.byte 2 (.refuse .staleBatch) s))) ∧
      ∀ b, s.journal.batch = some b → b.id = f.id.toNat → b.holder = p →
        let left := s.journal.entries.drop b.count
        ∃ u, exec (.batchAck p (.fields f)) s =
            .next (settle (answered p ReqCode.batchAck.byte 2 (.okWith (ackBytes b left)) u)) ∧
          u.journal = { s.journal with entries := left, batch := none } ∧
          u.counter .batchesAcked = s.counterPlus .batchesAcked 1 ∧
          countsOnly [.batchesAcked] s u ∧
          u.scheduler =
            (if p = .link then
              { state := .due, failures := 0, wait := none, dueSecond := none }
            else s.scheduler) ∧
          (s.journal.free < 2 → 2 ≤ u.journal.free →
            ∀ r, r ∈ u.sales.reasons ↔ r ∈ s.sales.reasons ∧ r ≠ .journalFull) ∧
          (2 ≤ s.journal.free ∨ u.journal.free < 2 → u.sales = s.sales) ∧
          (u.linkReady = true → u.hasNotice .link .uploadDue) ∧
          salesKeptButReasons s u ∧ portsKeptButNotices s u ∧
          changesOnly [.sales, .journal, .scheduler, .counters, .ports] s u)

/-- BATCH_FAIL (R109) and the batch timeout (R111): every entry is UNSENT again in its place, a link batch
tells the scheduler of a failure (R115), whose draw is a free value in its range, and UPLOAD_DUE follows
readiness (R121). With no batch in flight BATCH_FAIL is stale (R110), and a timeout does nothing, which is the
model's choice (log 3). -/
def Obligations.BatchFailReturnsEntries : Prop :=
  (∀ s, s.journal.batch = none →
    (∀ p f, s.admits p .batchFail →
      exec (.batchFail p (.fields f)) s =
        .next (settle (answered p ReqCode.batchFail.byte 2
          (.refuse (if f.id.toNat = 0 then .badRequest else .staleBatch)) s))) ∧
    exec .batchTimeout s = .next (settle s)) ∧
  ∀ s b, s.journal.batch = some b →
    let failed := fun (p : Port) (timedOut : Bool) (u : State) =>
      u.journal =
          { s.journal with entries := s.journal.entries.map (Entry.as .unsent), batch := none } ∧
        u.counter .batchesFailed = s.counterPlus .batchesFailed 1 ∧ countsOnly [.batchesFailed] s u ∧
        (p ≠ .link → u.scheduler = s.scheduler ∧ u.draws = s.draws) ∧
        (p = .link →
          let n := min (s.scheduler.failures + 1) 16
          (n = 16 → u.draws = s.draws ∧
            u.scheduler = { state := .held, failures := 16, wait := none, dueSecond := none }) ∧
          (n < 16 → u.draws = s.draws + 1 ∧ ∃ r, r < 2 ^ min n 10 ∧
            (r = 0 →
              u.scheduler = { state := .due, failures := n, wait := none, dueSecond := none }) ∧
            (1 ≤ r → u.scheduler =
              { state := .waiting, failures := n, wait := some (r * 30)
                dueSecond := some ((s.clock.second + r * 30) % 86400) }))) ∧
        (∀ q k, u.hasNotice q k ↔
          s.hasNotice q k ∨ (q = .link ∧ k = .uploadDue ∧ u.linkReady = true) ∨
            (timedOut = true ∧ q = p ∧ k = .batchTimedOut)) ∧
        portsKeptButNotices s u ∧ changesOnly [.journal, .scheduler, .counters, .ports, .draws] s u
    (∀ p f, s.admits p .batchFail →
      (f.id.toNat = 0 → exec (.batchFail p (.fields f)) s =
        .next (settle (answered p ReqCode.batchFail.byte 2 (.refuse .badRequest) s))) ∧
      (f.id.toNat ≠ 0 → b.id ≠ f.id.toNat ∨ b.holder ≠ p →
        exec (.batchFail p (.fields f)) s =
          .next (settle (answered p ReqCode.batchFail.byte 2 (.refuse .staleBatch) s))) ∧
      (f.id.toNat ≠ 0 → b.id = f.id.toNat → b.holder = p →
        ∃ u, exec (.batchFail p (.fields f)) s =
          .next (settle (answered p ReqCode.batchFail.byte 2 .done u)) ∧ failed p false u)) ∧
    (s.core = .up → b.timer = 0 →
      ∃ u, exec .batchTimeout s = .next (settle u) ∧ failed b.holder true u)

/-- LINK_RESUME (R119), from the link port alone, and the wait timer's expiry (R116) set the scheduler to DUE;
UPLOAD_DUE follows readiness (R120, R121). -/
def Obligations.ResumeAndWaitSetDue : Prop :=
  (∀ p s, s.admits p .linkResume →
    (p ≠ .link → exec (.linkResume p (.fields {})) s =
      .next (settle (answered p ReqCode.linkResume.byte 0 (.refuse .notPermitted) s))) ∧
    (p = .link → ∃ u, exec (.linkResume p (.fields {})) s =
        .next (settle (answered p ReqCode.linkResume.byte 0 (.okWith [0, 0]) u)) ∧
      u.scheduler = { state := .due, failures := 0, wait := none, dueSecond := none } ∧
      (∀ q k, u.hasNotice q k ↔ s.hasNotice q k ∨
        (q = .link ∧ k = .uploadDue ∧ s.linkReady = false ∧ u.linkReady = true)) ∧
      portsKeptButNotices s u ∧ changesOnly [.scheduler, .ports] s u)) ∧
  ∀ s, s.core = .up → s.scheduler.wait = some 0 →
    ∃ u, exec .waitExpiry s = .next (settle u) ∧
      u.scheduler =
        { state := .due, failures := s.scheduler.failures, wait := none, dueSecond := none } ∧
      (∀ q k, u.hasNotice q k ↔ s.hasNotice q k ∨
        (q = .link ∧ k = .uploadDue ∧ s.linkReady = false ∧ u.linkReady = true)) ∧
      portsKeptButNotices s u ∧ changesOnly [.scheduler, .ports] s u

/-! ## The display (chapters 6 and 7) -/

/-- PANEL_CONFIG, both forms, from the service port alone (R125, R126): a panel is configured AWAKE with the
command that follows the group, its settings are changed, or it is unconfigured with its settings kept;
the group form clamps the sleep-after setting. That the port is tested before the fields is the model's reading
(log 16). -/
def Obligations.PanelConfigSetsRecord : Prop :=
  (∀ p s, p ≠ .service → s.admits p .panelConfig →
    (∀ f, exec (.panelConfig p (.fields f)) s =
      .next (settle (answered p ReqCode.panelConfig.byte 5 (.refuse .notPermitted) s))) ∧
    ∀ f, exec (.panelConfigGroup p f) s =
      .next (settle (answered p ReqCode.panelConfig.byte 5 (.refuse .notPermitted) s))) ∧
  (∀ f s, s.admits .service .panelConfig →
    let run := exec (.panelConfig .service (.fields f)) s
    let refused := run = .next (settle (answered .service ReqCode.panelConfig.byte 5 (.refuse .badRequest) s))
    (f.address.toNat = 0 ∨ 8 < f.address.toNat ∨ flagOf f.configured = none → refused) ∧
    ∀ i : Fin 8, f.address.toNat = i.val + 1 →
      let r := s.panel i
      let stores := fun (x : Panel) =>
        ∃ u, run = .next (settle (answered .service ReqCode.panelConfig.byte 5 (.okWith (panelBytes x)) u)) ∧
          u.panel i = x ∧ (∀ j, j ≠ i → u.panel j = s.panel j) ∧
          u.compositor = { s.compositor with panels := u.compositor.panels } ∧
          changesOnly [.compositor] s u
      (flagOf f.configured = some false → r.configured = false → stores r) ∧
      (flagOf f.configured = some false → r.configured = true →
        stores
          { configured := false, directions := r.directions, rows := r.rows
            brightness := r.brightness, state := .unconfigured, misses := 0, lastStatus := .ok
            pending := .none }) ∧
      (flagOf f.configured = some true →
        (panelDirectionsOf f.directions = none ∨ f.rows.toNat = 0 ∨ 4 < f.rows.toNat → refused) ∧
        ∀ d, panelDirectionsOf f.directions = some d → 1 ≤ f.rows.toNat → f.rows.toNat ≤ 4 →
          (r.configured = true →
            stores
              { r with directions := d, rows := f.rows.toNat, brightness := min f.brightness.toNat 7 }) ∧
          (r.configured = false →
            stores
              { configured := true, directions := d, rows := f.rows.toNat
                brightness := min f.brightness.toNat 7, state := .awake, misses := 0
                lastStatus := .ok
                pending := if s.compositor.group = .awake then .wake else .sleep }))) ∧
  ∀ f s, s.admits .service .panelConfig →
    let u : State :=
      { s with compositor :=
        { s.compositor with sleepAfter := max 1 (min 60 f.sleepAfter.toNat) } }
    exec (.panelConfigGroup .service f) s =
      .next (settle (answered .service ReqCode.panelConfig.byte 5
        (.okWith (num1 u.compositor.sleepAfter ++ num1 u.sleepAfterInForce)) u))

/-- A presence edge starts the idle timer afresh and wakes a sleeping group (R134, R137); the timer's expiry
puts an AWAKE group to sleep when TODAY has no horizon call (R135), and each panel's pending command follows
(R138). A timer that has not run out does not expire, so after an edge taken first the expiry does not happen
(R137; the whole seconds are log 2). -/
def Obligations.PresenceWakesAndSleepsGroup : Prop :=
  ∀ s, s.core = .up →
    (∀ level, s.compositor.presenceSeen = false ∨ s.compositor.occupied = level →
      exec (.presenceEdge level) s = .next (settle s)) ∧
    (∀ level, s.compositor.presenceSeen = true → s.compositor.occupied ≠ level →
      ∃ u, exec (.presenceEdge level) s = .next (settle u) ∧
        u.compositor =
          { s.compositor with
            occupied := level, idle := some (60 * s.sleepAfterInForce), group := .awake
            panels := u.compositor.panels } ∧
        (∀ i, u.panel i =
          if s.compositor.group = .asleep ∧ (s.panel i).state = .asleep then
            { s.panel i with pending := .wake }
          else if s.compositor.group = .asleep ∧ (s.panel i).state = .awake then
            { s.panel i with pending := .none }
          else s.panel i) ∧
        (1 ≤ s.compositor.sleepAfter → exec .presenceIdleExpiry u = .next (settle u)) ∧
        changesOnly [.compositor] s u) ∧
    (s.compositor.idle ≠ some 0 → exec .presenceIdleExpiry s = .next (settle s)) ∧
    (s.compositor.idle = some 0 →
      let horizon := ∃ c ∈ callsOf s.store.today, c.removed = false ∧
        c.expected ≤ s.clock.second / 60 + 15
      (s.compositor.group = .asleep ∨ horizon →
        exec .presenceIdleExpiry s =
          .next (settle { s with compositor := { s.compositor with idle := none } })) ∧
      (s.compositor.group = .awake → ¬ horizon →
        ∃ u, exec .presenceIdleExpiry s = .next (settle u) ∧
          u.compositor =
            { s.compositor with idle := none, group := .asleep, panels := u.compositor.panels } ∧
          (∀ i, u.panel i =
            if (s.panel i).state = .awake then { s.panel i with pending := .sleep }
            else if (s.panel i).state = .asleep then { s.panel i with pending := .none }
            else s.panel i) ∧
          changesOnly [.compositor] s u))

/-- START and STOP give OK in every state with the display summary of 10 bytes (R146, R163, R164): START
leaves STOPPED with the run mark and frames remaining loaded and raises a frame start in INTERVAL pacing,
composed with the request's own frame heard (R73), and with an interval in force of 0 the frames that follow an
empty one at once (R149, R155);
STOP acts at once with no transaction in progress and by the stop mark otherwise. That a transaction counts as in
progress from its line test on, the wait for a low clock line included, is the model's choice (log 5), and so is that
STOPPED leaves the stop mark clear (log 33). -/
def Obligations.StartAndStopDisplay : Prop :=
  (∀ s : State, s.displaySummary.length = 10) ∧
  (∀ p line s, s.admits p .displayControl →
    let gives := fun (u : State) => exec (.displayStart p line) s =
      .next (settleAt line (answered p ReqCode.displayControl.byte 4 { result := .ok, body := u.displaySummary } u))
    let started : DisplayBus :=
      { s.bus with
        state := .idle, runMark := true, firstEdge := true
        remaining := if s.bus.countSetting = 0 then none else some s.bus.countSetting }
    (s.bus.state = .idle ∨ s.bus.state = .fault → gives s) ∧
    (s.bus.state = .running ∨ (∃ k, s.bus.state = .recovering k) →
      gives { s with bus := { s.bus with stopMark := false } }) ∧
    (s.bus.state = .stopped → s.bus.pacing = .trigger → gives { s with bus := started }) ∧
    (s.bus.state = .stopped → s.bus.pacing = .interval → s.intervalInForce = 0 →
      gives (settleAt line (beginFrame line { hear p 6 s with bus := started }))) ∧
    (s.bus.state = .stopped → s.bus.pacing = .interval → s.intervalInForce ≠ 0 →
      gives (beginFrame line
        { hear p 6 s with bus := { started with frameTimer := some s.intervalInForce } }))) ∧
  ∀ p s, s.admits p .displayControl →
    let gives := fun (u : State) => exec (.displayStop p) s =
      .next (settle (answered p ReqCode.displayControl.byte 4 { result := .ok, body := u.displaySummary } u))
    let stopped : State :=
      { s with bus :=
        { s.bus with
          state := .stopped, cause := none, runMark := false, stopMark := false, frameTimer := none
          list := [], position := 0, startDue := false } }
    (s.bus.state = .stopped → gives s) ∧
    (s.bus.state = .idle ∨ s.bus.state = .fault ∨
      (s.bus.state = .running ∧ s.inProgress = none) → gives stopped) ∧
    ((s.bus.state = .running ∧ s.inProgress.isSome = true) ∨ (∃ k, s.bus.state = .recovering k) →
      gives { s with bus := { s.bus with stopMark := true } })

/-- RECOVER, FRAME_COUNT and AUTO_RECOVERY (R146, R156, R161): the first two from the service port alone; a
RECOVER is refused outside FAULT and while the clock line is low. That the port is tested before the state is
the model's reading (log 16), as is the cause that stands through a MANUAL recovery (log 23). -/
def Obligations.RecoverCountAndAutoRecovery : Prop :=
  ∀ p s, s.admits p .displayControl →
    let answer := fun (r : Result) (u : State) => (Host.Outcome.next
      (settle (answered p ReqCode.displayControl.byte 4 { result := r, body := u.displaySummary } u)) : Outcome)
    (p ≠ .service →
      (∀ line, exec (.displayRecover p line) s = answer .notPermitted s) ∧
      ∀ f, exec (.displayFrameCount p f) s = answer .notPermitted s) ∧
    (p = .service →
      (s.bus.state ≠ .fault → ∀ line, exec (.displayRecover p line) s = answer .badSequence s) ∧
      (s.bus.state = .fault →
        exec (.displayRecover p .low) s = answer .lineHeld s ∧
        ∃ u, exec (.displayRecover p .released) s = answer .ok u ∧
          u.bus = { s.bus with state := .recovering .manual } ∧
          u.counter .busRecoveries = s.counterPlus .busRecoveries 1 ∧
          countsOnly [.busRecoveries] s u ∧ changesOnly [.bus, .counters] s u) ∧
      ∀ f, exec (.displayFrameCount p f) s = answer .ok
        { s with bus :=
          { s.bus with
            countSetting := f.count.toNat
            remaining := if f.count.toNat = 0 then none else some f.count.toNat } }) ∧
    ∀ f, (flagOf f.setting = none →
        exec (.displayAutoRecovery p (.fields f)) s = answer .badRequest s) ∧
      ∀ on, flagOf f.setting = some on →
        exec (.displayAutoRecovery p (.fields f)) s =
          answer .ok { s with bus := { s.bus with autoRecovery := on } }

/-- PACING (R147, R148): unknown settings are refused; else the three settings are stored, the interval at
most 60, and the frame timer is handled for the new pacing and interval in force. A frame it begins is
composed with the request's own frame heard (R73). -/
def Obligations.PacingHandlesTimer : Prop :=
  ∀ p f line s, s.admits p .displayControl →
    let gives := fun (r : Result) (u : State) => exec (.displayPacing p f line) s =
      .next (settleAt line (answered p ReqCode.displayControl.byte 4 { result := r, body := u.displaySummary } u))
    (pacingOf f.pacing = none ∨ polarityOf f.polarity = none → gives .badRequest s) ∧
    ∀ pc po, pacingOf f.pacing = some pc → polarityOf f.polarity = some po →
      let b : DisplayBus :=
        { s.bus with pacing := pc, polarity := po, interval := min f.interval.toNat 60 }
      let old := s.intervalInForce
      let new := intervalFor (min f.interval.toNat 60) s.supply.state
      (pc = .trigger → s.bus.pacing = .trigger → gives .ok { s with bus := b }) ∧
      (pc = .trigger → s.bus.pacing = .interval →
        gives .ok { s with bus := { b with frameTimer := none, startDue := false } }) ∧
      (pc = .interval → s.bus.state = .stopped → gives .ok { s with bus := b }) ∧
      (pc = .interval → s.bus.state ≠ .stopped → new ≠ 0 → s.bus.pacing = .trigger →
        gives .ok { s with bus := { b with frameTimer := some new } }) ∧
      (pc = .interval → s.bus.state ≠ .stopped → new ≠ 0 → s.bus.pacing = .interval → old = 0 →
        gives .ok { s with bus := { b with frameTimer := some new, startDue := false } }) ∧
      (pc = .interval → s.bus.state ≠ .stopped → s.bus.pacing = .interval → (new = 0 ↔ old = 0) →
        gives .ok (settleAt line { hear p 6 s with bus := b })) ∧
      (pc = .interval → s.bus.state = .idle → new = 0 → s.bus.pacing = .trigger →
        gives .ok (settleAt line (beginFrame line { hear p 6 s with bus := b }))) ∧
      (pc = .interval → s.bus.state = .idle → new = 0 → s.bus.pacing = .interval → old ≠ 0 →
        gives .ok (settleAt line
          (beginFrame line { hear p 6 s with bus := { b with frameTimer := none } }))) ∧
      (pc = .interval → s.bus.state ≠ .idle → s.bus.state ≠ .stopped → new = 0 →
        (s.bus.pacing = .trigger → gives .ok { s with bus := b }) ∧
        (s.bus.pacing = .interval → old ≠ 0 →
          gives .ok { s with bus := { b with frameTimer := none } }))

/-- A frame start acts by the controller state (R151): it begins a frame in IDLE, is an overrun counted and
noticed in RUNNING and in an AUTO recovery, and is ignored elsewhere. The frame timer raises one at each
expiry and starts its next period (R149); a trigger edge raises one in TRIGGER pacing when the gate lets it
through (R147, R150); a probe timer only runs out (R153). That the expiry of a timer that does not run does
nothing is the model's choice (log 3). -/
def Obligations.FrameStartsActByState : Prop :=
  ∀ s, s.core = .up →
    let acts := fun (i : Instr) (line : DataLine) (v : State) =>
      (v.bus.state = .idle → exec i s = .next (settleAt line (beginFrame line v))) ∧
      (v.bus.state = .running ∨ v.bus.state = .recovering .auto →
        ∃ u, exec i s = .next (settleAt line u) ∧ u.bus = v.bus ∧
          u.counter .frameOverruns = s.counterPlus .frameOverruns 1 ∧
          countsOnly [.frameOverruns] s u ∧
          (∀ p k, u.hasNotice p k ↔ s.hasNotice p k ∨ (p = .service ∧ k = .displayOverrun)) ∧
          portsKeptButNotices s u ∧ changesOnly [.bus, .counters, .ports] s u) ∧
      (v.bus.state = .recovering .manual ∨ v.bus.state = .fault ∨ v.bus.state = .stopped →
        exec i s = .next (settleAt line v))
    (∀ line, s.bus.frameTimer = none → exec (.frameTimerExpiry line) s = .next (settleAt line s)) ∧
    (∀ line, s.bus.frameTimer = some 0 →
      acts (.frameTimerExpiry line) line
        { s with bus := { s.bus with frameTimer := some s.intervalInForce } }) ∧
    (∀ high line, s.bus.triggerSeen = false ∨ s.bus.triggerHigh = high →
      exec (.triggerEdge high line) s = .next (settleAt line s)) ∧
    (∀ high line, s.bus.triggerSeen = true → s.bus.triggerHigh ≠ high →
      let edge := s.bus.pacing = .trigger ∧ (high = true ↔ s.bus.polarity = .rising)
      let gate := s.bus.firstEdge = true ∨ s.supply.state = .normal ∨
        ∀ n, s.bus.sinceFrame = some n → s.intervalInForce ≤ n
      (¬ edge → exec (.triggerEdge high line) s =
        .next (settleAt line { s with bus := { s.bus with triggerHigh := high } })) ∧
      (edge → ¬ gate → exec (.triggerEdge high line) s =
        .next (settleAt line { s with bus := { s.bus with triggerHigh := high, firstEdge := false } })) ∧
      (edge → gate → acts (.triggerEdge high line) line
        { s with bus := { s.bus with triggerHigh := high, firstEdge := false } })) ∧
    ∀ i : Fin 8, s.bus.probes[i] = some 0 →
      ∃ u, exec (.probeTimerExpiry i) s = .next (settle u) ∧ u.bus.probes[i] = none ∧
      (∀ j : Fin 8, j ≠ i → u.bus.probes[j] = s.bus.probes[j]) ∧
      u.bus = { s.bus with probes := u.bus.probes } ∧ changesOnly [.bus] s u

/-- A frame begins (R152 to R157). Its content (R127 to R131): the message in force, for each panel the displayable
calls of its directions in the order of their keys with their statuses, the rows they fill, and the panel given
no row set in RESERVE behind a lower-addressed one; its list (R152): for each configured panel SLEEP or WAKE,
WRITE_ROWS, the routine READ_STATUS and the probe of a timer that is over, at 0 seconds left
whether its expiry has been taken or not (R153, log 3), of at most 24 transactions in address order. In the state
`begun` the compositor's message is set, the status cycle and the probe timers have moved on and the
auto-recovery-tried mark is clear; from it the first transaction is started with its line test (`lineTested`: R157,
R160), or an empty list completes the frame at once (`frameCompletes`: R155, R156), and nothing else changes.
With an interval in force of 0 a frame start is raised on entry to IDLE and taken at once (R149): `settle`
and `settleAt`, which end every command, do nothing where none is due; where one is, a frame begins, and another
after each empty one, until a list is not empty or a counted run ends. Empty frames with no end are the model's
choice (log 9): one at least completes, and how many more is a free value. That a run that ends STOPPED leaves the
stop mark clear is its choice too (log 33). -/
def Obligations.FrameBeginsWithList : Prop :=
  (∀ s line,
    let routine := decide (30 ≤ s.bus.cycle + 1)
    let list := s.buildList routine
    let u := beginFrame line s
    let now := s.clock.second / 60
    let shown := (callsOf s.store.today).filter (fun c => !c.removed)
    let overdue := fun c : Call => decide (c.state = .scheduled ∧ c.expected + 2 ≤ now)
    let key := fun c : Call =>
      if c.state = .departed then c.actual.getD 0 / 60 else if overdue c then now + 1 else c.expected
    let status := fun c : Call =>
      if c.state = .departed then RowStatus.departed
      else if c.state = .cancelled then .cancelled
      else if overdue c then .delayed
      else if c.scheduled + 2 ≤ c.expected then .expected (c.expected % 1440)
      else .onTime
    let row := fun c : Call => Row.call c.service c.direction c.destination c.scheduled (status c)
    let probed := fun i : Fin 8 =>
      (s.panel i).configured && decide ((s.panel i).state = .absent) &&
        decide (s.bus.probes[i] = none ∨ s.bus.probes[i] = some 0)
    let message : Option Message :=
      if s.clock.valid = false then some .timeUnknown
      else if s.store.today = none then some .noTimetable
      else if s.sales.reasons ≠ [] ∨ s.sales.silent = true then some .salesClosed
      else if shown = [] then some .noMoreTrains
      else none
    let entitled := fun i : Fin 8 =>
      decide ((s.panel i).state = .awake ∧ (s.panel i).pending ≠ .sleep)
    let given := fun i : Fin 8 =>
      entitled i && (decide (s.supply.state ≠ .reserve) || decide (∀ j, j < i → entitled j = false))
    let begun : State :=
      { s with
        compositor := { s.compositor with message := message }
        bus :=
          { s.bus with
            cycle := if routine then 0 else s.bus.cycle + 1, tried := false, list := list, position := 0
            probes := Vector.ofFn (fun i => if probed i then some 60 else s.bus.probes[i])
            sinceFrame := some 0, startDue := false } }
    s.messageNow = message ∧
    (∀ i : Fin 8,
      let r := s.panel i
      let serves := fun c : Call =>
        decide (r.directions = .both ∨ (r.directions = .up ∧ c.direction = .up) ∨
          (r.directions = .down ∧ c.direction = .down))
      ∃ (calls : List Call) (rows : List Row),
        calls.Perm (shown.filter serves) ∧
        calls.Pairwise (fun a b => key a < key b ∨ (key a = key b ∧
          (a.scheduled < b.scheduled ∨ (a.scheduled = b.scheduled ∧ a.service ≤ b.service)))) ∧
        (let filled := calls.map row ++ List.replicate r.rows .blank
         (2 ≤ r.rows → ∀ m, message = some m → rows = filled.take (r.rows - 1) ++ [.message m]) ∧
         (2 ≤ r.rows → message = none → rows = filled.take r.rows) ∧
         (r.rows ≤ 1 → ∀ c, calls.head? = some c → rows = [row c]) ∧
         (r.rows ≤ 1 → calls = [] → ∀ m, message = some m → rows = [.message m]) ∧
         (r.rows ≤ 1 → calls = [] → message = none → rows = [.blank])) ∧
        list.filter (fun t => decide (t.panel = i)) =
          if r.configured then
            (if r.pending = .sleep then [⟨i, .sleep⟩]
             else if r.pending = .wake then [⟨i, .wake⟩] else []) ++
            (if given i then
              [⟨i, .writeRows (min r.brightness (brightnessCap s.supply.state)) rows⟩] else []) ++
            (if routine = true ∧ (r.state = .awake ∨ r.state = .asleep) then [⟨i, .readStatus⟩]
             else []) ++
            (if probed i then [⟨i, .readStatus⟩] else [])
          else []) ∧
    list.length ≤ 24 ∧ list.Pairwise (fun a b => a.panel ≤ b.panel) ∧
    (∀ t ∈ list, (s.panel t.panel).configured = true) ∧
    (∀ t ∈ list, ∀ b rows, t.kind = .writeRows b rows →
      (s.panel t.panel).state = .awake ∧ (s.panel t.panel).pending ≠ .sleep ∧
        b ≤ brightnessCap s.supply.state ∧ rows.length = max 1 (s.panel t.panel).rows) ∧
    (list ≠ [] → lineTested line begun u) ∧ (list = [] → frameCompletes begun u)) ∧
  ∀ s,
    let due := s.core = .up ∧ s.bus.state = .idle ∧ s.bus.startDue = true ∧
      s.bus.pacing = .interval ∧ s.intervalInForce = 0
    (¬ due → settle s = s ∧ ∀ line, settleAt line s = s) ∧
    (due →
      (∃ line, settle s = settleAt line { s with draws := s.draws + 1 }) ∧
      ∀ line,
        (s.bus.remaining.isSome = true ∨ s.buildList true ≠ [] ∨ s.buildList false ≠ [] →
          settleAt line s = settleAt line (beginFrame line s)) ∧
        (s.bus.remaining = none → s.buildList true = [] → s.buildList false = [] →
          let u := settleAt line s
          ∃ more, u.counter .framesSent = s.counterPlus .framesSent (1 + more) ∧
            countsOnly [.framesSent] s u ∧
            u.compositor = { s.compositor with message := s.messageNow } ∧
            u.bus =
              { s.bus with
                cause := none, cycle := u.bus.cycle, tried := false, list := [], position := 0
                sinceFrame := some 0 } ∧
            u.bus.cycle < 30 ∧ u.draws = s.draws + 1 ∧
            changesOnly [.bus, .compositor, .counters, .draws] s u))

/-- A transaction's end reports its outcome to the panel's record (R139 to R141, R144, R206): that is the state `v`,
in which a status read has noticed PANEL_FAULT for a fault status other than the one held and in no other case
(R141), and a NO_ACK has counted a miss and started that panel's probe timer alone afresh (R140, R153). Then the
frame goes on from `v`: a stop mark stops the controller (R164); else it goes on from the next position
(`frameGoesOn`): a WRITE_ROWS to a panel no longer entitled is passed over (R133), the end of the list completes the
frame (R155), and the next transaction starts, or finds the data line low (R154, R157), with the settings, the
auto-recovery-tried mark and the rest of the controller as they were. A disturbed transaction changes no
record (R162). An end with no transaction in progress does nothing, which is the model's choice (log 3), and so is that
the stop mark is cleared when it is acted on (log 33). -/
def Obligations.TransactionEndsAndFrameGoesOn : Prop :=
  ∀ s, s.core = .up →
    (s.inProgress = none → ∀ e line,
      exec (.transactionEnd e line) s = .next (settleAt line s) ∧ exec (.busDisturbed line) s = .next (settleAt line s)) ∧
    ∀ t, s.inProgress = some t →
      let r := s.panel t.panel
      let asleep := s.compositor.group = .asleep
      let goesOn := fun (line : DataLine) (v u : State) =>
        (v.bus.stopMark = true → u = { v with bus :=
          { v.bus with
            state := .stopped, cause := none, runMark := false, stopMark := false, frameTimer := none
            list := [], position := 0, startDue := false } }) ∧
        (v.bus.stopMark = false → frameGoesOn line v u (v.bus.position + 1)) ∧
        changesOnly [.bus, .counters, .ports] v u
      (∀ st ck line, ∃ v u, exec (.transactionEnd (.done st ck) line) s = .next (settleAt line u) ∧
        (let status := if ck = ~~~st ∧ st = 0x00 then PanelStatus.ok
            else if ck = ~~~st ∧ st = 0x01 then .lampFault else .other
         (r.state = .unconfigured → v.panel t.panel = r) ∧
         (r.state ≠ .unconfigured →
          (t.kind = .sleep → v.panel t.panel =
            { r with misses := 0, state := .asleep, pending := if asleep then .none else .wake }) ∧
          (t.kind = .wake → v.panel t.panel =
            { r with misses := 0, state := .awake, pending := if asleep then .sleep else .none }) ∧
          (∀ b rows, t.kind = .writeRows b rows → v.panel t.panel = { r with misses := 0 }) ∧
          (t.kind = .readStatus →
            (r.state ≠ .absent → v.panel t.panel = { r with misses := 0, lastStatus := status }) ∧
            (r.state = .absent → v.panel t.panel =
              { r with
                misses := 0, lastStatus := status, state := .awake
                pending := if asleep then .sleep else .none }))) ∧
         postsOnly
          (fun p k => p = .service ∧ k = .panelFault ∧ t.kind = .readStatus ∧ r.state ≠ .unconfigured ∧
            status ≠ .ok ∧ status ≠ r.lastStatus) s v) ∧
        (∀ i, i ≠ t.panel → v.panel i = s.panel i) ∧
        v.compositor = { s.compositor with panels := v.compositor.panels } ∧
        changesOnly [.compositor, .ports] s v ∧ goesOn line v u) ∧
      (∀ line, ∃ v u, exec (.transactionEnd .noAck line) s = .next (settleAt line u) ∧
        (r.state = .unconfigured → v.panel t.panel = r ∧ v.counters = s.counters) ∧
        (r.state ≠ .unconfigured →
          v.counter .panelMisses = s.counterPlus .panelMisses 1 ∧ countsOnly [.panelMisses] s v ∧
          (r.misses ≤ 1 → v.panel t.panel = { r with misses := r.misses + 1 }) ∧
          (2 ≤ r.misses →
            v.panel t.panel = { r with misses := 3, state := .absent, pending := .none })) ∧
        (∀ i, i ≠ t.panel → v.panel i = s.panel i) ∧
        v.compositor = { s.compositor with panels := v.compositor.panels } ∧
        (∀ i : Fin 8, v.bus.probes[i] = if i = t.panel then some 60 else s.bus.probes[i]) ∧
        v.bus = { s.bus with probes := v.bus.probes } ∧
        changesOnly [.compositor, .bus, .counters] s v ∧ goesOn line v u) ∧
      ∀ line, ∃ u, exec (.busDisturbed line) s = .next (settleAt line u) ∧ goesOn line s u

/-- A stuck clock takes a RUNNING or RECOVERING controller to FAULT (R159, R160); a recovery sequence that ends
held goes to FAULT with STUCK_DATA; released, the stop mark is acted on, an AUTO one resumes its frame with the
line test of the transaction whose start failed (R158, `frameGoesOn`), the auto-recovery-tried mark and every setting
kept, so that a second stuck data in the frame is a FAULT, and a MANUAL one goes to IDLE with its
cause removed, where frames that run back to back raise the next start (R149, R161). An end of a recovery that
does not run does nothing, which is the model's choice (log 3), and so is that the stop mark is cleared when it is
acted on (log 33). -/
def Obligations.StuckClockAndRecoveryEnds : Prop :=
  ∀ s, s.core = .up →
    let faulted := fun (i : Instr) (c : FaultCause) =>
      ∃ u, exec i s = .next u ∧
        u.bus =
          { s.bus with
            state := .fault, cause := some c, stopMark := false, list := [], position := 0
            startDue := false } ∧
        (∀ p k, u.hasNotice p k ↔ s.hasNotice p k ∨ (p ≠ .terminal ∧ k = .panelBusFault)) ∧
        portsKeptButNotices s u ∧ changesOnly [.bus, .ports] s u
    let stopped : State :=
      { s with bus :=
        { s.bus with
          state := .stopped, cause := none, runMark := false, stopMark := false, frameTimer := none
          list := [], position := 0, startDue := false } }
    (s.bus.state = .running ∨ (∃ k, s.bus.state = .recovering k) → faulted .stuckClock .stuckClock) ∧
    (s.bus.state = .idle ∨ s.bus.state = .stopped ∨ s.bus.state = .fault →
      exec .stuckClock s = .next (settle s)) ∧
    (∀ line,
      (s.bus.state ≠ .recovering .auto →
        ∀ r, exec (.recoveryEndAuto r line) s = .next (settleAt line s)) ∧
      (s.bus.state ≠ .recovering .manual →
        ∀ r, exec (.recoveryEndManual r line) s = .next (settleAt line s)) ∧
      (s.bus.state = .recovering .auto →
        faulted (.recoveryEndAuto .held line) .stuckData ∧
        (s.bus.stopMark = true → exec (.recoveryEndAuto .released line) s = .next stopped) ∧
        (s.bus.stopMark = false → ∃ u, exec (.recoveryEndAuto .released line) s = .next (settleAt line u) ∧
          frameGoesOn line s u s.bus.position ∧
          changesOnly [.bus, .counters, .ports] s u)) ∧
      (s.bus.state = .recovering .manual →
        faulted (.recoveryEndManual .held line) .stuckData ∧
        (s.bus.stopMark = true → exec (.recoveryEndManual .released line) s = .next stopped) ∧
        (s.bus.stopMark = false →
          exec (.recoveryEndManual .released line) s =
            .next (settleAt line { s with bus :=
              { s.bus with
                state := .idle, cause := none, list := [], position := 0
                startDue := s.backToBack } }))))

/-! ## Supply (chapter 8) -/

/-- SUPPLY_LEVELS (R168): wrong levels change nothing; else both levels are stored, the three runs become 0,
and the supply state is kept. -/
def Obligations.SupplyLevelsStored : Prop :=
  ∀ p f s, s.admits p .supplyLevels →
    let e := f.economy.toNat
    let r := f.reserve.toNat
    (7 < e ∨ 7 < r ∨ e ≤ r →
      exec (.supplyLevels p (.fields f)) s =
        .next (settle (answered p ReqCode.supplyLevels.byte 2 (.refuse .badRequest) s))) ∧
    (e ≤ 7 → r < e →
      exec (.supplyLevels p (.fields f)) s =
        .next (settle (answered p ReqCode.supplyLevels.byte 2
          (.okWith (num1 e ++ num1 r ++ num1 (min (e + 1) 7) ++ num1 (r + 1) ++ num1 (r - 1) ++
            num1 s.supply.state.code))
          { s with supply :=
            { s.supply with
              economy := e, reserve := r, reserveRun := 0, economyRun := 0, upgradeRun := 0 } })))

/-- A sample stores its class and moves the runs (R167, R169, R170, R175); a run at its limit changes the
supply state (R171, R172) with all the effects of R176: the runs at 0, the reason with SALES_STATE, the SUPPLY
entry or its drop (R102), the notice on every port, the count of a downgrade, and the display's frame timer for
the new interval in force (R148). The voltage in whole millivolts is the model's choice (log 19). -/
def Obligations.SampleMovesSupplyState : Prop :=
  ∀ mv line s, s.core = .up →
    let x := s.supply
    let below := fun n => mv < 11000 + n * 200
    let reserve := if x.state = .reserve then 0
      else if x.load.isSome then
        (if below x.floor then x.reserveRun + 1 else x.reserveRun)
      else if below x.reserve then x.reserveRun + 1 else 0
    let economy := if x.state ≠ .normal then 0
      else if x.load.isSome then x.economyRun
      else if below x.economy then x.economyRun + 1 else 0
    let upgrade := if x.state = .normal then 0
      else if x.load.isSome then x.upgradeRun
      else if below (if x.state = .economy then x.economyRecovery else x.reserveRecovery) then 0
      else x.upgradeRun + 1
    let cls : SampleClass :=
      if mv < 11000 then .under else .level (min ((mv - 11000) / 200) 7)
    x.ok → x.sampleTimer = 0 →
    (reserve < 3 → economy < 3 → upgrade < 30 →
      exec (.sample mv line) s =
        .next (settleAt line { s with supply :=
          { x with
            lastClass := some cls, sampleTimer := 2, reserveRun := reserve, economyRun := economy
            upgradeRun := upgrade } })) ∧
    (3 ≤ reserve ∨ 3 ≤ economy ∨ 30 ≤ upgrade →
      let new := if 3 ≤ reserve then SupplyState.reserve
        else if 3 ≤ economy then .economy
        else if x.state = .reserve then .economy else .normal
      let old := s.intervalInForce
      let n := intervalFor s.bus.interval new
      ∃ v, v.supply =
          { x with
            state := new, lastClass := some cls, sampleTimer := 2, reserveRun := 0
            economyRun := 0, upgradeRun := 0 } ∧
        (.supplyReserve ∈ v.sales.reasons ↔
          new = .reserve ∨ (.supplyReserve ∈ s.sales.reasons ∧ x.state ≠ .reserve)) ∧
        (.journalFull ∈ v.sales.reasons ↔
          .journalFull ∈ s.sales.reasons ∨ (2 ≤ s.journal.free ∧ v.journal.free < 2)) ∧
        (∀ r, r ≠ .supplyReserve → r ≠ .journalFull →
          (r ∈ v.sales.reasons ↔ r ∈ s.sales.reasons)) ∧
        (v.sales.reasons ≠ s.sales.reasons →
          v.hasNotice .terminal .salesState ∧ v.hasNotice .service .salesState) ∧
        (3 ≤ s.journal.free →
          v.journal.entries = s.journal.entries ++ [newEntry (.supply new) s] ∧
          v.counter .journalDropped = s.counter .journalDropped) ∧
        (s.journal.free < 3 → v.journal = s.journal ∧
          v.counter .journalDropped = s.counterPlus .journalDropped 1) ∧
        (s.linkReady = false → v.linkReady = true → v.hasNotice .link .uploadDue) ∧
        (∀ p, v.hasNotice p .supplyChanged) ∧
        (3 ≤ reserve ∨ 3 ≤ economy →
          v.counter .supplyDowngrades = s.counterPlus .supplyDowngrades 1) ∧
        (reserve < 3 → economy < 3 →
          v.counter .supplyDowngrades = s.counter .supplyDowngrades) ∧
        countsOnly [.journalDropped, .supplyDowngrades] s v ∧
        salesKeptButReasons s v ∧ portsKeptButNotices s v ∧
        changesOnly [.supply, .sales, .journal, .counters, .ports] s v ∧
        (s.bus.pacing = .trigger ∨ s.bus.state = .stopped ∨ (old = 0 ↔ n = 0) →
          exec (.sample mv line) s = .next (settleAt line v)) ∧
        (s.bus.pacing = .interval → s.bus.state ≠ .stopped →
          (old = 0 → n ≠ 0 → exec (.sample mv line) s =
            .next { v with bus := { s.bus with frameTimer := some n, startDue := false } }) ∧
          (old ≠ 0 → n = 0 →
            let w : State := { v with bus := { s.bus with frameTimer := none } }
            (s.bus.state ≠ .idle → exec (.sample mv line) s = .next w) ∧
            (s.bus.state = .idle →
              exec (.sample mv line) s = .next (settleAt line (beginFrame line w))))))

/-! ## Rights, notices, resets, counters (chapters 9 and 10) -/

/-- READ_NOTICES gives the set as it stood and removes the kinds listed (R196); SET_RIGHTS, from the service
port alone, replaces one port's set and never takes CONFIG from the service port (R193, R194). -/
def Obligations.NoticesAndRightsSet : Prop :=
  (∀ p f s, s.admits p .readNotices →
    (8192 ≤ f.acknowledge.toNat →
      exec (.readNotices p (.fields f)) s =
        .next (settle (answered p ReqCode.readNotices.byte 2 (.refuse .badRequest) s))) ∧
    (f.acknowledge.toNat < 8192 →
      ∃ u, exec (.readNotices p (.fields f)) s =
          .next (settle (answered p ReqCode.readNotices.byte 2
            (.okWith (noticeBytes (s.ports.get p).notices)) u)) ∧
        (∀ i k, Notice.all[i]? = some k → (u.hasNotice p k ↔
          s.hasNotice p k ∧ f.acknowledge.toNat.testBit i = false)) ∧
        (∀ q, q ≠ p → u.ports.get q = s.ports.get q) ∧ portsKeptButNotices s u ∧
        changesOnly [.ports] s u)) ∧
  (∀ p f s, p ≠ .service → s.admits p .setRights →
    exec (.setRights p (.fields f)) s =
      .next (settle (answered p ReqCode.setRights.byte 2 (.refuse .notPermitted) s))) ∧
  ∀ f s, s.admits .service .setRights →
    (portOf f.port = none ∨ 64 ≤ f.rights.toNat ∨
        (portOf f.port = some .service ∧ f.rights.toNat.testBit 4 = false) →
      exec (.setRights .service (.fields f)) s =
        .next (settle (answered .service ReqCode.setRights.byte 2 (.refuse .badRequest) s))) ∧
    ∀ q, portOf f.port = some q → f.rights.toNat < 64 →
      (q = .service → f.rights.toNat.testBit 4 = true) →
      ∃ u, exec (.setRights .service (.fields f)) s =
          .next (settle (answered .service ReqCode.setRights.byte 2
            (.okWith (u.ports.toList.flatMap (fun c => rightsBytes c.rights))) u)) ∧
        (∀ i c, RightsClass.all[i]? = some c →
          (c ∈ (u.ports.get q).rights ↔ f.rights.toNat.testBit i = true)) ∧
        u.ports.get q = { s.ports.get q with rights := (u.ports.get q).rights } ∧
        (∀ o, o ≠ q → u.ports.get o = s.ports.get o) ∧ changesOnly [.ports] s u

/-- A port reset, by PORT_RESET from the service port or by the port's reset line (R197, R198), clears the
port's reply, overrun mark and notices, its quote, mark and last sale, its staging, its batch and, for the
terminal port, the load period; the line also holds the port until it goes inactive. -/
def Obligations.PortResetReleasesAll : Prop :=
  let reset := fun (p : Port) (cond : ResetCondition) (s u : State) =>
    (u.ports.get p).slot = none ∧ (u.ports.get p).overrun = false ∧
      (u.ports.get p).rights = (s.ports.get p).rights ∧ (u.ports.get p).condition = cond ∧
      (∀ k, u.hasNotice p k → p = .link ∧ k = .uploadDue) ∧
      (∀ q, q ≠ p → u.ports.get q =
        { s.ports.get q with notices := (u.ports.get q).notices }) ∧
      (∀ q k, q ≠ p → (u.hasNotice q k ↔ s.hasNotice q k ∨
        (q = .link ∧ k = .uploadDue ∧ s.linkReady = false ∧ u.linkReady = true))) ∧
      u.sales.ports.get p =
        { s.sales.ports.get p with slot := none, mark := .none, lastSale := none } ∧
      (∀ q, q ≠ p → u.sales.ports.get q = s.sales.ports.get q) ∧
      u.sales = { s.sales with ports := u.sales.ports } ∧
      (∀ g, s.store.staging = some g → g.holder = p → u.store = { s.store with staging := none }) ∧
      ((∀ g, s.store.staging = some g → g.holder ≠ p) → u.store = s.store) ∧
      (∀ b, s.journal.batch = some b → b.holder = p → u.journal =
        { s.journal with entries := s.journal.entries.map (Entry.as .unsent), batch := none }) ∧
      ((∀ b, s.journal.batch = some b → b.holder ≠ p) → u.journal = s.journal) ∧
      (s.linkReady = false → u.linkReady = true → u.hasNotice .link .uploadDue) ∧
      u.supply = (if p = .terminal then { s.supply with load := none } else s.supply) ∧
      changesOnly [.store, .sales, .journal, .supply, .ports] s u
  (∀ p f s, s.admits p .portReset →
    (p ≠ .service → exec (.portReset p (.fields f)) s =
      .next (settle (answered p ReqCode.portReset.byte 1 (.refuse .notPermitted) s))) ∧
    (p = .service →
      (portOf f.port = none ∨ portOf f.port = some .service →
        exec (.portReset p (.fields f)) s =
          .next (settle (answered p ReqCode.portReset.byte 1 (.refuse .badRequest) s))) ∧
      ∀ q, portOf f.port = some q → q ≠ .service →
        ∃ u, exec (.portReset p (.fields f)) s =
            .next (settle (answered p ReqCode.portReset.byte 1 .done u)) ∧
          reset q (s.ports.get q).condition s u)) ∧
  ∀ p s, s.core = .up →
    ((s.ports.get p).lineSeen = false →
      exec (.portResetLineActive p) s = .next (settle s) ∧ exec (.portResetLineInactive p) s = .next (settle s)) ∧
    ((s.ports.get p).lineSeen = true →
      ((s.ports.get p).condition = .held → exec (.portResetLineActive p) s = .next (settle s)) ∧
      ((s.ports.get p).condition = .run →
        ∃ u, exec (.portResetLineActive p) s = .next (settle u) ∧ reset p .held s u) ∧
      exec (.portResetLineInactive p) s =
        .next (settle (setPort p { s.ports.get p with condition := .run } s)))

/-- READ_COUNTERS (R182 to R184): the checks in their order, the snapshot of the run named, and with the reset
flag those counters at 0 and no other. That the count of an unread reply, discarded as its own reply is made
(`answered`), comes after the snapshot and the zeroing is the model's choice (log 30). -/
def Obligations.ReadCountersSnapshots : Prop :=
  ∀ p f s, s.admits p .readCounters →
    let first := f.first.toNat
    let n := f.count.toNat
    let refused := fun r => exec (.readCounters p (.fields f)) s =
      .next (settle (answered p ReqCode.readCounters.byte 3 (.refuse r) s))
    (flagOf f.reset = none ∨ first = 0 ∨ n = 0 ∨ 24 < first + n - 1 → refused .badRequest) ∧
    (1 ≤ first → 1 ≤ n → first + n ≤ 25 → ∀ reset, flagOf f.reset = some reset →
      (reset = true → p = .terminal → refused .notPermitted) ∧
      (reset = false ∨ p ≠ .terminal →
        ∃ u, exec (.readCounters p (.fields f)) s =
            .next (settle (answered p ReqCode.readCounters.byte 3
              (.okWith (num1 first ++ num1 n ++ num1 (if reset then 1 else 0) ++
                ((s.counters.toList.drop (first - 1)).take n).flatMap (num 4))) u)) ∧
          (∀ c : Counter, u.counter c =
            if reset = true ∧ first ≤ c.index.val + 1 ∧ c.index.val + 1 < first + n then 0
            else s.counter c) ∧
          changesOnly [.counters] s u))

/-! ## Starts -/

/-- A cold start sets every block to its Init values (R1, R71, R88, R98, R123, R124, R134, R145, R179, R193, R201,
R202). A warm start (R4, R71, R98, R122, R142, R165, R177, R186, R201, R202) keeps the retention domain, begins the
core domain afresh, asks for START(WARM), rebuilds the reasons and clears the notice sets for RESTARTED and, with
the link port ready, UPLOAD_DUE: that is the state `w`. It then processes the day boundary when the clock's day is
past the store's, ticks the minute of a VALID clock (O8 and O9 say what they do) and, with the run mark set in
INTERVAL pacing, begins a frame (O44) with the frame timer at the ECONOMY interval. A dip stops the core domain and
keeps the retention domain (R4).
The spec gives no value for three fields, and those here are the model's: the trigger input's level LOW before its
first acceptance (log 21), the record of the bytes a data output carried, empty (log 12), and the raised frame start,
clear (log 9). That a cold start posts no TIMETABLE_NEEDED is the model's reading (log 25); that
the first frame follows the boundary and the tick (log 17), that the tick comes also for a clock stopped at the end of
day 65535 (log 31), and what the core fields hold during a dip (log 8), are its choices. -/
def Obligations.StartsSetEveryBlock : Prop :=
  let freshTreadle : Treadle :=
    { seen := false, pressed := false, pulse := none, fault := false, run := 0, test := 0 }
  let freshSales : PortSales := { slot := none, mark := .none, nextQuote := 1, lastSale := none }
  let idleScheduler : Scheduler := { state := .due, failures := 0, wait := none, dueSecond := none }
  let held := fun (rights : List RightsClass) (notices : List Notice) =>
    ({ reception := [], slot := none, overrun := false, notices := notices, rights := rights
       condition := .held, lineSeen := false, dataOut := [] } : PortControl)
  let kept := fun (s w : State) =>
    w.clock = s.clock ∧ w.store = { s.store with staging := none } ∧
    w.detector = { mode := s.detector.mode, ta := freshTreadle, tb := freshTreadle, passage := none } ∧
    w.fares = s.fares ∧ w.revoked = s.revoked ∧ w.scheduler = idleScheduler ∧
    w.sales =
      { s.sales with
        reasons := w.sales.reasons, ports := ⟨freshSales, freshSales, freshSales⟩
        silence := some 300, silent := false } ∧
    w.journal.batch = none ∧ w.journal.nextBatch = s.journal.nextBatch ∧
    w.compositor =
      { panels := w.compositor.panels, presenceSeen := false, occupied := false
        idle := some (60 * max 1 (s.compositor.sleepAfter / 2)), group := .awake
        sleepAfter := s.compositor.sleepAfter, message := s.compositor.message } ∧
    (∀ i,
      ((s.panel i).configured = true → w.panel i =
        { s.panel i with state := .awake, misses := 0, lastStatus := .ok, pending := .wake }) ∧
      ((s.panel i).configured = false → w.panel i =
        { s.panel i with state := .unconfigured, misses := 0, lastStatus := .ok, pending := .none })) ∧
    w.bus =
      { s.bus with
        state := if s.bus.runMark then .idle else .stopped
        cause := none, stopMark := false, cycle := 0, frameTimer := none, list := [], position := 0
        tried := false, probes := Vector.replicate 8 none, triggerSeen := false, triggerHigh := false
        firstEdge := true, sinceFrame := none, startDue := false } ∧
    w.supply =
      { economy := s.supply.economy, reserve := s.supply.reserve, state := .economy
        lastClass := none, reserveRun := 0, economyRun := 0, upgradeRun := 0, sampleTimer := 2
        load := none } ∧
    (∀ p, w.ports.get p = held (s.ports.get p).rights (w.ports.get p).notices) ∧
    w.draws = s.draws ∧ w.pending = s.pending
  (∀ s, ∃ t, exec .coldStart s = .next t ∧ t.core = .up ∧ t.clock = ⟨false, 0, .weekday, 0⟩ ∧
    t.store = { storeDay := 0, neededMark := false, today := none, tomorrow := none, staging := none } ∧
    t.detector = { mode := .paired, ta := freshTreadle, tb := freshTreadle, passage := none } ∧
    (∀ i : Fin 32, t.fares.ranges[i] = none) ∧ (∀ i : Fin 15, t.fares.prices[i] = 0) ∧
    t.fares.returnPercent = 180 ∧ t.fares.offPeakPercent = 70 ∧ t.fares.childPercent = 50 ∧
    t.fares.step = 10 ∧ t.fares.capMultiple = 3 ∧ t.fares.loaded = false ∧
    (∀ i : Fin 8, t.fares.concessions[i] = ⟨0, if i = 0 then .all else .adults⟩) ∧
    (∀ i : Fin 4, t.fares.peaks[i] = ⟨0, 0⟩) ∧ (∀ i : Fin 64, t.revoked[i] = none) ∧
    t.sales =
      { reasons := [.noTime, .noFares, .stockEmpty], ports := ⟨freshSales, freshSales, freshSales⟩
        blocks := [], horizon := 0, lowMark := true, silence := some 300, silent := false } ∧
    t.journal =
      { entries := [⟨1, 0, 0, .start .cold, .unsent⟩], nextSequence := 2, nextBatch := 1
        batch := none } ∧
    t.journal.free = 2047 ∧ t.scheduler = idleScheduler ∧
    (∀ i, t.panel i =
      { configured := false, directions := .both, rows := 1, brightness := 7, state := .unconfigured
        misses := 0, lastStatus := .ok, pending := .none }) ∧
    t.compositor =
      { panels := t.compositor.panels, presenceSeen := false, occupied := false, idle := some 600
        group := .awake, sleepAfter := 10, message := some .timeUnknown } ∧
    t.bus =
      { state := .stopped, cause := none, pacing := .interval, polarity := .rising, interval := 5
        countSetting := 0, remaining := none, autoRecovery := true, runMark := false
        stopMark := false, cycle := 0, frameTimer := none, list := [], position := 0, tried := false
        probes := Vector.replicate 8 none, triggerSeen := false, triggerHigh := false
        firstEdge := true, sinceFrame := none, startDue := false } ∧
    t.supply =
      { economy := 4, reserve := 1, state := .normal, lastClass := none, reserveRun := 0
        economyRun := 0, upgradeRun := 0, sampleTimer := 2, load := none } ∧
    (∀ c, t.counter c = 0) ∧
    t.ports =
      { terminal := held [.sales, .read] [.restarted]
        link := held [.timetable, .tables, .journal, .read] [.uploadDue, .restarted]
        service := held RightsClass.all [.restarted] } ∧
    t.draws = s.draws ∧ t.pending = s.pending) ∧
  (∀ s line, ∃ w : State, w.core = .up ∧ kept s w ∧
    (3 ≤ s.journal.free →
      w.journal.entries =
          s.journal.entries.map (Entry.as .unsent) ++ [newEntry (.start .warm) s] ∧
        w.journal.nextSequence = s.journal.nextSequence + 1 ∧ w.counters = s.counters) ∧
    (s.journal.free < 3 →
      w.journal.entries = s.journal.entries.map (Entry.as .unsent) ∧
        w.journal.nextSequence = s.journal.nextSequence ∧
        w.counter .journalDropped = s.counterPlus .journalDropped 1 ∧
        countsOnly [.journalDropped] s w) ∧
    (.noTime ∈ w.sales.reasons ↔ s.clock.valid = false) ∧
    (.noFares ∈ w.sales.reasons ↔ s.fares.loaded = false) ∧
    (.stockEmpty ∈ w.sales.reasons ↔ s.sales.remaining = 0) ∧
    (.journalFull ∈ w.sales.reasons ↔ w.journal.free < 2) ∧
    .supplyReserve ∉ w.sales.reasons ∧
    (.suspended ∈ w.sales.reasons ↔ .suspended ∈ s.sales.reasons) ∧
    (∀ p k, w.hasNotice p k ↔
      k = .restarted ∨ (p = .link ∧ k = .uploadDue ∧ w.journal.entries ≠ [])) ∧
    (let b := if s.store.storeDay < s.clock.day then dayBoundary .weekday w else w
     let v := if s.clock.valid = true then minuteTick b else b
     (s.bus.runMark = false ∨ s.bus.pacing = .trigger → exec (.warmStart line) s = .next v) ∧
     (s.bus.runMark = true → s.bus.pacing = .interval →
       exec (.warmStart line) s =
         .next (beginFrame line { v with bus :=
           { v.bus with frameTimer := some (intervalFor s.bus.interval .economy) } })))) ∧
  ∀ s,
    (s.core = .down → exec .coreSupplyDip s = .next s) ∧
    (s.core = .up → ∃ t, exec .coreSupplyDip s = .next t ∧ t.core = .down ∧ kept s t ∧
      t.sales.reasons = s.sales.reasons ∧ t.counters = s.counters ∧
      t.journal =
        { s.journal with entries := s.journal.entries.map (Entry.as .unsent), batch := none } ∧
      ∀ p k, ¬ t.hasNotice p k)

/-! ## Invariants -/

/-- Every step keeps the journal in order: at most 2048 entries with consecutive sequence numbers, the batch
in flight at the oldest end (R99 to R107). -/
def Obligations.StepKeepsJournalOk : Prop :=
  ∀ s t, s.journal.ok → step s = .next t → t.journal.ok

/-- Every step keeps each closure reason in the set exactly while its condition holds (R69, R71). -/
def Obligations.StepKeepsReasonsOk : Prop :=
  ∀ s t, s.reasonsOk → step s = .next t → t.reasonsOk

/-- Every step keeps the clock, the day tables and the staging in order (R6, R9, R11, R13, R15). -/
def Obligations.StepKeepsTablesOk : Prop :=
  ∀ s t, s.tablesOk → step s = .next t → t.tablesOk

/-- Every step keeps the target of every HELD quote and expired record SCHEDULED (R78, R79). -/
def Obligations.StepKeepsQuotesOk : Prop :=
  ∀ s t, s.quotesOk → s.tablesOk → step s = .next t → t.quotesOk

/-- Every step keeps the serial stock in order, and the fare tables and the revocation list in their ranges
(R49 to R55, R88 to R93). -/
def Obligations.StepKeepsStockAndTablesOk : Prop :=
  ∀ s t, s.sales.stockOk → s.fares.ok → s.revokedOk → step s = .next t →
    t.sales.stockOk ∧ t.fares.ok ∧ t.revokedOk

/-- Every step keeps the supply monitor in order (R166 to R175), the counters in their range (R179, R180), the
sets without duplicates (R193, R195), and CONFIG with the service port (R193). -/
def Obligations.StepKeepsSupplyAndPortsOk : Prop :=
  ∀ s t, s.supply.ok → s.portsOk → step s = .next t → t.supply.ok ∧ t.portsOk

/-- Every step keeps the display bus controller and the panel records in order (R124, R145, R149, R154). That a
RUNNING controller has a transaction in progress rests on the model's choice that one counts from its line test
on (log 5), and that the stop mark is clear in STOPPED on the choice that acting on it clears it (log 33). -/
def Obligations.StepKeepsBusOk : Prop :=
  ∀ s t, s.busOk → step s = .next t → t.busOk

/-- The part is in order at reset: every invariant above holds there. -/
def Obligations.ResetIsInOrder : Prop := State.reset.inOrder
end

