-- ==== Sys2Proof/Laws/State.lean ====
section
/-! SUPPORT. Laws/State.lean: one lemma per field per update of the state, each true by `rfl`. -/

namespace Sys2Proof.Machine

variable (s : State)

/-! ### setStore -/

@[simp] theorem setStore_core (x : Store) : (setStore x s).core = s.core := rfl
@[simp] theorem setStore_clock (x : Store) : (setStore x s).clock = s.clock := rfl
@[simp] theorem setStore_store (x : Store) :
    (setStore x s).store = x := rfl
@[simp] theorem setStore_detector (x : Store) : (setStore x s).detector = s.detector := rfl
@[simp] theorem setStore_fares (x : Store) : (setStore x s).fares = s.fares := rfl
@[simp] theorem setStore_revoked (x : Store) : (setStore x s).revoked = s.revoked := rfl
@[simp] theorem setStore_sales (x : Store) : (setStore x s).sales = s.sales := rfl
@[simp] theorem setStore_journal (x : Store) : (setStore x s).journal = s.journal := rfl
@[simp] theorem setStore_scheduler (x : Store) : (setStore x s).scheduler = s.scheduler := rfl
@[simp] theorem setStore_compositor (x : Store) : (setStore x s).compositor = s.compositor := rfl
@[simp] theorem setStore_bus (x : Store) : (setStore x s).bus = s.bus := rfl
@[simp] theorem setStore_supply (x : Store) : (setStore x s).supply = s.supply := rfl
@[simp] theorem setStore_counters (x : Store) : (setStore x s).counters = s.counters := rfl
@[simp] theorem setStore_ports (x : Store) : (setStore x s).ports = s.ports := rfl
@[simp] theorem setStore_draws (x : Store) : (setStore x s).draws = s.draws := rfl
@[simp] theorem setStore_pending (x : Store) : (setStore x s).pending = s.pending := rfl

/-! ### setClock -/

@[simp] theorem setClock_core (x : Clock) : (setClock x s).core = s.core := rfl
@[simp] theorem setClock_clock (x : Clock) :
    (setClock x s).clock = x := rfl
@[simp] theorem setClock_store (x : Clock) : (setClock x s).store = s.store := rfl
@[simp] theorem setClock_detector (x : Clock) : (setClock x s).detector = s.detector := rfl
@[simp] theorem setClock_fares (x : Clock) : (setClock x s).fares = s.fares := rfl
@[simp] theorem setClock_revoked (x : Clock) : (setClock x s).revoked = s.revoked := rfl
@[simp] theorem setClock_sales (x : Clock) : (setClock x s).sales = s.sales := rfl
@[simp] theorem setClock_journal (x : Clock) : (setClock x s).journal = s.journal := rfl
@[simp] theorem setClock_scheduler (x : Clock) : (setClock x s).scheduler = s.scheduler := rfl
@[simp] theorem setClock_compositor (x : Clock) : (setClock x s).compositor = s.compositor := rfl
@[simp] theorem setClock_bus (x : Clock) : (setClock x s).bus = s.bus := rfl
@[simp] theorem setClock_supply (x : Clock) : (setClock x s).supply = s.supply := rfl
@[simp] theorem setClock_counters (x : Clock) : (setClock x s).counters = s.counters := rfl
@[simp] theorem setClock_ports (x : Clock) : (setClock x s).ports = s.ports := rfl
@[simp] theorem setClock_draws (x : Clock) : (setClock x s).draws = s.draws := rfl
@[simp] theorem setClock_pending (x : Clock) : (setClock x s).pending = s.pending := rfl

/-! ### setStaging -/

@[simp] theorem setStaging_core (x : Option Staging) : (setStaging x s).core = s.core := rfl
@[simp] theorem setStaging_clock (x : Option Staging) : (setStaging x s).clock = s.clock := rfl
@[simp] theorem setStaging_store (x : Option Staging) :
    (setStaging x s).store = { s.store with staging := x } := rfl
@[simp] theorem setStaging_detector (x : Option Staging) : (setStaging x s).detector = s.detector := rfl
@[simp] theorem setStaging_fares (x : Option Staging) : (setStaging x s).fares = s.fares := rfl
@[simp] theorem setStaging_revoked (x : Option Staging) : (setStaging x s).revoked = s.revoked := rfl
@[simp] theorem setStaging_sales (x : Option Staging) : (setStaging x s).sales = s.sales := rfl
@[simp] theorem setStaging_journal (x : Option Staging) : (setStaging x s).journal = s.journal := rfl
@[simp] theorem setStaging_scheduler (x : Option Staging) : (setStaging x s).scheduler = s.scheduler := rfl
@[simp] theorem setStaging_compositor (x : Option Staging) : (setStaging x s).compositor = s.compositor := rfl
@[simp] theorem setStaging_bus (x : Option Staging) : (setStaging x s).bus = s.bus := rfl
@[simp] theorem setStaging_supply (x : Option Staging) : (setStaging x s).supply = s.supply := rfl
@[simp] theorem setStaging_counters (x : Option Staging) : (setStaging x s).counters = s.counters := rfl
@[simp] theorem setStaging_ports (x : Option Staging) : (setStaging x s).ports = s.ports := rfl
@[simp] theorem setStaging_draws (x : Option Staging) : (setStaging x s).draws = s.draws := rfl
@[simp] theorem setStaging_pending (x : Option Staging) : (setStaging x s).pending = s.pending := rfl

/-! ### setDetector -/

@[simp] theorem setDetector_core (x : Detector) : (setDetector x s).core = s.core := rfl
@[simp] theorem setDetector_clock (x : Detector) : (setDetector x s).clock = s.clock := rfl
@[simp] theorem setDetector_store (x : Detector) : (setDetector x s).store = s.store := rfl
@[simp] theorem setDetector_detector (x : Detector) :
    (setDetector x s).detector = x := rfl
@[simp] theorem setDetector_fares (x : Detector) : (setDetector x s).fares = s.fares := rfl
@[simp] theorem setDetector_revoked (x : Detector) : (setDetector x s).revoked = s.revoked := rfl
@[simp] theorem setDetector_sales (x : Detector) : (setDetector x s).sales = s.sales := rfl
@[simp] theorem setDetector_journal (x : Detector) : (setDetector x s).journal = s.journal := rfl
@[simp] theorem setDetector_scheduler (x : Detector) : (setDetector x s).scheduler = s.scheduler := rfl
@[simp] theorem setDetector_compositor (x : Detector) : (setDetector x s).compositor = s.compositor := rfl
@[simp] theorem setDetector_bus (x : Detector) : (setDetector x s).bus = s.bus := rfl
@[simp] theorem setDetector_supply (x : Detector) : (setDetector x s).supply = s.supply := rfl
@[simp] theorem setDetector_counters (x : Detector) : (setDetector x s).counters = s.counters := rfl
@[simp] theorem setDetector_ports (x : Detector) : (setDetector x s).ports = s.ports := rfl
@[simp] theorem setDetector_draws (x : Detector) : (setDetector x s).draws = s.draws := rfl
@[simp] theorem setDetector_pending (x : Detector) : (setDetector x s).pending = s.pending := rfl

/-! ### setSupply -/

@[simp] theorem setSupply_core (x : Supply) : (setSupply x s).core = s.core := rfl
@[simp] theorem setSupply_clock (x : Supply) : (setSupply x s).clock = s.clock := rfl
@[simp] theorem setSupply_store (x : Supply) : (setSupply x s).store = s.store := rfl
@[simp] theorem setSupply_detector (x : Supply) : (setSupply x s).detector = s.detector := rfl
@[simp] theorem setSupply_fares (x : Supply) : (setSupply x s).fares = s.fares := rfl
@[simp] theorem setSupply_revoked (x : Supply) : (setSupply x s).revoked = s.revoked := rfl
@[simp] theorem setSupply_sales (x : Supply) : (setSupply x s).sales = s.sales := rfl
@[simp] theorem setSupply_journal (x : Supply) : (setSupply x s).journal = s.journal := rfl
@[simp] theorem setSupply_scheduler (x : Supply) : (setSupply x s).scheduler = s.scheduler := rfl
@[simp] theorem setSupply_compositor (x : Supply) : (setSupply x s).compositor = s.compositor := rfl
@[simp] theorem setSupply_bus (x : Supply) : (setSupply x s).bus = s.bus := rfl
@[simp] theorem setSupply_supply (x : Supply) :
    (setSupply x s).supply = x := rfl
@[simp] theorem setSupply_counters (x : Supply) : (setSupply x s).counters = s.counters := rfl
@[simp] theorem setSupply_ports (x : Supply) : (setSupply x s).ports = s.ports := rfl
@[simp] theorem setSupply_draws (x : Supply) : (setSupply x s).draws = s.draws := rfl
@[simp] theorem setSupply_pending (x : Supply) : (setSupply x s).pending = s.pending := rfl

/-! ### setBus -/

@[simp] theorem setBus_core (x : DisplayBus) : (setBus x s).core = s.core := rfl
@[simp] theorem setBus_clock (x : DisplayBus) : (setBus x s).clock = s.clock := rfl
@[simp] theorem setBus_store (x : DisplayBus) : (setBus x s).store = s.store := rfl
@[simp] theorem setBus_detector (x : DisplayBus) : (setBus x s).detector = s.detector := rfl
@[simp] theorem setBus_fares (x : DisplayBus) : (setBus x s).fares = s.fares := rfl
@[simp] theorem setBus_revoked (x : DisplayBus) : (setBus x s).revoked = s.revoked := rfl
@[simp] theorem setBus_sales (x : DisplayBus) : (setBus x s).sales = s.sales := rfl
@[simp] theorem setBus_journal (x : DisplayBus) : (setBus x s).journal = s.journal := rfl
@[simp] theorem setBus_scheduler (x : DisplayBus) : (setBus x s).scheduler = s.scheduler := rfl
@[simp] theorem setBus_compositor (x : DisplayBus) : (setBus x s).compositor = s.compositor := rfl
@[simp] theorem setBus_bus (x : DisplayBus) :
    (setBus x s).bus = x := rfl
@[simp] theorem setBus_supply (x : DisplayBus) : (setBus x s).supply = s.supply := rfl
@[simp] theorem setBus_counters (x : DisplayBus) : (setBus x s).counters = s.counters := rfl
@[simp] theorem setBus_ports (x : DisplayBus) : (setBus x s).ports = s.ports := rfl
@[simp] theorem setBus_draws (x : DisplayBus) : (setBus x s).draws = s.draws := rfl
@[simp] theorem setBus_pending (x : DisplayBus) : (setBus x s).pending = s.pending := rfl

/-! ### setPort -/

@[simp] theorem setPort_core (p : Port) (x : PortControl) : (setPort p x s).core = s.core := rfl
@[simp] theorem setPort_clock (p : Port) (x : PortControl) : (setPort p x s).clock = s.clock := rfl
@[simp] theorem setPort_store (p : Port) (x : PortControl) : (setPort p x s).store = s.store := rfl
@[simp] theorem setPort_detector (p : Port) (x : PortControl) : (setPort p x s).detector = s.detector := rfl
@[simp] theorem setPort_fares (p : Port) (x : PortControl) : (setPort p x s).fares = s.fares := rfl
@[simp] theorem setPort_revoked (p : Port) (x : PortControl) : (setPort p x s).revoked = s.revoked := rfl
@[simp] theorem setPort_sales (p : Port) (x : PortControl) : (setPort p x s).sales = s.sales := rfl
@[simp] theorem setPort_journal (p : Port) (x : PortControl) : (setPort p x s).journal = s.journal := rfl
@[simp] theorem setPort_scheduler (p : Port) (x : PortControl) : (setPort p x s).scheduler = s.scheduler := rfl
@[simp] theorem setPort_compositor (p : Port) (x : PortControl) : (setPort p x s).compositor = s.compositor := rfl
@[simp] theorem setPort_bus (p : Port) (x : PortControl) : (setPort p x s).bus = s.bus := rfl
@[simp] theorem setPort_supply (p : Port) (x : PortControl) : (setPort p x s).supply = s.supply := rfl
@[simp] theorem setPort_counters (p : Port) (x : PortControl) : (setPort p x s).counters = s.counters := rfl
@[simp] theorem setPort_ports (p : Port) (x : PortControl) :
    (setPort p x s).ports = s.ports.set p x := rfl
@[simp] theorem setPort_draws (p : Port) (x : PortControl) : (setPort p x s).draws = s.draws := rfl
@[simp] theorem setPort_pending (p : Port) (x : PortControl) : (setPort p x s).pending = s.pending := rfl

/-! ### setSales -/

@[simp] theorem setSales_core (p : Port) (x : PortSales) : (setSales p x s).core = s.core := rfl
@[simp] theorem setSales_clock (p : Port) (x : PortSales) : (setSales p x s).clock = s.clock := rfl
@[simp] theorem setSales_store (p : Port) (x : PortSales) : (setSales p x s).store = s.store := rfl
@[simp] theorem setSales_detector (p : Port) (x : PortSales) : (setSales p x s).detector = s.detector := rfl
@[simp] theorem setSales_fares (p : Port) (x : PortSales) : (setSales p x s).fares = s.fares := rfl
@[simp] theorem setSales_revoked (p : Port) (x : PortSales) : (setSales p x s).revoked = s.revoked := rfl
@[simp] theorem setSales_sales (p : Port) (x : PortSales) :
    (setSales p x s).sales = { s.sales with ports := s.sales.ports.set p x } := rfl
@[simp] theorem setSales_journal (p : Port) (x : PortSales) : (setSales p x s).journal = s.journal := rfl
@[simp] theorem setSales_scheduler (p : Port) (x : PortSales) : (setSales p x s).scheduler = s.scheduler := rfl
@[simp] theorem setSales_compositor (p : Port) (x : PortSales) : (setSales p x s).compositor = s.compositor := rfl
@[simp] theorem setSales_bus (p : Port) (x : PortSales) : (setSales p x s).bus = s.bus := rfl
@[simp] theorem setSales_supply (p : Port) (x : PortSales) : (setSales p x s).supply = s.supply := rfl
@[simp] theorem setSales_counters (p : Port) (x : PortSales) : (setSales p x s).counters = s.counters := rfl
@[simp] theorem setSales_ports (p : Port) (x : PortSales) : (setSales p x s).ports = s.ports := rfl
@[simp] theorem setSales_draws (p : Port) (x : PortSales) : (setSales p x s).draws = s.draws := rfl
@[simp] theorem setSales_pending (p : Port) (x : PortSales) : (setSales p x s).pending = s.pending := rfl

/-! ### setPanel -/

@[simp] theorem setPanel_core (i : Fin 8) (x : Panel) : (setPanel i x s).core = s.core := rfl
@[simp] theorem setPanel_clock (i : Fin 8) (x : Panel) : (setPanel i x s).clock = s.clock := rfl
@[simp] theorem setPanel_store (i : Fin 8) (x : Panel) : (setPanel i x s).store = s.store := rfl
@[simp] theorem setPanel_detector (i : Fin 8) (x : Panel) : (setPanel i x s).detector = s.detector := rfl
@[simp] theorem setPanel_fares (i : Fin 8) (x : Panel) : (setPanel i x s).fares = s.fares := rfl
@[simp] theorem setPanel_revoked (i : Fin 8) (x : Panel) : (setPanel i x s).revoked = s.revoked := rfl
@[simp] theorem setPanel_sales (i : Fin 8) (x : Panel) : (setPanel i x s).sales = s.sales := rfl
@[simp] theorem setPanel_journal (i : Fin 8) (x : Panel) : (setPanel i x s).journal = s.journal := rfl
@[simp] theorem setPanel_scheduler (i : Fin 8) (x : Panel) : (setPanel i x s).scheduler = s.scheduler := rfl
@[simp] theorem setPanel_compositor (i : Fin 8) (x : Panel) :
    (setPanel i x s).compositor = { s.compositor with panels := s.compositor.panels.set i.val x } := rfl
@[simp] theorem setPanel_bus (i : Fin 8) (x : Panel) : (setPanel i x s).bus = s.bus := rfl
@[simp] theorem setPanel_supply (i : Fin 8) (x : Panel) : (setPanel i x s).supply = s.supply := rfl
@[simp] theorem setPanel_counters (i : Fin 8) (x : Panel) : (setPanel i x s).counters = s.counters := rfl
@[simp] theorem setPanel_ports (i : Fin 8) (x : Panel) : (setPanel i x s).ports = s.ports := rfl
@[simp] theorem setPanel_draws (i : Fin 8) (x : Panel) : (setPanel i x s).draws = s.draws := rfl
@[simp] theorem setPanel_pending (i : Fin 8) (x : Panel) : (setPanel i x s).pending = s.pending := rfl

/-! ### setMessage -/

@[simp] theorem setMessage_core : (setMessage s).core = s.core := rfl
@[simp] theorem setMessage_clock : (setMessage s).clock = s.clock := rfl
@[simp] theorem setMessage_store : (setMessage s).store = s.store := rfl
@[simp] theorem setMessage_detector : (setMessage s).detector = s.detector := rfl
@[simp] theorem setMessage_fares : (setMessage s).fares = s.fares := rfl
@[simp] theorem setMessage_revoked : (setMessage s).revoked = s.revoked := rfl
@[simp] theorem setMessage_sales : (setMessage s).sales = s.sales := rfl
@[simp] theorem setMessage_journal : (setMessage s).journal = s.journal := rfl
@[simp] theorem setMessage_scheduler : (setMessage s).scheduler = s.scheduler := rfl
@[simp] theorem setMessage_compositor :
    (setMessage s).compositor = { s.compositor with message := s.messageNow } := rfl
@[simp] theorem setMessage_bus : (setMessage s).bus = s.bus := rfl
@[simp] theorem setMessage_supply : (setMessage s).supply = s.supply := rfl
@[simp] theorem setMessage_counters : (setMessage s).counters = s.counters := rfl
@[simp] theorem setMessage_ports : (setMessage s).ports = s.ports := rfl
@[simp] theorem setMessage_draws : (setMessage s).draws = s.draws := rfl
@[simp] theorem setMessage_pending : (setMessage s).pending = s.pending := rfl

/-! ### startIdle -/

@[simp] theorem startIdle_core : (startIdle s).core = s.core := rfl
@[simp] theorem startIdle_clock : (startIdle s).clock = s.clock := rfl
@[simp] theorem startIdle_store : (startIdle s).store = s.store := rfl
@[simp] theorem startIdle_detector : (startIdle s).detector = s.detector := rfl
@[simp] theorem startIdle_fares : (startIdle s).fares = s.fares := rfl
@[simp] theorem startIdle_revoked : (startIdle s).revoked = s.revoked := rfl
@[simp] theorem startIdle_sales : (startIdle s).sales = s.sales := rfl
@[simp] theorem startIdle_journal : (startIdle s).journal = s.journal := rfl
@[simp] theorem startIdle_scheduler : (startIdle s).scheduler = s.scheduler := rfl
@[simp] theorem startIdle_compositor :
    (startIdle s).compositor = { s.compositor with idle := some (60 * s.sleepAfterInForce) } := rfl
@[simp] theorem startIdle_bus : (startIdle s).bus = s.bus := rfl
@[simp] theorem startIdle_supply : (startIdle s).supply = s.supply := rfl
@[simp] theorem startIdle_counters : (startIdle s).counters = s.counters := rfl
@[simp] theorem startIdle_ports : (startIdle s).ports = s.ports := rfl
@[simp] theorem startIdle_draws : (startIdle s).draws = s.draws := rfl
@[simp] theorem startIdle_pending : (startIdle s).pending = s.pending := rfl

/-! ### setRange -/

@[simp] theorem setRange_core (i : Nat) (e : Option RangeEntry) : (setRange i e s).core = s.core := rfl
@[simp] theorem setRange_clock (i : Nat) (e : Option RangeEntry) : (setRange i e s).clock = s.clock := rfl
@[simp] theorem setRange_store (i : Nat) (e : Option RangeEntry) : (setRange i e s).store = s.store := rfl
@[simp] theorem setRange_detector (i : Nat) (e : Option RangeEntry) : (setRange i e s).detector = s.detector := rfl
@[simp] theorem setRange_fares (i : Nat) (e : Option RangeEntry) :
    (setRange i e s).fares = { s.fares with ranges := s.fares.ranges.setIfInBounds i e } := rfl
@[simp] theorem setRange_revoked (i : Nat) (e : Option RangeEntry) : (setRange i e s).revoked = s.revoked := rfl
@[simp] theorem setRange_sales (i : Nat) (e : Option RangeEntry) : (setRange i e s).sales = s.sales := rfl
@[simp] theorem setRange_journal (i : Nat) (e : Option RangeEntry) : (setRange i e s).journal = s.journal := rfl
@[simp] theorem setRange_scheduler (i : Nat) (e : Option RangeEntry) : (setRange i e s).scheduler = s.scheduler := rfl
@[simp] theorem setRange_compositor (i : Nat) (e : Option RangeEntry) : (setRange i e s).compositor = s.compositor := rfl
@[simp] theorem setRange_bus (i : Nat) (e : Option RangeEntry) : (setRange i e s).bus = s.bus := rfl
@[simp] theorem setRange_supply (i : Nat) (e : Option RangeEntry) : (setRange i e s).supply = s.supply := rfl
@[simp] theorem setRange_counters (i : Nat) (e : Option RangeEntry) : (setRange i e s).counters = s.counters := rfl
@[simp] theorem setRange_ports (i : Nat) (e : Option RangeEntry) : (setRange i e s).ports = s.ports := rfl
@[simp] theorem setRange_draws (i : Nat) (e : Option RangeEntry) : (setRange i e s).draws = s.draws := rfl
@[simp] theorem setRange_pending (i : Nat) (e : Option RangeEntry) : (setRange i e s).pending = s.pending := rfl

/-! ### postTo -/

@[simp] theorem postTo_core (k : Notice) (l : List Port) : (postTo k l s).core = s.core := rfl
@[simp] theorem postTo_clock (k : Notice) (l : List Port) : (postTo k l s).clock = s.clock := rfl
@[simp] theorem postTo_store (k : Notice) (l : List Port) : (postTo k l s).store = s.store := rfl
@[simp] theorem postTo_detector (k : Notice) (l : List Port) : (postTo k l s).detector = s.detector := rfl
@[simp] theorem postTo_fares (k : Notice) (l : List Port) : (postTo k l s).fares = s.fares := rfl
@[simp] theorem postTo_revoked (k : Notice) (l : List Port) : (postTo k l s).revoked = s.revoked := rfl
@[simp] theorem postTo_sales (k : Notice) (l : List Port) : (postTo k l s).sales = s.sales := rfl
@[simp] theorem postTo_journal (k : Notice) (l : List Port) : (postTo k l s).journal = s.journal := rfl
@[simp] theorem postTo_scheduler (k : Notice) (l : List Port) : (postTo k l s).scheduler = s.scheduler := rfl
@[simp] theorem postTo_compositor (k : Notice) (l : List Port) : (postTo k l s).compositor = s.compositor := rfl
@[simp] theorem postTo_bus (k : Notice) (l : List Port) : (postTo k l s).bus = s.bus := rfl
@[simp] theorem postTo_supply (k : Notice) (l : List Port) : (postTo k l s).supply = s.supply := rfl
@[simp] theorem postTo_counters (k : Notice) (l : List Port) : (postTo k l s).counters = s.counters := rfl
@[simp] theorem postTo_ports (k : Notice) (l : List Port) :
    (postTo k l s).ports = s.ports.imap (fun p c => if p ∈ l then c.noticed k else c) := rfl
@[simp] theorem postTo_draws (k : Notice) (l : List Port) : (postTo k l s).draws = s.draws := rfl
@[simp] theorem postTo_pending (k : Notice) (l : List Port) : (postTo k l s).pending = s.pending := rfl

/-! ### post -/

@[simp] theorem post_core (k : Notice) : (post k s).core = s.core := rfl
@[simp] theorem post_clock (k : Notice) : (post k s).clock = s.clock := rfl
@[simp] theorem post_store (k : Notice) : (post k s).store = s.store := rfl
@[simp] theorem post_detector (k : Notice) : (post k s).detector = s.detector := rfl
@[simp] theorem post_fares (k : Notice) : (post k s).fares = s.fares := rfl
@[simp] theorem post_revoked (k : Notice) : (post k s).revoked = s.revoked := rfl
@[simp] theorem post_sales (k : Notice) : (post k s).sales = s.sales := rfl
@[simp] theorem post_journal (k : Notice) : (post k s).journal = s.journal := rfl
@[simp] theorem post_scheduler (k : Notice) : (post k s).scheduler = s.scheduler := rfl
@[simp] theorem post_compositor (k : Notice) : (post k s).compositor = s.compositor := rfl
@[simp] theorem post_bus (k : Notice) : (post k s).bus = s.bus := rfl
@[simp] theorem post_supply (k : Notice) : (post k s).supply = s.supply := rfl
@[simp] theorem post_counters (k : Notice) : (post k s).counters = s.counters := rfl
@[simp] theorem post_ports (k : Notice) :
    (post k s).ports = s.ports.imap (fun p c => if p ∈ k.recipients then c.noticed k else c) := rfl
@[simp] theorem post_draws (k : Notice) : (post k s).draws = s.draws := rfl
@[simp] theorem post_pending (k : Notice) : (post k s).pending = s.pending := rfl

/-! ### countBy -/

@[simp] theorem countBy_core (c : Counter) (n : Nat) : (countBy c n s).core = s.core := rfl
@[simp] theorem countBy_clock (c : Counter) (n : Nat) : (countBy c n s).clock = s.clock := rfl
@[simp] theorem countBy_store (c : Counter) (n : Nat) : (countBy c n s).store = s.store := rfl
@[simp] theorem countBy_detector (c : Counter) (n : Nat) : (countBy c n s).detector = s.detector := rfl
@[simp] theorem countBy_fares (c : Counter) (n : Nat) : (countBy c n s).fares = s.fares := rfl
@[simp] theorem countBy_revoked (c : Counter) (n : Nat) : (countBy c n s).revoked = s.revoked := rfl
@[simp] theorem countBy_sales (c : Counter) (n : Nat) : (countBy c n s).sales = s.sales := rfl
@[simp] theorem countBy_journal (c : Counter) (n : Nat) : (countBy c n s).journal = s.journal := rfl
@[simp] theorem countBy_scheduler (c : Counter) (n : Nat) : (countBy c n s).scheduler = s.scheduler := rfl
@[simp] theorem countBy_compositor (c : Counter) (n : Nat) : (countBy c n s).compositor = s.compositor := rfl
@[simp] theorem countBy_bus (c : Counter) (n : Nat) : (countBy c n s).bus = s.bus := rfl
@[simp] theorem countBy_supply (c : Counter) (n : Nat) : (countBy c n s).supply = s.supply := rfl
@[simp] theorem countBy_counters (c : Counter) (n : Nat) :
    (countBy c n s).counters = s.counters.set c.index.val (min (s.counters[c.index] + n) counterMax) := rfl
@[simp] theorem countBy_ports (c : Counter) (n : Nat) : (countBy c n s).ports = s.ports := rfl
@[simp] theorem countBy_draws (c : Counter) (n : Nat) : (countBy c n s).draws = s.draws := rfl
@[simp] theorem countBy_pending (c : Counter) (n : Nat) : (countBy c n s).pending = s.pending := rfl

/-! ### count -/

@[simp] theorem count_core (c : Counter) : (count c s).core = s.core := rfl
@[simp] theorem count_clock (c : Counter) : (count c s).clock = s.clock := rfl
@[simp] theorem count_store (c : Counter) : (count c s).store = s.store := rfl
@[simp] theorem count_detector (c : Counter) : (count c s).detector = s.detector := rfl
@[simp] theorem count_fares (c : Counter) : (count c s).fares = s.fares := rfl
@[simp] theorem count_revoked (c : Counter) : (count c s).revoked = s.revoked := rfl
@[simp] theorem count_sales (c : Counter) : (count c s).sales = s.sales := rfl
@[simp] theorem count_journal (c : Counter) : (count c s).journal = s.journal := rfl
@[simp] theorem count_scheduler (c : Counter) : (count c s).scheduler = s.scheduler := rfl
@[simp] theorem count_compositor (c : Counter) : (count c s).compositor = s.compositor := rfl
@[simp] theorem count_bus (c : Counter) : (count c s).bus = s.bus := rfl
@[simp] theorem count_supply (c : Counter) : (count c s).supply = s.supply := rfl
@[simp] theorem count_counters (c : Counter) :
    (count c s).counters = s.counters.set c.index.val (min (s.counters[c.index] + 1) counterMax) := rfl
@[simp] theorem count_ports (c : Counter) : (count c s).ports = s.ports := rfl
@[simp] theorem count_draws (c : Counter) : (count c s).draws = s.draws := rfl
@[simp] theorem count_pending (c : Counter) : (count c s).pending = s.pending := rfl

/-! ### zeroCounters -/

@[simp] theorem zeroCounters_core (a n : Nat) : (zeroCounters a n s).core = s.core := by simp only [zeroCounters]
@[simp] theorem zeroCounters_clock (a n : Nat) : (zeroCounters a n s).clock = s.clock := by simp only [zeroCounters]
@[simp] theorem zeroCounters_store (a n : Nat) : (zeroCounters a n s).store = s.store := by simp only [zeroCounters]
@[simp] theorem zeroCounters_detector (a n : Nat) : (zeroCounters a n s).detector = s.detector := by simp only [zeroCounters]
@[simp] theorem zeroCounters_fares (a n : Nat) : (zeroCounters a n s).fares = s.fares := by simp only [zeroCounters]
@[simp] theorem zeroCounters_revoked (a n : Nat) : (zeroCounters a n s).revoked = s.revoked := by simp only [zeroCounters]
@[simp] theorem zeroCounters_sales (a n : Nat) : (zeroCounters a n s).sales = s.sales := by simp only [zeroCounters]
@[simp] theorem zeroCounters_journal (a n : Nat) : (zeroCounters a n s).journal = s.journal := by simp only [zeroCounters]
@[simp] theorem zeroCounters_scheduler (a n : Nat) : (zeroCounters a n s).scheduler = s.scheduler := by simp only [zeroCounters]
@[simp] theorem zeroCounters_compositor (a n : Nat) : (zeroCounters a n s).compositor = s.compositor := by simp only [zeroCounters]
@[simp] theorem zeroCounters_bus (a n : Nat) : (zeroCounters a n s).bus = s.bus := by simp only [zeroCounters]
@[simp] theorem zeroCounters_supply (a n : Nat) : (zeroCounters a n s).supply = s.supply := by simp only [zeroCounters]
@[simp] theorem zeroCounters_ports (a n : Nat) : (zeroCounters a n s).ports = s.ports := by simp only [zeroCounters]
@[simp] theorem zeroCounters_draws (a n : Nat) : (zeroCounters a n s).draws = s.draws := by simp only [zeroCounters]
@[simp] theorem zeroCounters_pending (a n : Nat) : (zeroCounters a n s).pending = s.pending := by simp only [zeroCounters]

/-! ### withdraw -/

@[simp] theorem withdraw_core (hit : CallRef → Bool) : (withdraw hit s).core = s.core := rfl
@[simp] theorem withdraw_clock (hit : CallRef → Bool) : (withdraw hit s).clock = s.clock := rfl
@[simp] theorem withdraw_store (hit : CallRef → Bool) : (withdraw hit s).store = s.store := rfl
@[simp] theorem withdraw_detector (hit : CallRef → Bool) : (withdraw hit s).detector = s.detector := rfl
@[simp] theorem withdraw_fares (hit : CallRef → Bool) : (withdraw hit s).fares = s.fares := rfl
@[simp] theorem withdraw_revoked (hit : CallRef → Bool) : (withdraw hit s).revoked = s.revoked := rfl
@[simp] theorem withdraw_sales (hit : CallRef → Bool) :
    (withdraw hit s).sales = { s.sales with ports := s.sales.ports.imap (fun _ x => x.withdrawn hit) } := rfl
@[simp] theorem withdraw_journal (hit : CallRef → Bool) : (withdraw hit s).journal = s.journal := rfl
@[simp] theorem withdraw_scheduler (hit : CallRef → Bool) : (withdraw hit s).scheduler = s.scheduler := rfl
@[simp] theorem withdraw_compositor (hit : CallRef → Bool) : (withdraw hit s).compositor = s.compositor := rfl
@[simp] theorem withdraw_bus (hit : CallRef → Bool) : (withdraw hit s).bus = s.bus := rfl
@[simp] theorem withdraw_supply (hit : CallRef → Bool) : (withdraw hit s).supply = s.supply := rfl
@[simp] theorem withdraw_counters (hit : CallRef → Bool) : (withdraw hit s).counters = s.counters := rfl
@[simp] theorem withdraw_ports (hit : CallRef → Bool) : (withdraw hit s).ports = s.ports := rfl
@[simp] theorem withdraw_draws (hit : CallRef → Bool) : (withdraw hit s).draws = s.draws := rfl
@[simp] theorem withdraw_pending (hit : CallRef → Bool) : (withdraw hit s).pending = s.pending := rfl

/-! ### withdrawCall -/

@[simp] theorem withdrawCall_core (r : CallRef) : (withdrawCall r s).core = s.core := rfl
@[simp] theorem withdrawCall_clock (r : CallRef) : (withdrawCall r s).clock = s.clock := rfl
@[simp] theorem withdrawCall_store (r : CallRef) : (withdrawCall r s).store = s.store := rfl
@[simp] theorem withdrawCall_detector (r : CallRef) : (withdrawCall r s).detector = s.detector := rfl
@[simp] theorem withdrawCall_fares (r : CallRef) : (withdrawCall r s).fares = s.fares := rfl
@[simp] theorem withdrawCall_revoked (r : CallRef) : (withdrawCall r s).revoked = s.revoked := rfl
@[simp] theorem withdrawCall_sales (r : CallRef) :
    (withdrawCall r s).sales = { s.sales with ports := s.sales.ports.imap (fun _ x => x.withdrawn (fun t => decide (t = r))) } := rfl
@[simp] theorem withdrawCall_journal (r : CallRef) : (withdrawCall r s).journal = s.journal := rfl
@[simp] theorem withdrawCall_scheduler (r : CallRef) : (withdrawCall r s).scheduler = s.scheduler := rfl
@[simp] theorem withdrawCall_compositor (r : CallRef) : (withdrawCall r s).compositor = s.compositor := rfl
@[simp] theorem withdrawCall_bus (r : CallRef) : (withdrawCall r s).bus = s.bus := rfl
@[simp] theorem withdrawCall_supply (r : CallRef) : (withdrawCall r s).supply = s.supply := rfl
@[simp] theorem withdrawCall_counters (r : CallRef) : (withdrawCall r s).counters = s.counters := rfl
@[simp] theorem withdrawCall_ports (r : CallRef) : (withdrawCall r s).ports = s.ports := rfl
@[simp] theorem withdrawCall_draws (r : CallRef) : (withdrawCall r s).draws = s.draws := rfl
@[simp] theorem withdrawCall_pending (r : CallRef) : (withdrawCall r s).pending = s.pending := rfl

/-! ### withdrawTable -/

@[simp] theorem withdrawTable_core (t : TableName) : (withdrawTable t s).core = s.core := rfl
@[simp] theorem withdrawTable_clock (t : TableName) : (withdrawTable t s).clock = s.clock := rfl
@[simp] theorem withdrawTable_store (t : TableName) : (withdrawTable t s).store = s.store := rfl
@[simp] theorem withdrawTable_detector (t : TableName) : (withdrawTable t s).detector = s.detector := rfl
@[simp] theorem withdrawTable_fares (t : TableName) : (withdrawTable t s).fares = s.fares := rfl
@[simp] theorem withdrawTable_revoked (t : TableName) : (withdrawTable t s).revoked = s.revoked := rfl
@[simp] theorem withdrawTable_sales (t : TableName) :
    (withdrawTable t s).sales = { s.sales with ports := s.sales.ports.imap (fun _ x => x.withdrawn (fun r => decide (r.table = t))) } := rfl
@[simp] theorem withdrawTable_journal (t : TableName) : (withdrawTable t s).journal = s.journal := rfl
@[simp] theorem withdrawTable_scheduler (t : TableName) : (withdrawTable t s).scheduler = s.scheduler := rfl
@[simp] theorem withdrawTable_compositor (t : TableName) : (withdrawTable t s).compositor = s.compositor := rfl
@[simp] theorem withdrawTable_bus (t : TableName) : (withdrawTable t s).bus = s.bus := rfl
@[simp] theorem withdrawTable_supply (t : TableName) : (withdrawTable t s).supply = s.supply := rfl
@[simp] theorem withdrawTable_counters (t : TableName) : (withdrawTable t s).counters = s.counters := rfl
@[simp] theorem withdrawTable_ports (t : TableName) : (withdrawTable t s).ports = s.ports := rfl
@[simp] theorem withdrawTable_draws (t : TableName) : (withdrawTable t s).draws = s.draws := rfl
@[simp] theorem withdrawTable_pending (t : TableName) : (withdrawTable t s).pending = s.pending := rfl

/-! ### repoint -/

@[simp] theorem repoint_core : (repoint s).core = s.core := rfl
@[simp] theorem repoint_clock : (repoint s).clock = s.clock := rfl
@[simp] theorem repoint_store : (repoint s).store = s.store := rfl
@[simp] theorem repoint_detector : (repoint s).detector = s.detector := rfl
@[simp] theorem repoint_fares : (repoint s).fares = s.fares := rfl
@[simp] theorem repoint_revoked : (repoint s).revoked = s.revoked := rfl
@[simp] theorem repoint_sales :
    (repoint s).sales = { s.sales with ports := s.sales.ports.imap (fun _ x => x.repointed) } := rfl
@[simp] theorem repoint_journal : (repoint s).journal = s.journal := rfl
@[simp] theorem repoint_scheduler : (repoint s).scheduler = s.scheduler := rfl
@[simp] theorem repoint_compositor : (repoint s).compositor = s.compositor := rfl
@[simp] theorem repoint_bus : (repoint s).bus = s.bus := rfl
@[simp] theorem repoint_supply : (repoint s).supply = s.supply := rfl
@[simp] theorem repoint_counters : (repoint s).counters = s.counters := rfl
@[simp] theorem repoint_ports : (repoint s).ports = s.ports := rfl
@[simp] theorem repoint_draws : (repoint s).draws = s.draws := rfl
@[simp] theorem repoint_pending : (repoint s).pending = s.pending := rfl

/-! ### endLoad -/

@[simp] theorem endLoad_core : (endLoad s).core = s.core := rfl
@[simp] theorem endLoad_clock : (endLoad s).clock = s.clock := rfl
@[simp] theorem endLoad_store : (endLoad s).store = s.store := rfl
@[simp] theorem endLoad_detector : (endLoad s).detector = s.detector := rfl
@[simp] theorem endLoad_fares : (endLoad s).fares = s.fares := rfl
@[simp] theorem endLoad_revoked : (endLoad s).revoked = s.revoked := rfl
@[simp] theorem endLoad_sales : (endLoad s).sales = s.sales := rfl
@[simp] theorem endLoad_journal : (endLoad s).journal = s.journal := rfl
@[simp] theorem endLoad_scheduler : (endLoad s).scheduler = s.scheduler := rfl
@[simp] theorem endLoad_compositor : (endLoad s).compositor = s.compositor := rfl
@[simp] theorem endLoad_bus : (endLoad s).bus = s.bus := rfl
@[simp] theorem endLoad_supply :
    (endLoad s).supply = { s.supply with load := none } := rfl
@[simp] theorem endLoad_counters : (endLoad s).counters = s.counters := rfl
@[simp] theorem endLoad_ports : (endLoad s).ports = s.ports := rfl
@[simp] theorem endLoad_draws : (endLoad s).draws = s.draws := rfl
@[simp] theorem endLoad_pending : (endLoad s).pending = s.pending := rfl

/-! ### endLoadAtLimit -/

@[simp] theorem endLoadAtLimit_of_none (h : s.supply.load = none) : endLoadAtLimit s = s := by
  simp [endLoadAtLimit, h]
theorem endLoadAtLimit_of_some {l : LoadPeriod} (h : s.supply.load = some l) :
    endLoadAtLimit s = if l.limitTimer = 0 then overrunLoad s else s := by
  simp [endLoadAtLimit, h]

/-! ### stopDisplay -/

@[simp] theorem stopDisplay_core : (stopDisplay s).core = s.core := rfl
@[simp] theorem stopDisplay_clock : (stopDisplay s).clock = s.clock := rfl
@[simp] theorem stopDisplay_store : (stopDisplay s).store = s.store := rfl
@[simp] theorem stopDisplay_detector : (stopDisplay s).detector = s.detector := rfl
@[simp] theorem stopDisplay_fares : (stopDisplay s).fares = s.fares := rfl
@[simp] theorem stopDisplay_revoked : (stopDisplay s).revoked = s.revoked := rfl
@[simp] theorem stopDisplay_sales : (stopDisplay s).sales = s.sales := rfl
@[simp] theorem stopDisplay_journal : (stopDisplay s).journal = s.journal := rfl
@[simp] theorem stopDisplay_scheduler : (stopDisplay s).scheduler = s.scheduler := rfl
@[simp] theorem stopDisplay_compositor : (stopDisplay s).compositor = s.compositor := rfl
@[simp] theorem stopDisplay_supply : (stopDisplay s).supply = s.supply := rfl
@[simp] theorem stopDisplay_counters : (stopDisplay s).counters = s.counters := rfl
@[simp] theorem stopDisplay_ports : (stopDisplay s).ports = s.ports := rfl
@[simp] theorem stopDisplay_draws : (stopDisplay s).draws = s.draws := rfl
@[simp] theorem stopDisplay_pending : (stopDisplay s).pending = s.pending := rfl

end Sys2Proof.Machine
end

