-- ==== Sys2Proof/Laws/Ops.lean ====
section
/-! SUPPORT. Laws/Ops.lean: what each shared operation does, said once. Per-port values, sets, notices,
counters, closure reasons, journal appends, and the hearing and answering of a request frame. -/

namespace Sys2Proof.Machine

/-! ## Per-port values -/

@[simp] theorem PerPort.get_set_self {α : Type} (x : PerPort α) (p : Port) (a : α) :
    (x.set p a).get p = a := by cases p <;> rfl

theorem PerPort.get_set_of_ne {α : Type} (x : PerPort α) {p q : Port} (a : α) (h : q ≠ p) :
    (x.set p a).get q = x.get q := by cases p <;> cases q <;> first | rfl | exact absurd rfl h

theorem PerPort.get_set {α : Type} (x : PerPort α) (p q : Port) (a : α) :
    (x.set p a).get q = if q = p then a else x.get q := by cases p <;> cases q <;> rfl

@[simp] theorem PerPort.get_imap {α β : Type} (f : Port → α → β) (x : PerPort α) (p : Port) :
    (x.imap f).get p = f p (x.get p) := by cases p <;> rfl

@[simp] theorem PerPort.set_get {α : Type} (x : PerPort α) (p : Port) : x.set p (x.get p) = x := by
  cases p <;> rfl

@[simp] theorem PerPort.set_set {α : Type} (x : PerPort α) (p : Port) (a b : α) :
    (x.set p a).set p b = x.set p b := by cases p <;> rfl

theorem PerPort.set_comm {α : Type} (x : PerPort α) {p q : Port} (a b : α) (h : p ≠ q) :
    (x.set p a).set q b = (x.set q b).set p a := by
  cases p <;> cases q <;> first | rfl | exact absurd rfl h

/-- Per-port values are equal when each port's are. -/
theorem PerPort.eq_of_get {α : Type} {x y : PerPort α} (h : ∀ p, x.get p = y.get p) : x = y := by
  have a := h .terminal
  have b := h .link
  have c := h .service
  cases x; cases y; simp_all [PerPort.get]

/-! ## Sets in bit order -/

theorem Reason.mem_all (r : Reason) : r ∈ Reason.all := by cases r <;> decide

theorem Notice.mem_all (k : Notice) : k ∈ Notice.all := by cases k <;> decide

theorem RightsClass.mem_all (c : RightsClass) : c ∈ RightsClass.all := by cases c <;> decide

theorem Reason.nodup_all : Reason.all.Nodup := by decide

theorem Notice.nodup_all : Notice.all.Nodup := by decide

theorem RightsClass.nodup_all : RightsClass.all.Nodup := by decide

section Sets

variable {α : Type} [DecidableEq α]

theorem mem_setInsert {all l : List α} {x y : α} (h : y ∈ all) :
    y ∈ setInsert all x l ↔ y = x ∨ y ∈ l := by simp [setInsert, h]

@[simp] theorem mem_setInsert_reason {r x : Reason} {l : List Reason} :
    r ∈ setInsert Reason.all x l ↔ r = x ∨ r ∈ l := mem_setInsert (Reason.mem_all r)

@[simp] theorem mem_setInsert_notice {k x : Notice} {l : List Notice} :
    k ∈ setInsert Notice.all x l ↔ k = x ∨ k ∈ l := mem_setInsert (Notice.mem_all k)

@[simp] theorem mem_setErase {x y : α} {l : List α} : y ∈ setErase x l ↔ y ∈ l ∧ y ≠ x := by
  simp [setErase]

theorem setInsert_sublist (all l : List α) (x : α) : (setInsert all x l).Sublist all :=
  List.filter_sublist

theorem setErase_sublist {all l : List α} (x : α) (h : l.Sublist all) :
    (setErase x l).Sublist all := List.filter_sublist.trans h

@[simp] theorem setErase_of_not_mem {x : α} {l : List α} (h : x ∉ l) : setErase x l = l := by
  simp only [setErase, List.filter_eq_self, decide_eq_true_eq]
  exact fun y hy e => h (e ▸ hy)

/-- A sublist of a list without repeats is what a filter by its membership keeps. -/
theorem filter_mem_of_sublist {all l : List α} (h : l.Sublist all) (n : all.Nodup) :
    all.filter (fun y => decide (y ∈ l)) = l := by
  induction h with
  | slnil => rfl
  | @cons l₁ l₂ a s ih =>
    have ha : a ∉ l₁ := fun m => (List.nodup_cons.mp n).1 (s.subset m)
    simp [ha, ih (List.nodup_cons.mp n).2]
  | @cons_cons l₁ l₂ a s ih =>
    obtain ⟨na, nl⟩ := List.nodup_cons.mp n
    have e : l₂.filter (fun y => decide (y ∈ a :: l₁)) = l₂.filter (fun y => decide (y ∈ l₁)) := by
      apply List.filter_congr
      intro y hy
      have : y ≠ a := fun c => na (c ▸ hy)
      simp [this]
    rw [List.filter_cons_of_pos (by simp), e, ih nl]

/-- Inserting a member that is held changes nothing. -/
theorem setInsert_of_mem {all l : List α} {x : α} (h : l.Sublist all) (n : all.Nodup) (m : x ∈ l) :
    setInsert all x l = l := by
  have e : (fun y => decide (y = x ∨ y ∈ l)) = fun y => decide (y ∈ l) := by
    funext y
    have : (y = x ∨ y ∈ l) ↔ y ∈ l := ⟨fun c => c.elim (fun e => e ▸ m) id, Or.inr⟩
    simp only [this]
  rw [setInsert, e, filter_mem_of_sublist h n]

end Sets

/-! ## Notices -/

theorem hasNotice_postTo {k k' : Notice} {l : List Port} {p : Port} {s : State} :
    (postTo k l s).hasNotice p k' ↔ s.hasNotice p k' ∨ (p ∈ l ∧ k' = k) := by
  unfold State.hasNotice
  simp only [postTo_ports, PerPort.get_imap]
  by_cases h : p ∈ l
  · simp [h, PortControl.noticed, or_comm]
  · simp [h]

theorem hasNotice_post {k k' : Notice} {p : Port} {s : State} :
    (post k s).hasNotice p k' ↔ s.hasNotice p k' ∨ (p ∈ k.recipients ∧ k' = k) := hasNotice_postTo

theorem portsKeptButNotices_refl (s : State) : portsKeptButNotices s s := fun _ => rfl

theorem portsKeptButNotices.trans {s t u : State} (a : portsKeptButNotices s t)
    (b : portsKeptButNotices t u) : portsKeptButNotices s u := fun p => by rw [b p, a p]

theorem portsKeptButNotices_of_eq {s t : State} (h : t.ports = s.ports) : portsKeptButNotices s t :=
  fun _ => by rw [h]

theorem portsKeptButNotices_postTo (k : Notice) (l : List Port) (s : State) :
    portsKeptButNotices s (postTo k l s) := fun p => by
  simp only [postTo_ports, PerPort.get_imap]
  split <;> rfl

theorem portsKeptButNotices_post (k : Notice) (s : State) : portsKeptButNotices s (post k s) :=
  portsKeptButNotices_postTo k _ s

/-- A port's controller after a notice, its notice set aside. -/
@[simp] theorem PortControl.noticed_slot (k : Notice) (c : PortControl) : (c.noticed k).slot = c.slot := rfl

@[simp] theorem PortControl.noticed_rights (k : Notice) (c : PortControl) :
    (c.noticed k).rights = c.rights := rfl

@[simp] theorem PortControl.noticed_condition (k : Notice) (c : PortControl) :
    (c.noticed k).condition = c.condition := rfl

@[simp] theorem PortControl.noticed_notices (k : Notice) (c : PortControl) :
    (c.noticed k).notices = setInsert Notice.all k c.notices := rfl

/-! ## Counters -/

theorem Counter.index_inj {c d : Counter} (h : c.index = d.index) : c = d := by
  revert h
  cases c <;> cases d <;> decide

theorem counter_countBy (c d : Counter) (n : Nat) (s : State) :
    (countBy c n s).counter d = if d = c then s.counterPlus c n else s.counter d := by
  unfold State.counter State.counterPlus
  simp only [countBy_counters]
  by_cases h : d = c
  · subst h
    simp [State.counter]
  · have e : ¬ c.index.val = d.index.val := fun e => h (Counter.index_inj (Fin.ext e)).symm
    simp [h, e]

@[simp] theorem counter_countBy_self (c : Counter) (n : Nat) (s : State) :
    (countBy c n s).counter c = s.counterPlus c n := by simp [counter_countBy]

theorem counter_countBy_of_ne {c d : Counter} (n : Nat) (s : State) (h : d ≠ c) :
    (countBy c n s).counter d = s.counter d := by simp [counter_countBy, h]

theorem counter_count (c d : Counter) (s : State) :
    (count c s).counter d = if d = c then s.counterPlus c 1 else s.counter d := counter_countBy c d 1 s

theorem counter_of_counters {s t : State} (h : t.counters = s.counters) (c : Counter) :
    t.counter c = s.counter c := by unfold State.counter; rw [h]

theorem counterPlus_of_counters {s t : State} (h : t.counters = s.counters) (c : Counter) (n : Nat) :
    t.counterPlus c n = s.counterPlus c n := by
  unfold State.counterPlus; rw [counter_of_counters h]

theorem countsOnly_of_counters {l : List Counter} {s t : State} (h : t.counters = s.counters) :
    countsOnly l s t := fun c _ => counter_of_counters h c

/-! ## The closure reason set -/

/-- What a change of the reason set does, whole: the set, SALES_STATE on the terminal and service ports when
it changed, and nothing else. -/
theorem changeReasons_eq (rs : List Reason) (s : State) :
    (rs = s.sales.reasons ∧ changeReasons rs s = s) ∨
    (rs ≠ s.sales.reasons ∧ changeReasons rs s =
      post .salesState { s with sales := { s.sales with reasons := rs } }) := by
  unfold changeReasons
  split
  · exact .inl ⟨‹_›, rfl⟩
  · exact .inr ⟨‹_›, rfl⟩

@[simp] theorem changeReasons_sales (rs : List Reason) (s : State) :
    (changeReasons rs s).sales = { s.sales with reasons := rs } := by
  rcases changeReasons_eq rs s with ⟨e, h⟩ | ⟨_, h⟩
  · rw [h, e]
  · rw [h]; rfl

theorem portsKeptButNotices_changeReasons (rs : List Reason) (s : State) :
    portsKeptButNotices s (changeReasons rs s) := by
  rcases changeReasons_eq rs s with ⟨_, h⟩ | ⟨_, h⟩
  · rw [h]; exact portsKeptButNotices_refl s
  · rw [h]; exact portsKeptButNotices_post _ _

theorem hasNotice_changeReasons {rs : List Reason} {s : State} {p : Port} {k : Notice} :
    (changeReasons rs s).hasNotice p k ↔
      s.hasNotice p k ∨ (rs ≠ s.sales.reasons ∧ p ≠ .link ∧ k = .salesState) := by
  rcases changeReasons_eq rs s with ⟨e, h⟩ | ⟨e, h⟩
  · rw [h]; simp [e]
  · rw [h, hasNotice_post]
    have : (p ∈ Notice.recipients .salesState) ↔ p ≠ .link := by cases p <;> decide
    simp [this, e, State.hasNotice]

@[simp] theorem addReason_sales (r : Reason) (s : State) :
    (addReason r s).sales = { s.sales with reasons := setInsert Reason.all r s.sales.reasons } :=
  changeReasons_sales _ s

@[simp] theorem removeReason_sales (r : Reason) (s : State) :
    (removeReason r s).sales = { s.sales with reasons := setErase r s.sales.reasons } :=
  changeReasons_sales _ s

theorem portsKeptButNotices_addReason (r : Reason) (s : State) : portsKeptButNotices s (addReason r s) :=
  portsKeptButNotices_changeReasons _ s

theorem portsKeptButNotices_removeReason (r : Reason) (s : State) :
    portsKeptButNotices s (removeReason r s) := portsKeptButNotices_changeReasons _ s

/-! ## Journal messages and appends -/

theorem freeMessage_eq (before : Journal) (s : State) :
    (2 ≤ before.free ∧ s.journal.free < 2 ∧ freeMessage before s = addReason .journalFull s) ∨
    (before.free < 2 ∧ 2 ≤ s.journal.free ∧ freeMessage before s = removeReason .journalFull s) ∨
    ((before.free < 2 ↔ s.journal.free < 2) ∧ freeMessage before s = s) := by
  unfold freeMessage
  split
  · exact .inl ⟨‹_ ∧ _›.1, ‹_ ∧ _›.2, rfl⟩
  · split
    · exact .inr (.inl ⟨‹_ ∧ _›.1, ‹_ ∧ _›.2, rfl⟩)
    · refine .inr (.inr ⟨?_, rfl⟩)
      omega

theorem portsKeptButNotices_freeMessage (before : Journal) (s : State) :
    portsKeptButNotices s (freeMessage before s) := by
  rcases freeMessage_eq before s with ⟨_, _, h⟩ | ⟨_, _, h⟩ | ⟨_, h⟩ <;> rw [h]
  · exact portsKeptButNotices_addReason _ s
  · exact portsKeptButNotices_removeReason _ s
  · exact portsKeptButNotices_refl s

theorem uploadDue_eq (before s : State) :
    (before.linkReady = false ∧ s.linkReady = true ∧ uploadDue before s = post .uploadDue s) ∨
    ((before.linkReady = true ∨ s.linkReady = false) ∧ uploadDue before s = s) := by
  unfold uploadDue
  cases h : before.linkReady <;> cases h' : s.linkReady <;> simp

theorem portsKeptButNotices_uploadDue (before s : State) :
    portsKeptButNotices s (uploadDue before s) := by
  rcases uploadDue_eq before s with ⟨_, _, h⟩ | ⟨_, h⟩ <;> rw [h]
  · exact portsKeptButNotices_post _ s
  · exact portsKeptButNotices_refl s

theorem hasNotice_uploadDue {before s : State} {p : Port} {k : Notice} :
    (uploadDue before s).hasNotice p k ↔ s.hasNotice p k ∨
      (p = .link ∧ k = .uploadDue ∧ before.linkReady = false ∧ s.linkReady = true) := by
  rcases uploadDue_eq before s with ⟨a, b, h⟩ | ⟨a, h⟩ <;> rw [h]
  · rw [hasNotice_post]
    have : (p ∈ Notice.recipients .uploadDue) ↔ p = .link := by cases p <;> decide
    simp [this, a, b]
  · rcases a with a | a <;> simp [a]

/-- What an append does: a drop, counted, or an entry with its two messages. -/
theorem append_eq (k : EntryKind) (s : State) :
    (s.journal.free < k.room ∧ append k s = count .journalDropped s) ∨
    (k.room ≤ s.journal.free ∧
      append k s = uploadDue s (freeMessage s.journal (pushEntry k s))) := by
  unfold append
  split
  · exact .inl ⟨‹_›, rfl⟩
  · exact .inr ⟨Nat.le_of_not_lt ‹_›, rfl⟩

theorem portsKeptButNotices_append (k : EntryKind) (s : State) : portsKeptButNotices s (append k s) := by
  rcases append_eq k s with ⟨_, h⟩ | ⟨_, h⟩ <;> rw [h]
  · exact portsKeptButNotices_of_eq rfl
  · exact ((portsKeptButNotices_of_eq (s := s) (t := pushEntry k s) rfl).trans
      (portsKeptButNotices_freeMessage _ _)).trans (portsKeptButNotices_uploadDue _ _)

/-! ## Hearing and answering a frame -/

/-- Hearing a frame changes the data output's record, and on the terminal port the silence timer. -/
theorem hear_eq (p : Port) (n : Nat) (s : State) :
    hear p n s =
      { s with
        ports := s.ports.set p { s.ports.get p with dataOut := List.replicate n filler }
        sales := if p = .terminal then { s.sales with silence := some 300, silent := false }
          else s.sales } := by
  cases p <;> rfl

theorem discardUnread_eq (p : Port) (s : State) :
    ((s.ports.get p).slot.isSome = true ∧ discardUnread p s =
      count .portFrameErrors (setPort p { s.ports.get p with slot := none, overrun := true } s)) ∨
    ((s.ports.get p).slot = none ∧ discardUnread p s = s) := by
  unfold discardUnread
  split
  · exact .inl ⟨‹_›, rfl⟩
  · exact .inr ⟨Option.not_isSome_iff_eq_none.mp ‹_›, rfl⟩

/-- A request that is admitted and fits is the owner's, between the hearing and the reply. -/
theorem request_admitted {p : Port} {c : ReqCode} {body : List Byte} {owner : Owner} {s : State}
    (h : s.admits p c) (fit : c.fits body = true) :
    request p c body owner s =
      makeReply p c.byte (owner (hear p (body.length + 2) s)).2
        (owner (hear p (body.length + 2) s)).1 := by
  have e : reqClass c ∈ ((hear p (body.length + 2) s).ports.get p).rights := by
    rw [hear_eq]; simpa using h.2
  simp [request, h.1, decideRequest, e, fit]

/-- The same, for an owner that does as much to the state before the hearing as after it. -/
theorem request_answered {p : Port} {c : ReqCode} {body : List Byte} {owner : Owner} {s u : State}
    {a : Answer} (h : s.admits p c) (fit : c.fits body = true)
    (own : owner (hear p (body.length + 2) s) = (hear p (body.length + 2) u, a)) :
    request p c body owner s = answered p c.byte body.length a u := by
  rw [request_admitted h fit, own]; rfl

/-- A request without the right is refused with NOT_PERMITTED. -/
theorem request_not_permitted {p : Port} {c : ReqCode} {body : List Byte} {owner : Owner} {s : State}
    (r : s.receives p = true) (h : reqClass c ∉ (s.ports.get p).rights) :
    request p c body owner s = answered p c.byte body.length (.refuse .notPermitted) s := by
  have e : reqClass c ∉ ((hear p (body.length + 2) s).ports.get p).rights := by
    rw [hear_eq]; simpa using h
  simp [request, r, decideRequest, e, answered]

/-- A request with a wrong length is refused with BAD_REQUEST. -/
theorem request_wrong_length {p : Port} {c : ReqCode} {body : List Byte} {owner : Owner} {s : State}
    (h : s.admits p c) (fit : c.fits body = false) :
    request p c body owner s = answered p c.byte body.length (.refuse .badRequest) s := by
  have e : reqClass c ∈ ((hear p (body.length + 2) s).ports.get p).rights := by
    rw [hear_eq]; simpa using h.2
  simp [request, h.1, decideRequest, e, fit, answered]

/-- An owner that answers the same result and makes the same change whether or not a frame on port `p` has
just been heard. -/
def HearsAlike (p : Port) (n : Nat) (f : State → State) : Prop := ∀ s, f (hear p n s) = hear p n (f s)

theorem HearsAlike.comp {p : Port} {n : Nat} {f g : State → State} (a : HearsAlike p n f)
    (b : HearsAlike p n g) : HearsAlike p n (fun s => g (f s)) := fun s => by
  show g (f (hear p n s)) = hear p n (g (f s))
  rw [a s, b (f s)]

/-- With the core supply up an event's operation acts. -/
theorem whenUp_of_up {f : State → State} {s : State} (h : s.core = .up) : whenUp f s = f s := by
  simp [whenUp, State.running, h]

/-- While the core supply is down it does not. -/
theorem whenUp_of_down {f : State → State} {s : State} (h : s.core = .down) : whenUp f s = s := by
  simp [whenUp, State.running, h]

end Sys2Proof.Machine
end

