-- ==== Sys2Proof/Laws/Frames.lean ====
section
/-! SUPPORT. Laws/Frames.lean: for each shared operation, the fields of the state it leaves as they are. -/

namespace Sys2Proof.Machine

variable (s : State)

/-! ### changeReasons -/

@[simp] theorem changeReasons_core (rs : List Reason) : (changeReasons rs s).core = s.core := by
  unfold changeReasons; split <;> rfl
@[simp] theorem changeReasons_clock (rs : List Reason) : (changeReasons rs s).clock = s.clock := by
  unfold changeReasons; split <;> rfl
@[simp] theorem changeReasons_store (rs : List Reason) : (changeReasons rs s).store = s.store := by
  unfold changeReasons; split <;> rfl
@[simp] theorem changeReasons_detector (rs : List Reason) : (changeReasons rs s).detector = s.detector := by
  unfold changeReasons; split <;> rfl
@[simp] theorem changeReasons_fares (rs : List Reason) : (changeReasons rs s).fares = s.fares := by
  unfold changeReasons; split <;> rfl
@[simp] theorem changeReasons_revoked (rs : List Reason) : (changeReasons rs s).revoked = s.revoked := by
  unfold changeReasons; split <;> rfl
@[simp] theorem changeReasons_journal (rs : List Reason) : (changeReasons rs s).journal = s.journal := by
  unfold changeReasons; split <;> rfl
@[simp] theorem changeReasons_scheduler (rs : List Reason) : (changeReasons rs s).scheduler = s.scheduler := by
  unfold changeReasons; split <;> rfl
@[simp] theorem changeReasons_compositor (rs : List Reason) : (changeReasons rs s).compositor = s.compositor := by
  unfold changeReasons; split <;> rfl
@[simp] theorem changeReasons_bus (rs : List Reason) : (changeReasons rs s).bus = s.bus := by
  unfold changeReasons; split <;> rfl
@[simp] theorem changeReasons_supply (rs : List Reason) : (changeReasons rs s).supply = s.supply := by
  unfold changeReasons; split <;> rfl
@[simp] theorem changeReasons_counters (rs : List Reason) : (changeReasons rs s).counters = s.counters := by
  unfold changeReasons; split <;> rfl
@[simp] theorem changeReasons_draws (rs : List Reason) : (changeReasons rs s).draws = s.draws := by
  unfold changeReasons; split <;> rfl
@[simp] theorem changeReasons_pending (rs : List Reason) : (changeReasons rs s).pending = s.pending := by
  unfold changeReasons; split <;> rfl

/-! ### addReason -/

@[simp] theorem addReason_core (r : Reason) : (addReason r s).core = s.core := by
  simp [addReason]
@[simp] theorem addReason_clock (r : Reason) : (addReason r s).clock = s.clock := by
  simp [addReason]
@[simp] theorem addReason_store (r : Reason) : (addReason r s).store = s.store := by
  simp [addReason]
@[simp] theorem addReason_detector (r : Reason) : (addReason r s).detector = s.detector := by
  simp [addReason]
@[simp] theorem addReason_fares (r : Reason) : (addReason r s).fares = s.fares := by
  simp [addReason]
@[simp] theorem addReason_revoked (r : Reason) : (addReason r s).revoked = s.revoked := by
  simp [addReason]
@[simp] theorem addReason_journal (r : Reason) : (addReason r s).journal = s.journal := by
  simp [addReason]
@[simp] theorem addReason_scheduler (r : Reason) : (addReason r s).scheduler = s.scheduler := by
  simp [addReason]
@[simp] theorem addReason_compositor (r : Reason) : (addReason r s).compositor = s.compositor := by
  simp [addReason]
@[simp] theorem addReason_bus (r : Reason) : (addReason r s).bus = s.bus := by
  simp [addReason]
@[simp] theorem addReason_supply (r : Reason) : (addReason r s).supply = s.supply := by
  simp [addReason]
@[simp] theorem addReason_counters (r : Reason) : (addReason r s).counters = s.counters := by
  simp [addReason]
@[simp] theorem addReason_draws (r : Reason) : (addReason r s).draws = s.draws := by
  simp [addReason]
@[simp] theorem addReason_pending (r : Reason) : (addReason r s).pending = s.pending := by
  simp [addReason]

/-! ### removeReason -/

@[simp] theorem removeReason_core (r : Reason) : (removeReason r s).core = s.core := by
  simp [removeReason]
@[simp] theorem removeReason_clock (r : Reason) : (removeReason r s).clock = s.clock := by
  simp [removeReason]
@[simp] theorem removeReason_store (r : Reason) : (removeReason r s).store = s.store := by
  simp [removeReason]
@[simp] theorem removeReason_detector (r : Reason) : (removeReason r s).detector = s.detector := by
  simp [removeReason]
@[simp] theorem removeReason_fares (r : Reason) : (removeReason r s).fares = s.fares := by
  simp [removeReason]
@[simp] theorem removeReason_revoked (r : Reason) : (removeReason r s).revoked = s.revoked := by
  simp [removeReason]
@[simp] theorem removeReason_journal (r : Reason) : (removeReason r s).journal = s.journal := by
  simp [removeReason]
@[simp] theorem removeReason_scheduler (r : Reason) : (removeReason r s).scheduler = s.scheduler := by
  simp [removeReason]
@[simp] theorem removeReason_compositor (r : Reason) : (removeReason r s).compositor = s.compositor := by
  simp [removeReason]
@[simp] theorem removeReason_bus (r : Reason) : (removeReason r s).bus = s.bus := by
  simp [removeReason]
@[simp] theorem removeReason_supply (r : Reason) : (removeReason r s).supply = s.supply := by
  simp [removeReason]
@[simp] theorem removeReason_counters (r : Reason) : (removeReason r s).counters = s.counters := by
  simp [removeReason]
@[simp] theorem removeReason_draws (r : Reason) : (removeReason r s).draws = s.draws := by
  simp [removeReason]
@[simp] theorem removeReason_pending (r : Reason) : (removeReason r s).pending = s.pending := by
  simp [removeReason]

/-! ### freeMessage -/

@[simp] theorem freeMessage_core (j : Journal) : (freeMessage j s).core = s.core := by
  unfold freeMessage; (repeat' split) <;> simp
@[simp] theorem freeMessage_clock (j : Journal) : (freeMessage j s).clock = s.clock := by
  unfold freeMessage; (repeat' split) <;> simp
@[simp] theorem freeMessage_store (j : Journal) : (freeMessage j s).store = s.store := by
  unfold freeMessage; (repeat' split) <;> simp
@[simp] theorem freeMessage_detector (j : Journal) : (freeMessage j s).detector = s.detector := by
  unfold freeMessage; (repeat' split) <;> simp
@[simp] theorem freeMessage_fares (j : Journal) : (freeMessage j s).fares = s.fares := by
  unfold freeMessage; (repeat' split) <;> simp
@[simp] theorem freeMessage_revoked (j : Journal) : (freeMessage j s).revoked = s.revoked := by
  unfold freeMessage; (repeat' split) <;> simp
@[simp] theorem freeMessage_journal (j : Journal) : (freeMessage j s).journal = s.journal := by
  unfold freeMessage; (repeat' split) <;> simp
@[simp] theorem freeMessage_scheduler (j : Journal) : (freeMessage j s).scheduler = s.scheduler := by
  unfold freeMessage; (repeat' split) <;> simp
@[simp] theorem freeMessage_compositor (j : Journal) : (freeMessage j s).compositor = s.compositor := by
  unfold freeMessage; (repeat' split) <;> simp
@[simp] theorem freeMessage_bus (j : Journal) : (freeMessage j s).bus = s.bus := by
  unfold freeMessage; (repeat' split) <;> simp
@[simp] theorem freeMessage_supply (j : Journal) : (freeMessage j s).supply = s.supply := by
  unfold freeMessage; (repeat' split) <;> simp
@[simp] theorem freeMessage_counters (j : Journal) : (freeMessage j s).counters = s.counters := by
  unfold freeMessage; (repeat' split) <;> simp
@[simp] theorem freeMessage_draws (j : Journal) : (freeMessage j s).draws = s.draws := by
  unfold freeMessage; (repeat' split) <;> simp
@[simp] theorem freeMessage_pending (j : Journal) : (freeMessage j s).pending = s.pending := by
  unfold freeMessage; (repeat' split) <;> simp

/-! ### uploadDue -/

@[simp] theorem uploadDue_core (b : State) : (uploadDue b s).core = s.core := by
  unfold uploadDue; split <;> rfl
@[simp] theorem uploadDue_clock (b : State) : (uploadDue b s).clock = s.clock := by
  unfold uploadDue; split <;> rfl
@[simp] theorem uploadDue_store (b : State) : (uploadDue b s).store = s.store := by
  unfold uploadDue; split <;> rfl
@[simp] theorem uploadDue_detector (b : State) : (uploadDue b s).detector = s.detector := by
  unfold uploadDue; split <;> rfl
@[simp] theorem uploadDue_fares (b : State) : (uploadDue b s).fares = s.fares := by
  unfold uploadDue; split <;> rfl
@[simp] theorem uploadDue_revoked (b : State) : (uploadDue b s).revoked = s.revoked := by
  unfold uploadDue; split <;> rfl
@[simp] theorem uploadDue_sales (b : State) : (uploadDue b s).sales = s.sales := by
  unfold uploadDue; split <;> rfl
@[simp] theorem uploadDue_journal (b : State) : (uploadDue b s).journal = s.journal := by
  unfold uploadDue; split <;> rfl
@[simp] theorem uploadDue_scheduler (b : State) : (uploadDue b s).scheduler = s.scheduler := by
  unfold uploadDue; split <;> rfl
@[simp] theorem uploadDue_compositor (b : State) : (uploadDue b s).compositor = s.compositor := by
  unfold uploadDue; split <;> rfl
@[simp] theorem uploadDue_bus (b : State) : (uploadDue b s).bus = s.bus := by
  unfold uploadDue; split <;> rfl
@[simp] theorem uploadDue_supply (b : State) : (uploadDue b s).supply = s.supply := by
  unfold uploadDue; split <;> rfl
@[simp] theorem uploadDue_counters (b : State) : (uploadDue b s).counters = s.counters := by
  unfold uploadDue; split <;> rfl
@[simp] theorem uploadDue_draws (b : State) : (uploadDue b s).draws = s.draws := by
  unfold uploadDue; split <;> rfl
@[simp] theorem uploadDue_pending (b : State) : (uploadDue b s).pending = s.pending := by
  unfold uploadDue; split <;> rfl

/-! ### pushEntry -/

@[simp] theorem pushEntry_core (k : EntryKind) : (pushEntry k s).core = s.core := rfl
@[simp] theorem pushEntry_clock (k : EntryKind) : (pushEntry k s).clock = s.clock := rfl
@[simp] theorem pushEntry_store (k : EntryKind) : (pushEntry k s).store = s.store := rfl
@[simp] theorem pushEntry_detector (k : EntryKind) : (pushEntry k s).detector = s.detector := rfl
@[simp] theorem pushEntry_fares (k : EntryKind) : (pushEntry k s).fares = s.fares := rfl
@[simp] theorem pushEntry_revoked (k : EntryKind) : (pushEntry k s).revoked = s.revoked := rfl
@[simp] theorem pushEntry_sales (k : EntryKind) : (pushEntry k s).sales = s.sales := rfl
@[simp] theorem pushEntry_scheduler (k : EntryKind) : (pushEntry k s).scheduler = s.scheduler := rfl
@[simp] theorem pushEntry_compositor (k : EntryKind) : (pushEntry k s).compositor = s.compositor := rfl
@[simp] theorem pushEntry_bus (k : EntryKind) : (pushEntry k s).bus = s.bus := rfl
@[simp] theorem pushEntry_supply (k : EntryKind) : (pushEntry k s).supply = s.supply := rfl
@[simp] theorem pushEntry_counters (k : EntryKind) : (pushEntry k s).counters = s.counters := rfl
@[simp] theorem pushEntry_ports (k : EntryKind) : (pushEntry k s).ports = s.ports := rfl
@[simp] theorem pushEntry_draws (k : EntryKind) : (pushEntry k s).draws = s.draws := rfl
@[simp] theorem pushEntry_pending (k : EntryKind) : (pushEntry k s).pending = s.pending := rfl

/-! ### append -/

@[simp] theorem append_core (k : EntryKind) : (append k s).core = s.core := by
  unfold append; split <;> simp
@[simp] theorem append_clock (k : EntryKind) : (append k s).clock = s.clock := by
  unfold append; split <;> simp
@[simp] theorem append_store (k : EntryKind) : (append k s).store = s.store := by
  unfold append; split <;> simp
@[simp] theorem append_detector (k : EntryKind) : (append k s).detector = s.detector := by
  unfold append; split <;> simp
@[simp] theorem append_fares (k : EntryKind) : (append k s).fares = s.fares := by
  unfold append; split <;> simp
@[simp] theorem append_revoked (k : EntryKind) : (append k s).revoked = s.revoked := by
  unfold append; split <;> simp
@[simp] theorem append_scheduler (k : EntryKind) : (append k s).scheduler = s.scheduler := by
  unfold append; split <;> simp
@[simp] theorem append_compositor (k : EntryKind) : (append k s).compositor = s.compositor := by
  unfold append; split <;> simp
@[simp] theorem append_bus (k : EntryKind) : (append k s).bus = s.bus := by
  unfold append; split <;> simp
@[simp] theorem append_supply (k : EntryKind) : (append k s).supply = s.supply := by
  unfold append; split <;> simp
@[simp] theorem append_draws (k : EntryKind) : (append k s).draws = s.draws := by
  unfold append; split <;> simp
@[simp] theorem append_pending (k : EntryKind) : (append k s).pending = s.pending := by
  unfold append; split <;> simp

/-! ### hear -/

@[simp] theorem hear_core (p : Port) (n : Nat) : (hear p n s).core = s.core := by
  cases p <;> rfl
@[simp] theorem hear_clock (p : Port) (n : Nat) : (hear p n s).clock = s.clock := by
  cases p <;> rfl
@[simp] theorem hear_store (p : Port) (n : Nat) : (hear p n s).store = s.store := by
  cases p <;> rfl
@[simp] theorem hear_detector (p : Port) (n : Nat) : (hear p n s).detector = s.detector := by
  cases p <;> rfl
@[simp] theorem hear_fares (p : Port) (n : Nat) : (hear p n s).fares = s.fares := by
  cases p <;> rfl
@[simp] theorem hear_revoked (p : Port) (n : Nat) : (hear p n s).revoked = s.revoked := by
  cases p <;> rfl
@[simp] theorem hear_journal (p : Port) (n : Nat) : (hear p n s).journal = s.journal := by
  cases p <;> rfl
@[simp] theorem hear_scheduler (p : Port) (n : Nat) : (hear p n s).scheduler = s.scheduler := by
  cases p <;> rfl
@[simp] theorem hear_compositor (p : Port) (n : Nat) : (hear p n s).compositor = s.compositor := by
  cases p <;> rfl
@[simp] theorem hear_bus (p : Port) (n : Nat) : (hear p n s).bus = s.bus := by
  cases p <;> rfl
@[simp] theorem hear_supply (p : Port) (n : Nat) : (hear p n s).supply = s.supply := by
  cases p <;> rfl
@[simp] theorem hear_counters (p : Port) (n : Nat) : (hear p n s).counters = s.counters := by
  cases p <;> rfl
@[simp] theorem hear_draws (p : Port) (n : Nat) : (hear p n s).draws = s.draws := by
  cases p <;> rfl
@[simp] theorem hear_pending (p : Port) (n : Nat) : (hear p n s).pending = s.pending := by
  cases p <;> rfl

/-! ### discardUnread -/

@[simp] theorem discardUnread_core (p : Port) : (discardUnread p s).core = s.core := by
  unfold discardUnread; split <;> simp
@[simp] theorem discardUnread_clock (p : Port) : (discardUnread p s).clock = s.clock := by
  unfold discardUnread; split <;> simp
@[simp] theorem discardUnread_store (p : Port) : (discardUnread p s).store = s.store := by
  unfold discardUnread; split <;> simp
@[simp] theorem discardUnread_detector (p : Port) : (discardUnread p s).detector = s.detector := by
  unfold discardUnread; split <;> simp
@[simp] theorem discardUnread_fares (p : Port) : (discardUnread p s).fares = s.fares := by
  unfold discardUnread; split <;> simp
@[simp] theorem discardUnread_revoked (p : Port) : (discardUnread p s).revoked = s.revoked := by
  unfold discardUnread; split <;> simp
@[simp] theorem discardUnread_sales (p : Port) : (discardUnread p s).sales = s.sales := by
  unfold discardUnread; split <;> simp
@[simp] theorem discardUnread_journal (p : Port) : (discardUnread p s).journal = s.journal := by
  unfold discardUnread; split <;> simp
@[simp] theorem discardUnread_scheduler (p : Port) : (discardUnread p s).scheduler = s.scheduler := by
  unfold discardUnread; split <;> simp
@[simp] theorem discardUnread_compositor (p : Port) : (discardUnread p s).compositor = s.compositor := by
  unfold discardUnread; split <;> simp
@[simp] theorem discardUnread_bus (p : Port) : (discardUnread p s).bus = s.bus := by
  unfold discardUnread; split <;> simp
@[simp] theorem discardUnread_supply (p : Port) : (discardUnread p s).supply = s.supply := by
  unfold discardUnread; split <;> simp
@[simp] theorem discardUnread_draws (p : Port) : (discardUnread p s).draws = s.draws := by
  unfold discardUnread; split <;> simp
@[simp] theorem discardUnread_pending (p : Port) : (discardUnread p s).pending = s.pending := by
  unfold discardUnread; split <;> simp

/-! ### makeReply -/

@[simp] theorem makeReply_core (p : Port) (c : Byte) (a : Answer) : (makeReply p c a s).core = s.core := by
  simp [makeReply]
@[simp] theorem makeReply_clock (p : Port) (c : Byte) (a : Answer) : (makeReply p c a s).clock = s.clock := by
  simp [makeReply]
@[simp] theorem makeReply_store (p : Port) (c : Byte) (a : Answer) : (makeReply p c a s).store = s.store := by
  simp [makeReply]
@[simp] theorem makeReply_detector (p : Port) (c : Byte) (a : Answer) : (makeReply p c a s).detector = s.detector := by
  simp [makeReply]
@[simp] theorem makeReply_fares (p : Port) (c : Byte) (a : Answer) : (makeReply p c a s).fares = s.fares := by
  simp [makeReply]
@[simp] theorem makeReply_revoked (p : Port) (c : Byte) (a : Answer) : (makeReply p c a s).revoked = s.revoked := by
  simp [makeReply]
@[simp] theorem makeReply_sales (p : Port) (c : Byte) (a : Answer) : (makeReply p c a s).sales = s.sales := by
  simp [makeReply]
@[simp] theorem makeReply_journal (p : Port) (c : Byte) (a : Answer) : (makeReply p c a s).journal = s.journal := by
  simp [makeReply]
@[simp] theorem makeReply_scheduler (p : Port) (c : Byte) (a : Answer) : (makeReply p c a s).scheduler = s.scheduler := by
  simp [makeReply]
@[simp] theorem makeReply_compositor (p : Port) (c : Byte) (a : Answer) : (makeReply p c a s).compositor = s.compositor := by
  simp [makeReply]
@[simp] theorem makeReply_bus (p : Port) (c : Byte) (a : Answer) : (makeReply p c a s).bus = s.bus := by
  simp [makeReply]
@[simp] theorem makeReply_supply (p : Port) (c : Byte) (a : Answer) : (makeReply p c a s).supply = s.supply := by
  simp [makeReply]
@[simp] theorem makeReply_draws (p : Port) (c : Byte) (a : Answer) : (makeReply p c a s).draws = s.draws := by
  simp [makeReply]
@[simp] theorem makeReply_pending (p : Port) (c : Byte) (a : Answer) : (makeReply p c a s).pending = s.pending := by
  simp [makeReply]

/-! ### answered -/

@[simp] theorem answered_core (p : Port) (c : Byte) (n : Nat) (a : Answer) : (answered p c n a s).core = s.core := by
  simp [answered]
@[simp] theorem answered_clock (p : Port) (c : Byte) (n : Nat) (a : Answer) : (answered p c n a s).clock = s.clock := by
  simp [answered]
@[simp] theorem answered_store (p : Port) (c : Byte) (n : Nat) (a : Answer) : (answered p c n a s).store = s.store := by
  simp [answered]
@[simp] theorem answered_detector (p : Port) (c : Byte) (n : Nat) (a : Answer) : (answered p c n a s).detector = s.detector := by
  simp [answered]
@[simp] theorem answered_fares (p : Port) (c : Byte) (n : Nat) (a : Answer) : (answered p c n a s).fares = s.fares := by
  simp [answered]
@[simp] theorem answered_revoked (p : Port) (c : Byte) (n : Nat) (a : Answer) : (answered p c n a s).revoked = s.revoked := by
  simp [answered]
@[simp] theorem answered_journal (p : Port) (c : Byte) (n : Nat) (a : Answer) : (answered p c n a s).journal = s.journal := by
  simp [answered]
@[simp] theorem answered_scheduler (p : Port) (c : Byte) (n : Nat) (a : Answer) : (answered p c n a s).scheduler = s.scheduler := by
  simp [answered]
@[simp] theorem answered_compositor (p : Port) (c : Byte) (n : Nat) (a : Answer) : (answered p c n a s).compositor = s.compositor := by
  simp [answered]
@[simp] theorem answered_bus (p : Port) (c : Byte) (n : Nat) (a : Answer) : (answered p c n a s).bus = s.bus := by
  simp [answered]
@[simp] theorem answered_supply (p : Port) (c : Byte) (n : Nat) (a : Answer) : (answered p c n a s).supply = s.supply := by
  simp [answered]
@[simp] theorem answered_draws (p : Port) (c : Byte) (n : Nat) (a : Answer) : (answered p c n a s).draws = s.draws := by
  simp [answered]
@[simp] theorem answered_pending (p : Port) (c : Byte) (n : Nat) (a : Answer) : (answered p c n a s).pending = s.pending := by
  simp [answered]

/-! ### faresMessage -/

@[simp] theorem faresMessage_core (b c : Bool) : (faresMessage b c s).core = s.core := by
  unfold faresMessage; (repeat' split) <;> simp
@[simp] theorem faresMessage_clock (b c : Bool) : (faresMessage b c s).clock = s.clock := by
  unfold faresMessage; (repeat' split) <;> simp
@[simp] theorem faresMessage_store (b c : Bool) : (faresMessage b c s).store = s.store := by
  unfold faresMessage; (repeat' split) <;> simp
@[simp] theorem faresMessage_detector (b c : Bool) : (faresMessage b c s).detector = s.detector := by
  unfold faresMessage; (repeat' split) <;> simp
@[simp] theorem faresMessage_fares (b c : Bool) : (faresMessage b c s).fares = s.fares := by
  unfold faresMessage; (repeat' split) <;> simp
@[simp] theorem faresMessage_revoked (b c : Bool) : (faresMessage b c s).revoked = s.revoked := by
  unfold faresMessage; (repeat' split) <;> simp
@[simp] theorem faresMessage_journal (b c : Bool) : (faresMessage b c s).journal = s.journal := by
  unfold faresMessage; (repeat' split) <;> simp
@[simp] theorem faresMessage_scheduler (b c : Bool) : (faresMessage b c s).scheduler = s.scheduler := by
  unfold faresMessage; (repeat' split) <;> simp
@[simp] theorem faresMessage_compositor (b c : Bool) : (faresMessage b c s).compositor = s.compositor := by
  unfold faresMessage; (repeat' split) <;> simp
@[simp] theorem faresMessage_bus (b c : Bool) : (faresMessage b c s).bus = s.bus := by
  unfold faresMessage; (repeat' split) <;> simp
@[simp] theorem faresMessage_supply (b c : Bool) : (faresMessage b c s).supply = s.supply := by
  unfold faresMessage; (repeat' split) <;> simp
@[simp] theorem faresMessage_counters (b c : Bool) : (faresMessage b c s).counters = s.counters := by
  unfold faresMessage; (repeat' split) <;> simp
@[simp] theorem faresMessage_draws (b c : Bool) : (faresMessage b c s).draws = s.draws := by
  unfold faresMessage; (repeat' split) <;> simp
@[simp] theorem faresMessage_pending (b c : Bool) : (faresMessage b c s).pending = s.pending := by
  unfold faresMessage; (repeat' split) <;> simp

/-! ### schedulerSuccess -/

@[simp] theorem schedulerSuccess_core : (schedulerSuccess s).core = s.core := rfl
@[simp] theorem schedulerSuccess_clock : (schedulerSuccess s).clock = s.clock := rfl
@[simp] theorem schedulerSuccess_store : (schedulerSuccess s).store = s.store := rfl
@[simp] theorem schedulerSuccess_detector : (schedulerSuccess s).detector = s.detector := rfl
@[simp] theorem schedulerSuccess_fares : (schedulerSuccess s).fares = s.fares := rfl
@[simp] theorem schedulerSuccess_revoked : (schedulerSuccess s).revoked = s.revoked := rfl
@[simp] theorem schedulerSuccess_sales : (schedulerSuccess s).sales = s.sales := rfl
@[simp] theorem schedulerSuccess_journal : (schedulerSuccess s).journal = s.journal := rfl
@[simp] theorem schedulerSuccess_compositor : (schedulerSuccess s).compositor = s.compositor := rfl
@[simp] theorem schedulerSuccess_bus : (schedulerSuccess s).bus = s.bus := rfl
@[simp] theorem schedulerSuccess_supply : (schedulerSuccess s).supply = s.supply := rfl
@[simp] theorem schedulerSuccess_counters : (schedulerSuccess s).counters = s.counters := rfl
@[simp] theorem schedulerSuccess_ports : (schedulerSuccess s).ports = s.ports := rfl
@[simp] theorem schedulerSuccess_draws : (schedulerSuccess s).draws = s.draws := rfl
@[simp] theorem schedulerSuccess_pending : (schedulerSuccess s).pending = s.pending := rfl

/-! ### schedulerFailure -/

@[simp] theorem schedulerFailure_core : (schedulerFailure s).core = s.core := by
  unfold schedulerFailure; dsimp only; (repeat' split) <;> rfl
@[simp] theorem schedulerFailure_clock : (schedulerFailure s).clock = s.clock := by
  unfold schedulerFailure; dsimp only; (repeat' split) <;> rfl
@[simp] theorem schedulerFailure_store : (schedulerFailure s).store = s.store := by
  unfold schedulerFailure; dsimp only; (repeat' split) <;> rfl
@[simp] theorem schedulerFailure_detector : (schedulerFailure s).detector = s.detector := by
  unfold schedulerFailure; dsimp only; (repeat' split) <;> rfl
@[simp] theorem schedulerFailure_fares : (schedulerFailure s).fares = s.fares := by
  unfold schedulerFailure; dsimp only; (repeat' split) <;> rfl
@[simp] theorem schedulerFailure_revoked : (schedulerFailure s).revoked = s.revoked := by
  unfold schedulerFailure; dsimp only; (repeat' split) <;> rfl
@[simp] theorem schedulerFailure_sales : (schedulerFailure s).sales = s.sales := by
  unfold schedulerFailure; dsimp only; (repeat' split) <;> rfl
@[simp] theorem schedulerFailure_journal : (schedulerFailure s).journal = s.journal := by
  unfold schedulerFailure; dsimp only; (repeat' split) <;> rfl
@[simp] theorem schedulerFailure_compositor : (schedulerFailure s).compositor = s.compositor := by
  unfold schedulerFailure; dsimp only; (repeat' split) <;> rfl
@[simp] theorem schedulerFailure_bus : (schedulerFailure s).bus = s.bus := by
  unfold schedulerFailure; dsimp only; (repeat' split) <;> rfl
@[simp] theorem schedulerFailure_supply : (schedulerFailure s).supply = s.supply := by
  unfold schedulerFailure; dsimp only; (repeat' split) <;> rfl
@[simp] theorem schedulerFailure_counters : (schedulerFailure s).counters = s.counters := by
  unfold schedulerFailure; dsimp only; (repeat' split) <;> rfl
@[simp] theorem schedulerFailure_ports : (schedulerFailure s).ports = s.ports := by
  unfold schedulerFailure; dsimp only; (repeat' split) <;> rfl
@[simp] theorem schedulerFailure_pending : (schedulerFailure s).pending = s.pending := by
  unfold schedulerFailure; dsimp only; (repeat' split) <;> rfl

/-! ### failBatch -/

@[simp] theorem failBatch_core (p : Port) : (failBatch p s).core = s.core := by
  cases p <;> simp [failBatch, ifLink]
@[simp] theorem failBatch_clock (p : Port) : (failBatch p s).clock = s.clock := by
  cases p <;> simp [failBatch, ifLink]
@[simp] theorem failBatch_store (p : Port) : (failBatch p s).store = s.store := by
  cases p <;> simp [failBatch, ifLink]
@[simp] theorem failBatch_detector (p : Port) : (failBatch p s).detector = s.detector := by
  cases p <;> simp [failBatch, ifLink]
@[simp] theorem failBatch_fares (p : Port) : (failBatch p s).fares = s.fares := by
  cases p <;> simp [failBatch, ifLink]
@[simp] theorem failBatch_revoked (p : Port) : (failBatch p s).revoked = s.revoked := by
  cases p <;> simp [failBatch, ifLink]
@[simp] theorem failBatch_sales (p : Port) : (failBatch p s).sales = s.sales := by
  cases p <;> simp [failBatch, ifLink]
@[simp] theorem failBatch_compositor (p : Port) : (failBatch p s).compositor = s.compositor := by
  cases p <;> simp [failBatch, ifLink]
@[simp] theorem failBatch_bus (p : Port) : (failBatch p s).bus = s.bus := by
  cases p <;> simp [failBatch, ifLink]
@[simp] theorem failBatch_supply (p : Port) : (failBatch p s).supply = s.supply := by
  cases p <;> simp [failBatch, ifLink]
@[simp] theorem failBatch_ports (p : Port) : (failBatch p s).ports = s.ports := by
  cases p <;> simp [failBatch, ifLink]
@[simp] theorem failBatch_pending (p : Port) : (failBatch p s).pending = s.pending := by
  cases p <;> simp [failBatch, ifLink]

/-! ### releaseBatch -/

@[simp] theorem releaseBatch_core (p : Port) : (releaseBatch p s).core = s.core := by
  unfold releaseBatch; (repeat' split) <;> simp
@[simp] theorem releaseBatch_clock (p : Port) : (releaseBatch p s).clock = s.clock := by
  unfold releaseBatch; (repeat' split) <;> simp
@[simp] theorem releaseBatch_store (p : Port) : (releaseBatch p s).store = s.store := by
  unfold releaseBatch; (repeat' split) <;> simp
@[simp] theorem releaseBatch_detector (p : Port) : (releaseBatch p s).detector = s.detector := by
  unfold releaseBatch; (repeat' split) <;> simp
@[simp] theorem releaseBatch_fares (p : Port) : (releaseBatch p s).fares = s.fares := by
  unfold releaseBatch; (repeat' split) <;> simp
@[simp] theorem releaseBatch_revoked (p : Port) : (releaseBatch p s).revoked = s.revoked := by
  unfold releaseBatch; (repeat' split) <;> simp
@[simp] theorem releaseBatch_sales (p : Port) : (releaseBatch p s).sales = s.sales := by
  unfold releaseBatch; (repeat' split) <;> simp
@[simp] theorem releaseBatch_scheduler (p : Port) : (releaseBatch p s).scheduler = s.scheduler := by
  unfold releaseBatch; (repeat' split) <;> simp
@[simp] theorem releaseBatch_compositor (p : Port) : (releaseBatch p s).compositor = s.compositor := by
  unfold releaseBatch; (repeat' split) <;> simp
@[simp] theorem releaseBatch_bus (p : Port) : (releaseBatch p s).bus = s.bus := by
  unfold releaseBatch; (repeat' split) <;> simp
@[simp] theorem releaseBatch_supply (p : Port) : (releaseBatch p s).supply = s.supply := by
  unfold releaseBatch; (repeat' split) <;> simp
@[simp] theorem releaseBatch_counters (p : Port) : (releaseBatch p s).counters = s.counters := by
  unfold releaseBatch; (repeat' split) <;> simp
@[simp] theorem releaseBatch_draws (p : Port) : (releaseBatch p s).draws = s.draws := by
  unfold releaseBatch; (repeat' split) <;> simp
@[simp] theorem releaseBatch_pending (p : Port) : (releaseBatch p s).pending = s.pending := by
  unfold releaseBatch; (repeat' split) <;> simp

/-! ### countRevoked -/

@[simp] theorem countRevoked_core (a : Answer) : (countRevoked a s).core = s.core := by
  unfold countRevoked; split <;> rfl
@[simp] theorem countRevoked_clock (a : Answer) : (countRevoked a s).clock = s.clock := by
  unfold countRevoked; split <;> rfl
@[simp] theorem countRevoked_store (a : Answer) : (countRevoked a s).store = s.store := by
  unfold countRevoked; split <;> rfl
@[simp] theorem countRevoked_detector (a : Answer) : (countRevoked a s).detector = s.detector := by
  unfold countRevoked; split <;> rfl
@[simp] theorem countRevoked_fares (a : Answer) : (countRevoked a s).fares = s.fares := by
  unfold countRevoked; split <;> rfl
@[simp] theorem countRevoked_revoked (a : Answer) : (countRevoked a s).revoked = s.revoked := by
  unfold countRevoked; split <;> rfl
@[simp] theorem countRevoked_sales (a : Answer) : (countRevoked a s).sales = s.sales := by
  unfold countRevoked; split <;> rfl
@[simp] theorem countRevoked_journal (a : Answer) : (countRevoked a s).journal = s.journal := by
  unfold countRevoked; split <;> rfl
@[simp] theorem countRevoked_scheduler (a : Answer) : (countRevoked a s).scheduler = s.scheduler := by
  unfold countRevoked; split <;> rfl
@[simp] theorem countRevoked_compositor (a : Answer) : (countRevoked a s).compositor = s.compositor := by
  unfold countRevoked; split <;> rfl
@[simp] theorem countRevoked_bus (a : Answer) : (countRevoked a s).bus = s.bus := by
  unfold countRevoked; split <;> rfl
@[simp] theorem countRevoked_supply (a : Answer) : (countRevoked a s).supply = s.supply := by
  unfold countRevoked; split <;> rfl
@[simp] theorem countRevoked_ports (a : Answer) : (countRevoked a s).ports = s.ports := by
  unfold countRevoked; split <;> rfl
@[simp] theorem countRevoked_draws (a : Answer) : (countRevoked a s).draws = s.draws := by
  unfold countRevoked; split <;> rfl
@[simp] theorem countRevoked_pending (a : Answer) : (countRevoked a s).pending = s.pending := by
  unfold countRevoked; split <;> rfl

/-! ### countIssue -/

@[simp] theorem countIssue_core (t : TicketType) (b : Band) (n : Nat) : (countIssue t b n s).core = s.core := by
  simp [countIssue]
@[simp] theorem countIssue_clock (t : TicketType) (b : Band) (n : Nat) : (countIssue t b n s).clock = s.clock := by
  simp [countIssue]
@[simp] theorem countIssue_store (t : TicketType) (b : Band) (n : Nat) : (countIssue t b n s).store = s.store := by
  simp [countIssue]
@[simp] theorem countIssue_detector (t : TicketType) (b : Band) (n : Nat) : (countIssue t b n s).detector = s.detector := by
  simp [countIssue]
@[simp] theorem countIssue_fares (t : TicketType) (b : Band) (n : Nat) : (countIssue t b n s).fares = s.fares := by
  simp [countIssue]
@[simp] theorem countIssue_revoked (t : TicketType) (b : Band) (n : Nat) : (countIssue t b n s).revoked = s.revoked := by
  simp [countIssue]
@[simp] theorem countIssue_sales (t : TicketType) (b : Band) (n : Nat) : (countIssue t b n s).sales = s.sales := by
  simp [countIssue]
@[simp] theorem countIssue_journal (t : TicketType) (b : Band) (n : Nat) : (countIssue t b n s).journal = s.journal := by
  simp [countIssue]
@[simp] theorem countIssue_scheduler (t : TicketType) (b : Band) (n : Nat) : (countIssue t b n s).scheduler = s.scheduler := by
  simp [countIssue]
@[simp] theorem countIssue_compositor (t : TicketType) (b : Band) (n : Nat) : (countIssue t b n s).compositor = s.compositor := by
  simp [countIssue]
@[simp] theorem countIssue_bus (t : TicketType) (b : Band) (n : Nat) : (countIssue t b n s).bus = s.bus := by
  simp [countIssue]
@[simp] theorem countIssue_supply (t : TicketType) (b : Band) (n : Nat) : (countIssue t b n s).supply = s.supply := by
  simp [countIssue]
@[simp] theorem countIssue_ports (t : TicketType) (b : Band) (n : Nat) : (countIssue t b n s).ports = s.ports := by
  simp [countIssue]
@[simp] theorem countIssue_draws (t : TicketType) (b : Band) (n : Nat) : (countIssue t b n s).draws = s.draws := by
  simp [countIssue]
@[simp] theorem countIssue_pending (t : TicketType) (b : Band) (n : Nat) : (countIssue t b n s).pending = s.pending := by
  simp [countIssue]

/-! ### stockTests -/

@[simp] theorem stockTests_core : (stockTests s).core = s.core := by
  unfold stockTests; dsimp only; (repeat' split) <;> simp
@[simp] theorem stockTests_clock : (stockTests s).clock = s.clock := by
  unfold stockTests; dsimp only; (repeat' split) <;> simp
@[simp] theorem stockTests_store : (stockTests s).store = s.store := by
  unfold stockTests; dsimp only; (repeat' split) <;> simp
@[simp] theorem stockTests_detector : (stockTests s).detector = s.detector := by
  unfold stockTests; dsimp only; (repeat' split) <;> simp
@[simp] theorem stockTests_fares : (stockTests s).fares = s.fares := by
  unfold stockTests; dsimp only; (repeat' split) <;> simp
@[simp] theorem stockTests_revoked : (stockTests s).revoked = s.revoked := by
  unfold stockTests; dsimp only; (repeat' split) <;> simp
@[simp] theorem stockTests_journal : (stockTests s).journal = s.journal := by
  unfold stockTests; dsimp only; (repeat' split) <;> simp
@[simp] theorem stockTests_scheduler : (stockTests s).scheduler = s.scheduler := by
  unfold stockTests; dsimp only; (repeat' split) <;> simp
@[simp] theorem stockTests_compositor : (stockTests s).compositor = s.compositor := by
  unfold stockTests; dsimp only; (repeat' split) <;> simp
@[simp] theorem stockTests_bus : (stockTests s).bus = s.bus := by
  unfold stockTests; dsimp only; (repeat' split) <;> simp
@[simp] theorem stockTests_supply : (stockTests s).supply = s.supply := by
  unfold stockTests; dsimp only; (repeat' split) <;> simp
@[simp] theorem stockTests_counters : (stockTests s).counters = s.counters := by
  unfold stockTests; dsimp only; (repeat' split) <;> simp
@[simp] theorem stockTests_draws : (stockTests s).draws = s.draws := by
  unfold stockTests; dsimp only; (repeat' split) <;> simp
@[simp] theorem stockTests_pending : (stockTests s).pending = s.pending := by
  unfold stockTests; dsimp only; (repeat' split) <;> simp

/-! ### resetSales -/

@[simp] theorem resetSales_core (p : Port) : (resetSales p s).core = s.core := by
  simp [resetSales]
@[simp] theorem resetSales_clock (p : Port) : (resetSales p s).clock = s.clock := by
  simp [resetSales]
@[simp] theorem resetSales_store (p : Port) : (resetSales p s).store = s.store := by
  simp [resetSales]
@[simp] theorem resetSales_detector (p : Port) : (resetSales p s).detector = s.detector := by
  simp [resetSales]
@[simp] theorem resetSales_fares (p : Port) : (resetSales p s).fares = s.fares := by
  simp [resetSales]
@[simp] theorem resetSales_revoked (p : Port) : (resetSales p s).revoked = s.revoked := by
  simp [resetSales]
@[simp] theorem resetSales_journal (p : Port) : (resetSales p s).journal = s.journal := by
  simp [resetSales]
@[simp] theorem resetSales_scheduler (p : Port) : (resetSales p s).scheduler = s.scheduler := by
  simp [resetSales]
@[simp] theorem resetSales_compositor (p : Port) : (resetSales p s).compositor = s.compositor := by
  simp [resetSales]
@[simp] theorem resetSales_bus (p : Port) : (resetSales p s).bus = s.bus := by
  simp [resetSales]
@[simp] theorem resetSales_supply (p : Port) : (resetSales p s).supply = s.supply := by
  simp [resetSales]
@[simp] theorem resetSales_counters (p : Port) : (resetSales p s).counters = s.counters := by
  simp [resetSales]
@[simp] theorem resetSales_ports (p : Port) : (resetSales p s).ports = s.ports := by
  simp [resetSales]
@[simp] theorem resetSales_draws (p : Port) : (resetSales p s).draws = s.draws := by
  simp [resetSales]
@[simp] theorem resetSales_pending (p : Port) : (resetSales p s).pending = s.pending := by
  simp [resetSales]

/-! ### groupSleep -/

@[simp] theorem groupSleep_core : (groupSleep s).core = s.core := rfl
@[simp] theorem groupSleep_clock : (groupSleep s).clock = s.clock := rfl
@[simp] theorem groupSleep_store : (groupSleep s).store = s.store := rfl
@[simp] theorem groupSleep_detector : (groupSleep s).detector = s.detector := rfl
@[simp] theorem groupSleep_fares : (groupSleep s).fares = s.fares := rfl
@[simp] theorem groupSleep_revoked : (groupSleep s).revoked = s.revoked := rfl
@[simp] theorem groupSleep_sales : (groupSleep s).sales = s.sales := rfl
@[simp] theorem groupSleep_journal : (groupSleep s).journal = s.journal := rfl
@[simp] theorem groupSleep_scheduler : (groupSleep s).scheduler = s.scheduler := rfl
@[simp] theorem groupSleep_bus : (groupSleep s).bus = s.bus := rfl
@[simp] theorem groupSleep_supply : (groupSleep s).supply = s.supply := rfl
@[simp] theorem groupSleep_counters : (groupSleep s).counters = s.counters := rfl
@[simp] theorem groupSleep_ports : (groupSleep s).ports = s.ports := rfl
@[simp] theorem groupSleep_draws : (groupSleep s).draws = s.draws := rfl
@[simp] theorem groupSleep_pending : (groupSleep s).pending = s.pending := rfl

/-! ### groupWake -/

@[simp] theorem groupWake_core : (groupWake s).core = s.core := rfl
@[simp] theorem groupWake_clock : (groupWake s).clock = s.clock := rfl
@[simp] theorem groupWake_store : (groupWake s).store = s.store := rfl
@[simp] theorem groupWake_detector : (groupWake s).detector = s.detector := rfl
@[simp] theorem groupWake_fares : (groupWake s).fares = s.fares := rfl
@[simp] theorem groupWake_revoked : (groupWake s).revoked = s.revoked := rfl
@[simp] theorem groupWake_sales : (groupWake s).sales = s.sales := rfl
@[simp] theorem groupWake_journal : (groupWake s).journal = s.journal := rfl
@[simp] theorem groupWake_scheduler : (groupWake s).scheduler = s.scheduler := rfl
@[simp] theorem groupWake_bus : (groupWake s).bus = s.bus := rfl
@[simp] theorem groupWake_supply : (groupWake s).supply = s.supply := rfl
@[simp] theorem groupWake_counters : (groupWake s).counters = s.counters := rfl
@[simp] theorem groupWake_ports : (groupWake s).ports = s.ports := rfl
@[simp] theorem groupWake_draws : (groupWake s).draws = s.draws := rfl
@[simp] theorem groupWake_pending : (groupWake s).pending = s.pending := rfl

/-! ### horizonTest -/

@[simp] theorem horizonTest_core : (horizonTest s).core = s.core := by
  unfold horizonTest; (repeat' split) <;> simp
@[simp] theorem horizonTest_clock : (horizonTest s).clock = s.clock := by
  unfold horizonTest; (repeat' split) <;> simp
@[simp] theorem horizonTest_store : (horizonTest s).store = s.store := by
  unfold horizonTest; (repeat' split) <;> simp
@[simp] theorem horizonTest_detector : (horizonTest s).detector = s.detector := by
  unfold horizonTest; (repeat' split) <;> simp
@[simp] theorem horizonTest_fares : (horizonTest s).fares = s.fares := by
  unfold horizonTest; (repeat' split) <;> simp
@[simp] theorem horizonTest_revoked : (horizonTest s).revoked = s.revoked := by
  unfold horizonTest; (repeat' split) <;> simp
@[simp] theorem horizonTest_sales : (horizonTest s).sales = s.sales := by
  unfold horizonTest; (repeat' split) <;> simp
@[simp] theorem horizonTest_journal : (horizonTest s).journal = s.journal := by
  unfold horizonTest; (repeat' split) <;> simp
@[simp] theorem horizonTest_scheduler : (horizonTest s).scheduler = s.scheduler := by
  unfold horizonTest; (repeat' split) <;> simp
@[simp] theorem horizonTest_bus : (horizonTest s).bus = s.bus := by
  unfold horizonTest; (repeat' split) <;> simp
@[simp] theorem horizonTest_supply : (horizonTest s).supply = s.supply := by
  unfold horizonTest; (repeat' split) <;> simp
@[simp] theorem horizonTest_counters : (horizonTest s).counters = s.counters := by
  unfold horizonTest; (repeat' split) <;> simp
@[simp] theorem horizonTest_ports : (horizonTest s).ports = s.ports := by
  unfold horizonTest; (repeat' split) <;> simp
@[simp] theorem horizonTest_draws : (horizonTest s).draws = s.draws := by
  unfold horizonTest; (repeat' split) <;> simp
@[simp] theorem horizonTest_pending : (horizonTest s).pending = s.pending := by
  unfold horizonTest; (repeat' split) <;> simp

/-! ### reportOutcome -/

@[simp] theorem reportOutcome_core (t : Transaction) (o : OutcomeReport) : (reportOutcome t o s).core = s.core := by
  unfold reportOutcome; dsimp only; (repeat' split) <;> simp
@[simp] theorem reportOutcome_clock (t : Transaction) (o : OutcomeReport) : (reportOutcome t o s).clock = s.clock := by
  unfold reportOutcome; dsimp only; (repeat' split) <;> simp
@[simp] theorem reportOutcome_store (t : Transaction) (o : OutcomeReport) : (reportOutcome t o s).store = s.store := by
  unfold reportOutcome; dsimp only; (repeat' split) <;> simp
@[simp] theorem reportOutcome_detector (t : Transaction) (o : OutcomeReport) : (reportOutcome t o s).detector = s.detector := by
  unfold reportOutcome; dsimp only; (repeat' split) <;> simp
@[simp] theorem reportOutcome_fares (t : Transaction) (o : OutcomeReport) : (reportOutcome t o s).fares = s.fares := by
  unfold reportOutcome; dsimp only; (repeat' split) <;> simp
@[simp] theorem reportOutcome_revoked (t : Transaction) (o : OutcomeReport) : (reportOutcome t o s).revoked = s.revoked := by
  unfold reportOutcome; dsimp only; (repeat' split) <;> simp
@[simp] theorem reportOutcome_sales (t : Transaction) (o : OutcomeReport) : (reportOutcome t o s).sales = s.sales := by
  unfold reportOutcome; dsimp only; (repeat' split) <;> simp
@[simp] theorem reportOutcome_journal (t : Transaction) (o : OutcomeReport) : (reportOutcome t o s).journal = s.journal := by
  unfold reportOutcome; dsimp only; (repeat' split) <;> simp
@[simp] theorem reportOutcome_scheduler (t : Transaction) (o : OutcomeReport) : (reportOutcome t o s).scheduler = s.scheduler := by
  unfold reportOutcome; dsimp only; (repeat' split) <;> simp
@[simp] theorem reportOutcome_bus (t : Transaction) (o : OutcomeReport) : (reportOutcome t o s).bus = s.bus := by
  unfold reportOutcome; dsimp only; (repeat' split) <;> simp
@[simp] theorem reportOutcome_supply (t : Transaction) (o : OutcomeReport) : (reportOutcome t o s).supply = s.supply := by
  unfold reportOutcome; dsimp only; (repeat' split) <;> simp
@[simp] theorem reportOutcome_draws (t : Transaction) (o : OutcomeReport) : (reportOutcome t o s).draws = s.draws := by
  unfold reportOutcome; dsimp only; (repeat' split) <;> simp
@[simp] theorem reportOutcome_pending (t : Transaction) (o : OutcomeReport) : (reportOutcome t o s).pending = s.pending := by
  unfold reportOutcome; dsimp only; (repeat' split) <;> simp

/-! ### enterFault -/

@[simp] theorem enterFault_core (c : FaultCause) : (enterFault c s).core = s.core := by
  simp [enterFault]
@[simp] theorem enterFault_clock (c : FaultCause) : (enterFault c s).clock = s.clock := by
  simp [enterFault]
@[simp] theorem enterFault_store (c : FaultCause) : (enterFault c s).store = s.store := by
  simp [enterFault]
@[simp] theorem enterFault_detector (c : FaultCause) : (enterFault c s).detector = s.detector := by
  simp [enterFault]
@[simp] theorem enterFault_fares (c : FaultCause) : (enterFault c s).fares = s.fares := by
  simp [enterFault]
@[simp] theorem enterFault_revoked (c : FaultCause) : (enterFault c s).revoked = s.revoked := by
  simp [enterFault]
@[simp] theorem enterFault_sales (c : FaultCause) : (enterFault c s).sales = s.sales := by
  simp [enterFault]
@[simp] theorem enterFault_journal (c : FaultCause) : (enterFault c s).journal = s.journal := by
  simp [enterFault]
@[simp] theorem enterFault_scheduler (c : FaultCause) : (enterFault c s).scheduler = s.scheduler := by
  simp [enterFault]
@[simp] theorem enterFault_compositor (c : FaultCause) : (enterFault c s).compositor = s.compositor := by
  simp [enterFault]
@[simp] theorem enterFault_supply (c : FaultCause) : (enterFault c s).supply = s.supply := by
  simp [enterFault]
@[simp] theorem enterFault_counters (c : FaultCause) : (enterFault c s).counters = s.counters := by
  simp [enterFault]
@[simp] theorem enterFault_draws (c : FaultCause) : (enterFault c s).draws = s.draws := by
  simp [enterFault]
@[simp] theorem enterFault_pending (c : FaultCause) : (enterFault c s).pending = s.pending := by
  simp [enterFault]

/-! ### enterIdle -/

@[simp] theorem enterIdle_core : (enterIdle s).core = s.core := rfl
@[simp] theorem enterIdle_clock : (enterIdle s).clock = s.clock := rfl
@[simp] theorem enterIdle_store : (enterIdle s).store = s.store := rfl
@[simp] theorem enterIdle_detector : (enterIdle s).detector = s.detector := rfl
@[simp] theorem enterIdle_fares : (enterIdle s).fares = s.fares := rfl
@[simp] theorem enterIdle_revoked : (enterIdle s).revoked = s.revoked := rfl
@[simp] theorem enterIdle_sales : (enterIdle s).sales = s.sales := rfl
@[simp] theorem enterIdle_journal : (enterIdle s).journal = s.journal := rfl
@[simp] theorem enterIdle_scheduler : (enterIdle s).scheduler = s.scheduler := rfl
@[simp] theorem enterIdle_compositor : (enterIdle s).compositor = s.compositor := rfl
@[simp] theorem enterIdle_supply : (enterIdle s).supply = s.supply := rfl
@[simp] theorem enterIdle_counters : (enterIdle s).counters = s.counters := rfl
@[simp] theorem enterIdle_ports : (enterIdle s).ports = s.ports := rfl
@[simp] theorem enterIdle_draws : (enterIdle s).draws = s.draws := rfl
@[simp] theorem enterIdle_pending : (enterIdle s).pending = s.pending := rfl

/-! ### buildFrame -/

@[simp] theorem buildFrame_core : (buildFrame s).core = s.core := by
  simp [buildFrame]
@[simp] theorem buildFrame_clock : (buildFrame s).clock = s.clock := by
  simp [buildFrame]
@[simp] theorem buildFrame_store : (buildFrame s).store = s.store := by
  simp [buildFrame]
@[simp] theorem buildFrame_detector : (buildFrame s).detector = s.detector := by
  simp [buildFrame]
@[simp] theorem buildFrame_fares : (buildFrame s).fares = s.fares := by
  simp [buildFrame]
@[simp] theorem buildFrame_revoked : (buildFrame s).revoked = s.revoked := by
  simp [buildFrame]
@[simp] theorem buildFrame_sales : (buildFrame s).sales = s.sales := by
  simp [buildFrame]
@[simp] theorem buildFrame_journal : (buildFrame s).journal = s.journal := by
  simp [buildFrame]
@[simp] theorem buildFrame_scheduler : (buildFrame s).scheduler = s.scheduler := by
  simp [buildFrame]
@[simp] theorem buildFrame_supply : (buildFrame s).supply = s.supply := by
  simp [buildFrame]
@[simp] theorem buildFrame_counters : (buildFrame s).counters = s.counters := by
  simp [buildFrame]
@[simp] theorem buildFrame_ports : (buildFrame s).ports = s.ports := by
  simp [buildFrame]
@[simp] theorem buildFrame_draws : (buildFrame s).draws = s.draws := by
  simp [buildFrame]
@[simp] theorem buildFrame_pending : (buildFrame s).pending = s.pending := by
  simp [buildFrame]

/-! ### completeFrame -/

@[simp] theorem completeFrame_core : (completeFrame s).core = s.core := by
  unfold completeFrame; dsimp only; (repeat' split) <;> simp
@[simp] theorem completeFrame_clock : (completeFrame s).clock = s.clock := by
  unfold completeFrame; dsimp only; (repeat' split) <;> simp
@[simp] theorem completeFrame_store : (completeFrame s).store = s.store := by
  unfold completeFrame; dsimp only; (repeat' split) <;> simp
@[simp] theorem completeFrame_detector : (completeFrame s).detector = s.detector := by
  unfold completeFrame; dsimp only; (repeat' split) <;> simp
@[simp] theorem completeFrame_fares : (completeFrame s).fares = s.fares := by
  unfold completeFrame; dsimp only; (repeat' split) <;> simp
@[simp] theorem completeFrame_revoked : (completeFrame s).revoked = s.revoked := by
  unfold completeFrame; dsimp only; (repeat' split) <;> simp
@[simp] theorem completeFrame_sales : (completeFrame s).sales = s.sales := by
  unfold completeFrame; dsimp only; (repeat' split) <;> simp
@[simp] theorem completeFrame_journal : (completeFrame s).journal = s.journal := by
  unfold completeFrame; dsimp only; (repeat' split) <;> simp
@[simp] theorem completeFrame_scheduler : (completeFrame s).scheduler = s.scheduler := by
  unfold completeFrame; dsimp only; (repeat' split) <;> simp
@[simp] theorem completeFrame_compositor : (completeFrame s).compositor = s.compositor := by
  unfold completeFrame; dsimp only; (repeat' split) <;> simp
@[simp] theorem completeFrame_supply : (completeFrame s).supply = s.supply := by
  unfold completeFrame; dsimp only; (repeat' split) <;> simp
@[simp] theorem completeFrame_draws : (completeFrame s).draws = s.draws := by
  unfold completeFrame; dsimp only; (repeat' split) <;> simp
@[simp] theorem completeFrame_pending : (completeFrame s).pending = s.pending := by
  unfold completeFrame; dsimp only; (repeat' split) <;> simp

/-! ### stuckData -/

@[simp] theorem stuckData_core : (stuckData s).core = s.core := by
  unfold stuckData; split <;> simp
@[simp] theorem stuckData_clock : (stuckData s).clock = s.clock := by
  unfold stuckData; split <;> simp
@[simp] theorem stuckData_store : (stuckData s).store = s.store := by
  unfold stuckData; split <;> simp
@[simp] theorem stuckData_detector : (stuckData s).detector = s.detector := by
  unfold stuckData; split <;> simp
@[simp] theorem stuckData_fares : (stuckData s).fares = s.fares := by
  unfold stuckData; split <;> simp
@[simp] theorem stuckData_revoked : (stuckData s).revoked = s.revoked := by
  unfold stuckData; split <;> simp
@[simp] theorem stuckData_sales : (stuckData s).sales = s.sales := by
  unfold stuckData; split <;> simp
@[simp] theorem stuckData_journal : (stuckData s).journal = s.journal := by
  unfold stuckData; split <;> simp
@[simp] theorem stuckData_scheduler : (stuckData s).scheduler = s.scheduler := by
  unfold stuckData; split <;> simp
@[simp] theorem stuckData_compositor : (stuckData s).compositor = s.compositor := by
  unfold stuckData; split <;> simp
@[simp] theorem stuckData_supply : (stuckData s).supply = s.supply := by
  unfold stuckData; split <;> simp
@[simp] theorem stuckData_draws : (stuckData s).draws = s.draws := by
  unfold stuckData; split <;> simp
@[simp] theorem stuckData_pending : (stuckData s).pending = s.pending := by
  unfold stuckData; split <;> simp

/-! ### startNext -/

@[simp] theorem startNext_core (l : DataLine) : (startNext l s).core = s.core := by
  unfold startNext; dsimp only; (repeat' split) <;> simp
@[simp] theorem startNext_clock (l : DataLine) : (startNext l s).clock = s.clock := by
  unfold startNext; dsimp only; (repeat' split) <;> simp
@[simp] theorem startNext_store (l : DataLine) : (startNext l s).store = s.store := by
  unfold startNext; dsimp only; (repeat' split) <;> simp
@[simp] theorem startNext_detector (l : DataLine) : (startNext l s).detector = s.detector := by
  unfold startNext; dsimp only; (repeat' split) <;> simp
@[simp] theorem startNext_fares (l : DataLine) : (startNext l s).fares = s.fares := by
  unfold startNext; dsimp only; (repeat' split) <;> simp
@[simp] theorem startNext_revoked (l : DataLine) : (startNext l s).revoked = s.revoked := by
  unfold startNext; dsimp only; (repeat' split) <;> simp
@[simp] theorem startNext_sales (l : DataLine) : (startNext l s).sales = s.sales := by
  unfold startNext; dsimp only; (repeat' split) <;> simp
@[simp] theorem startNext_journal (l : DataLine) : (startNext l s).journal = s.journal := by
  unfold startNext; dsimp only; (repeat' split) <;> simp
@[simp] theorem startNext_scheduler (l : DataLine) : (startNext l s).scheduler = s.scheduler := by
  unfold startNext; dsimp only; (repeat' split) <;> simp
@[simp] theorem startNext_compositor (l : DataLine) : (startNext l s).compositor = s.compositor := by
  unfold startNext; dsimp only; (repeat' split) <;> simp
@[simp] theorem startNext_supply (l : DataLine) : (startNext l s).supply = s.supply := by
  unfold startNext; dsimp only; (repeat' split) <;> simp
@[simp] theorem startNext_draws (l : DataLine) : (startNext l s).draws = s.draws := by
  unfold startNext; dsimp only; (repeat' split) <;> simp
@[simp] theorem startNext_pending (l : DataLine) : (startNext l s).pending = s.pending := by
  unfold startNext; dsimp only; (repeat' split) <;> simp

/-! ### beginFrame -/

@[simp] theorem beginFrame_core (l : DataLine) : (beginFrame l s).core = s.core := by
  simp [beginFrame]
@[simp] theorem beginFrame_clock (l : DataLine) : (beginFrame l s).clock = s.clock := by
  simp [beginFrame]
@[simp] theorem beginFrame_store (l : DataLine) : (beginFrame l s).store = s.store := by
  simp [beginFrame]
@[simp] theorem beginFrame_detector (l : DataLine) : (beginFrame l s).detector = s.detector := by
  simp [beginFrame]
@[simp] theorem beginFrame_fares (l : DataLine) : (beginFrame l s).fares = s.fares := by
  simp [beginFrame]
@[simp] theorem beginFrame_revoked (l : DataLine) : (beginFrame l s).revoked = s.revoked := by
  simp [beginFrame]
@[simp] theorem beginFrame_sales (l : DataLine) : (beginFrame l s).sales = s.sales := by
  simp [beginFrame]
@[simp] theorem beginFrame_journal (l : DataLine) : (beginFrame l s).journal = s.journal := by
  simp [beginFrame]
@[simp] theorem beginFrame_scheduler (l : DataLine) : (beginFrame l s).scheduler = s.scheduler := by
  simp [beginFrame]
@[simp] theorem beginFrame_supply (l : DataLine) : (beginFrame l s).supply = s.supply := by
  simp [beginFrame]
@[simp] theorem beginFrame_draws (l : DataLine) : (beginFrame l s).draws = s.draws := by
  simp [beginFrame]
@[simp] theorem beginFrame_pending (l : DataLine) : (beginFrame l s).pending = s.pending := by
  simp [beginFrame]

/-! ### takeDue -/

@[simp] theorem takeDue_core (l : DataLine) (k : Nat) : (takeDue l k s).core = s.core := by
  induction k generalizing s with
  | zero => rfl
  | succ k ih => unfold takeDue; split <;> simp [ih]
@[simp] theorem takeDue_clock (l : DataLine) (k : Nat) : (takeDue l k s).clock = s.clock := by
  induction k generalizing s with
  | zero => rfl
  | succ k ih => unfold takeDue; split <;> simp [ih]
@[simp] theorem takeDue_store (l : DataLine) (k : Nat) : (takeDue l k s).store = s.store := by
  induction k generalizing s with
  | zero => rfl
  | succ k ih => unfold takeDue; split <;> simp [ih]
@[simp] theorem takeDue_detector (l : DataLine) (k : Nat) : (takeDue l k s).detector = s.detector := by
  induction k generalizing s with
  | zero => rfl
  | succ k ih => unfold takeDue; split <;> simp [ih]
@[simp] theorem takeDue_fares (l : DataLine) (k : Nat) : (takeDue l k s).fares = s.fares := by
  induction k generalizing s with
  | zero => rfl
  | succ k ih => unfold takeDue; split <;> simp [ih]
@[simp] theorem takeDue_revoked (l : DataLine) (k : Nat) : (takeDue l k s).revoked = s.revoked := by
  induction k generalizing s with
  | zero => rfl
  | succ k ih => unfold takeDue; split <;> simp [ih]
@[simp] theorem takeDue_sales (l : DataLine) (k : Nat) : (takeDue l k s).sales = s.sales := by
  induction k generalizing s with
  | zero => rfl
  | succ k ih => unfold takeDue; split <;> simp [ih]
@[simp] theorem takeDue_journal (l : DataLine) (k : Nat) : (takeDue l k s).journal = s.journal := by
  induction k generalizing s with
  | zero => rfl
  | succ k ih => unfold takeDue; split <;> simp [ih]
@[simp] theorem takeDue_scheduler (l : DataLine) (k : Nat) : (takeDue l k s).scheduler = s.scheduler := by
  induction k generalizing s with
  | zero => rfl
  | succ k ih => unfold takeDue; split <;> simp [ih]
@[simp] theorem takeDue_supply (l : DataLine) (k : Nat) : (takeDue l k s).supply = s.supply := by
  induction k generalizing s with
  | zero => rfl
  | succ k ih => unfold takeDue; split <;> simp [ih]
@[simp] theorem takeDue_pending (l : DataLine) (k : Nat) : (takeDue l k s).pending = s.pending := by
  induction k generalizing s with
  | zero => rfl
  | succ k ih => unfold takeDue; split <;> simp [ih]
@[simp] theorem takeDue_draws (l : DataLine) (k : Nat) : (takeDue l k s).draws = s.draws := by
  induction k generalizing s with
  | zero => rfl
  | succ k ih => unfold takeDue; split <;> simp [ih]

/-! ### emptyFrames -/

@[simp] theorem emptyFrames_core (l : DataLine) : (emptyFrames l s).core = s.core := by
  simp [emptyFrames]
@[simp] theorem emptyFrames_clock (l : DataLine) : (emptyFrames l s).clock = s.clock := by
  simp [emptyFrames]
@[simp] theorem emptyFrames_store (l : DataLine) : (emptyFrames l s).store = s.store := by
  simp [emptyFrames]
@[simp] theorem emptyFrames_detector (l : DataLine) : (emptyFrames l s).detector = s.detector := by
  simp [emptyFrames]
@[simp] theorem emptyFrames_fares (l : DataLine) : (emptyFrames l s).fares = s.fares := by
  simp [emptyFrames]
@[simp] theorem emptyFrames_revoked (l : DataLine) : (emptyFrames l s).revoked = s.revoked := by
  simp [emptyFrames]
@[simp] theorem emptyFrames_sales (l : DataLine) : (emptyFrames l s).sales = s.sales := by
  simp [emptyFrames]
@[simp] theorem emptyFrames_journal (l : DataLine) : (emptyFrames l s).journal = s.journal := by
  simp [emptyFrames]
@[simp] theorem emptyFrames_scheduler (l : DataLine) : (emptyFrames l s).scheduler = s.scheduler := by
  simp [emptyFrames]
@[simp] theorem emptyFrames_supply (l : DataLine) : (emptyFrames l s).supply = s.supply := by
  simp [emptyFrames]
@[simp] theorem emptyFrames_pending (l : DataLine) : (emptyFrames l s).pending = s.pending := by
  simp [emptyFrames]

/-! ### framesRun -/

@[simp] theorem framesRun_core (l : DataLine) : (framesRun l s).core = s.core := by
  unfold framesRun; dsimp only; split <;> simp
@[simp] theorem framesRun_clock (l : DataLine) : (framesRun l s).clock = s.clock := by
  unfold framesRun; dsimp only; split <;> simp
@[simp] theorem framesRun_store (l : DataLine) : (framesRun l s).store = s.store := by
  unfold framesRun; dsimp only; split <;> simp
@[simp] theorem framesRun_detector (l : DataLine) : (framesRun l s).detector = s.detector := by
  unfold framesRun; dsimp only; split <;> simp
@[simp] theorem framesRun_fares (l : DataLine) : (framesRun l s).fares = s.fares := by
  unfold framesRun; dsimp only; split <;> simp
@[simp] theorem framesRun_revoked (l : DataLine) : (framesRun l s).revoked = s.revoked := by
  unfold framesRun; dsimp only; split <;> simp
@[simp] theorem framesRun_sales (l : DataLine) : (framesRun l s).sales = s.sales := by
  unfold framesRun; dsimp only; split <;> simp
@[simp] theorem framesRun_journal (l : DataLine) : (framesRun l s).journal = s.journal := by
  unfold framesRun; dsimp only; split <;> simp
@[simp] theorem framesRun_scheduler (l : DataLine) : (framesRun l s).scheduler = s.scheduler := by
  unfold framesRun; dsimp only; split <;> simp
@[simp] theorem framesRun_supply (l : DataLine) : (framesRun l s).supply = s.supply := by
  unfold framesRun; dsimp only; split <;> simp
@[simp] theorem framesRun_pending (l : DataLine) : (framesRun l s).pending = s.pending := by
  unfold framesRun; dsimp only; split <;> simp

/-! ### settleAt and settle: what follows a command touches the display blocks,
the counters, the ports' notices and the draws alone -/

@[simp] theorem settleAt_core (l : DataLine) : (settleAt l s).core = s.core := by
  unfold settleAt; split <;> simp
@[simp] theorem settleAt_clock (l : DataLine) : (settleAt l s).clock = s.clock := by
  unfold settleAt; split <;> simp
@[simp] theorem settleAt_store (l : DataLine) : (settleAt l s).store = s.store := by
  unfold settleAt; split <;> simp
@[simp] theorem settleAt_detector (l : DataLine) : (settleAt l s).detector = s.detector := by
  unfold settleAt; split <;> simp
@[simp] theorem settleAt_fares (l : DataLine) : (settleAt l s).fares = s.fares := by
  unfold settleAt; split <;> simp
@[simp] theorem settleAt_revoked (l : DataLine) : (settleAt l s).revoked = s.revoked := by
  unfold settleAt; split <;> simp
@[simp] theorem settleAt_sales (l : DataLine) : (settleAt l s).sales = s.sales := by
  unfold settleAt; split <;> simp
@[simp] theorem settleAt_journal (l : DataLine) : (settleAt l s).journal = s.journal := by
  unfold settleAt; split <;> simp
@[simp] theorem settleAt_scheduler (l : DataLine) : (settleAt l s).scheduler = s.scheduler := by
  unfold settleAt; split <;> simp
@[simp] theorem settleAt_supply (l : DataLine) : (settleAt l s).supply = s.supply := by
  unfold settleAt; split <;> simp
@[simp] theorem settleAt_pending (l : DataLine) : (settleAt l s).pending = s.pending := by
  unfold settleAt; split <;> simp
@[simp] theorem settle_core : (settle s).core = s.core := by
  unfold settle; split <;> simp
@[simp] theorem settle_clock : (settle s).clock = s.clock := by
  unfold settle; split <;> simp
@[simp] theorem settle_store : (settle s).store = s.store := by
  unfold settle; split <;> simp
@[simp] theorem settle_detector : (settle s).detector = s.detector := by
  unfold settle; split <;> simp
@[simp] theorem settle_fares : (settle s).fares = s.fares := by
  unfold settle; split <;> simp
@[simp] theorem settle_revoked : (settle s).revoked = s.revoked := by
  unfold settle; split <;> simp
@[simp] theorem settle_sales : (settle s).sales = s.sales := by
  unfold settle; split <;> simp
@[simp] theorem settle_journal : (settle s).journal = s.journal := by
  unfold settle; split <;> simp
@[simp] theorem settle_scheduler : (settle s).scheduler = s.scheduler := by
  unfold settle; split <;> simp
@[simp] theorem settle_supply : (settle s).supply = s.supply := by
  unfold settle; split <;> simp
@[simp] theorem settle_pending : (settle s).pending = s.pending := by
  unfold settle; split <;> simp

/-- With no frame start due nothing follows a command. -/
theorem settleAt_of_rest {s : State} (h : s.restless = false) (l : DataLine) : settleAt l s = s := by
  simp [settleAt, h]

/-- With no frame start due nothing follows a command. -/
theorem settle_of_rest {s : State} (h : s.restless = false) : settle s = s := by
  simp [settle, h]

/-! ### overrun -/

@[simp] theorem overrun_core : (overrun s).core = s.core := by
  simp [overrun]
@[simp] theorem overrun_clock : (overrun s).clock = s.clock := by
  simp [overrun]
@[simp] theorem overrun_store : (overrun s).store = s.store := by
  simp [overrun]
@[simp] theorem overrun_detector : (overrun s).detector = s.detector := by
  simp [overrun]
@[simp] theorem overrun_fares : (overrun s).fares = s.fares := by
  simp [overrun]
@[simp] theorem overrun_revoked : (overrun s).revoked = s.revoked := by
  simp [overrun]
@[simp] theorem overrun_sales : (overrun s).sales = s.sales := by
  simp [overrun]
@[simp] theorem overrun_journal : (overrun s).journal = s.journal := by
  simp [overrun]
@[simp] theorem overrun_scheduler : (overrun s).scheduler = s.scheduler := by
  simp [overrun]
@[simp] theorem overrun_compositor : (overrun s).compositor = s.compositor := by
  simp [overrun]
@[simp] theorem overrun_bus : (overrun s).bus = s.bus := by
  simp [overrun]
@[simp] theorem overrun_supply : (overrun s).supply = s.supply := by
  simp [overrun]
@[simp] theorem overrun_draws : (overrun s).draws = s.draws := by
  simp [overrun]
@[simp] theorem overrun_pending : (overrun s).pending = s.pending := by
  simp [overrun]

/-! ### frameStart -/

@[simp] theorem frameStart_core (l : DataLine) : (frameStart l s).core = s.core := by
  unfold frameStart; split <;> simp
@[simp] theorem frameStart_clock (l : DataLine) : (frameStart l s).clock = s.clock := by
  unfold frameStart; split <;> simp
@[simp] theorem frameStart_store (l : DataLine) : (frameStart l s).store = s.store := by
  unfold frameStart; split <;> simp
@[simp] theorem frameStart_detector (l : DataLine) : (frameStart l s).detector = s.detector := by
  unfold frameStart; split <;> simp
@[simp] theorem frameStart_fares (l : DataLine) : (frameStart l s).fares = s.fares := by
  unfold frameStart; split <;> simp
@[simp] theorem frameStart_revoked (l : DataLine) : (frameStart l s).revoked = s.revoked := by
  unfold frameStart; split <;> simp
@[simp] theorem frameStart_sales (l : DataLine) : (frameStart l s).sales = s.sales := by
  unfold frameStart; split <;> simp
@[simp] theorem frameStart_journal (l : DataLine) : (frameStart l s).journal = s.journal := by
  unfold frameStart; split <;> simp
@[simp] theorem frameStart_scheduler (l : DataLine) : (frameStart l s).scheduler = s.scheduler := by
  unfold frameStart; split <;> simp
@[simp] theorem frameStart_supply (l : DataLine) : (frameStart l s).supply = s.supply := by
  unfold frameStart; split <;> simp
@[simp] theorem frameStart_draws (l : DataLine) : (frameStart l s).draws = s.draws := by
  unfold frameStart; split <;> simp
@[simp] theorem frameStart_pending (l : DataLine) : (frameStart l s).pending = s.pending := by
  unfold frameStart; split <;> simp

/-! ### afterTransaction -/

@[simp] theorem afterTransaction_core (l : DataLine) : (afterTransaction l s).core = s.core := by
  unfold afterTransaction; split <;> simp
@[simp] theorem afterTransaction_clock (l : DataLine) : (afterTransaction l s).clock = s.clock := by
  unfold afterTransaction; split <;> simp
@[simp] theorem afterTransaction_store (l : DataLine) : (afterTransaction l s).store = s.store := by
  unfold afterTransaction; split <;> simp
@[simp] theorem afterTransaction_detector (l : DataLine) : (afterTransaction l s).detector = s.detector := by
  unfold afterTransaction; split <;> simp
@[simp] theorem afterTransaction_fares (l : DataLine) : (afterTransaction l s).fares = s.fares := by
  unfold afterTransaction; split <;> simp
@[simp] theorem afterTransaction_revoked (l : DataLine) : (afterTransaction l s).revoked = s.revoked := by
  unfold afterTransaction; split <;> simp
@[simp] theorem afterTransaction_sales (l : DataLine) : (afterTransaction l s).sales = s.sales := by
  unfold afterTransaction; split <;> simp
@[simp] theorem afterTransaction_journal (l : DataLine) : (afterTransaction l s).journal = s.journal := by
  unfold afterTransaction; split <;> simp
@[simp] theorem afterTransaction_scheduler (l : DataLine) : (afterTransaction l s).scheduler = s.scheduler := by
  unfold afterTransaction; split <;> simp
@[simp] theorem afterTransaction_supply (l : DataLine) : (afterTransaction l s).supply = s.supply := by
  unfold afterTransaction; split <;> simp
@[simp] theorem afterTransaction_draws (l : DataLine) : (afterTransaction l s).draws = s.draws := by
  unfold afterTransaction; split <;> simp
@[simp] theorem afterTransaction_pending (l : DataLine) : (afterTransaction l s).pending = s.pending := by
  unfold afterTransaction; split <;> simp

/-! ### restartProbe -/

@[simp] theorem restartProbe_core (i : Fin 8) : (restartProbe i s).core = s.core := rfl
@[simp] theorem restartProbe_clock (i : Fin 8) : (restartProbe i s).clock = s.clock := rfl
@[simp] theorem restartProbe_store (i : Fin 8) : (restartProbe i s).store = s.store := rfl
@[simp] theorem restartProbe_detector (i : Fin 8) : (restartProbe i s).detector = s.detector := rfl
@[simp] theorem restartProbe_fares (i : Fin 8) : (restartProbe i s).fares = s.fares := rfl
@[simp] theorem restartProbe_revoked (i : Fin 8) : (restartProbe i s).revoked = s.revoked := rfl
@[simp] theorem restartProbe_sales (i : Fin 8) : (restartProbe i s).sales = s.sales := rfl
@[simp] theorem restartProbe_journal (i : Fin 8) : (restartProbe i s).journal = s.journal := rfl
@[simp] theorem restartProbe_scheduler (i : Fin 8) : (restartProbe i s).scheduler = s.scheduler := rfl
@[simp] theorem restartProbe_compositor (i : Fin 8) : (restartProbe i s).compositor = s.compositor := rfl
@[simp] theorem restartProbe_supply (i : Fin 8) : (restartProbe i s).supply = s.supply := rfl
@[simp] theorem restartProbe_counters (i : Fin 8) : (restartProbe i s).counters = s.counters := rfl
@[simp] theorem restartProbe_ports (i : Fin 8) : (restartProbe i s).ports = s.ports := rfl
@[simp] theorem restartProbe_draws (i : Fin 8) : (restartProbe i s).draws = s.draws := rfl
@[simp] theorem restartProbe_pending (i : Fin 8) : (restartProbe i s).pending = s.pending := rfl

/-! ### startFrames -/

@[simp] theorem startFrames_core (l : DataLine) : (startFrames l s).core = s.core := by
  unfold startFrames; (repeat' split) <;> simp
@[simp] theorem startFrames_clock (l : DataLine) : (startFrames l s).clock = s.clock := by
  unfold startFrames; (repeat' split) <;> simp
@[simp] theorem startFrames_store (l : DataLine) : (startFrames l s).store = s.store := by
  unfold startFrames; (repeat' split) <;> simp
@[simp] theorem startFrames_detector (l : DataLine) : (startFrames l s).detector = s.detector := by
  unfold startFrames; (repeat' split) <;> simp
@[simp] theorem startFrames_fares (l : DataLine) : (startFrames l s).fares = s.fares := by
  unfold startFrames; (repeat' split) <;> simp
@[simp] theorem startFrames_revoked (l : DataLine) : (startFrames l s).revoked = s.revoked := by
  unfold startFrames; (repeat' split) <;> simp
@[simp] theorem startFrames_sales (l : DataLine) : (startFrames l s).sales = s.sales := by
  unfold startFrames; (repeat' split) <;> simp
@[simp] theorem startFrames_journal (l : DataLine) : (startFrames l s).journal = s.journal := by
  unfold startFrames; (repeat' split) <;> simp
@[simp] theorem startFrames_scheduler (l : DataLine) : (startFrames l s).scheduler = s.scheduler := by
  unfold startFrames; (repeat' split) <;> simp
@[simp] theorem startFrames_supply (l : DataLine) : (startFrames l s).supply = s.supply := by
  unfold startFrames; (repeat' split) <;> simp
@[simp] theorem startFrames_draws (l : DataLine) : (startFrames l s).draws = s.draws := by
  unfold startFrames; (repeat' split) <;> simp
@[simp] theorem startFrames_pending (l : DataLine) : (startFrames l s).pending = s.pending := by
  unfold startFrames; (repeat' split) <;> simp

/-! ### intervalChanged -/

@[simp] theorem intervalChanged_core (n : Nat) (l : DataLine) : (intervalChanged n l s).core = s.core := by
  unfold intervalChanged; dsimp only; (repeat' split) <;> simp
@[simp] theorem intervalChanged_clock (n : Nat) (l : DataLine) : (intervalChanged n l s).clock = s.clock := by
  unfold intervalChanged; dsimp only; (repeat' split) <;> simp
@[simp] theorem intervalChanged_store (n : Nat) (l : DataLine) : (intervalChanged n l s).store = s.store := by
  unfold intervalChanged; dsimp only; (repeat' split) <;> simp
@[simp] theorem intervalChanged_detector (n : Nat) (l : DataLine) : (intervalChanged n l s).detector = s.detector := by
  unfold intervalChanged; dsimp only; (repeat' split) <;> simp
@[simp] theorem intervalChanged_fares (n : Nat) (l : DataLine) : (intervalChanged n l s).fares = s.fares := by
  unfold intervalChanged; dsimp only; (repeat' split) <;> simp
@[simp] theorem intervalChanged_revoked (n : Nat) (l : DataLine) : (intervalChanged n l s).revoked = s.revoked := by
  unfold intervalChanged; dsimp only; (repeat' split) <;> simp
@[simp] theorem intervalChanged_sales (n : Nat) (l : DataLine) : (intervalChanged n l s).sales = s.sales := by
  unfold intervalChanged; dsimp only; (repeat' split) <;> simp
@[simp] theorem intervalChanged_journal (n : Nat) (l : DataLine) : (intervalChanged n l s).journal = s.journal := by
  unfold intervalChanged; dsimp only; (repeat' split) <;> simp
@[simp] theorem intervalChanged_scheduler (n : Nat) (l : DataLine) : (intervalChanged n l s).scheduler = s.scheduler := by
  unfold intervalChanged; dsimp only; (repeat' split) <;> simp
@[simp] theorem intervalChanged_supply (n : Nat) (l : DataLine) : (intervalChanged n l s).supply = s.supply := by
  unfold intervalChanged; dsimp only; (repeat' split) <;> simp
@[simp] theorem intervalChanged_draws (n : Nat) (l : DataLine) : (intervalChanged n l s).draws = s.draws := by
  unfold intervalChanged; dsimp only; (repeat' split) <;> simp
@[simp] theorem intervalChanged_pending (n : Nat) (l : DataLine) : (intervalChanged n l s).pending = s.pending := by
  unfold intervalChanged; dsimp only; (repeat' split) <;> simp

/-! ### intervalPacingTaken -/

@[simp] theorem intervalPacingTaken_core (l : DataLine) : (intervalPacingTaken l s).core = s.core := by
  unfold intervalPacingTaken; (repeat' split) <;> simp
@[simp] theorem intervalPacingTaken_clock (l : DataLine) : (intervalPacingTaken l s).clock = s.clock := by
  unfold intervalPacingTaken; (repeat' split) <;> simp
@[simp] theorem intervalPacingTaken_store (l : DataLine) : (intervalPacingTaken l s).store = s.store := by
  unfold intervalPacingTaken; (repeat' split) <;> simp
@[simp] theorem intervalPacingTaken_detector (l : DataLine) : (intervalPacingTaken l s).detector = s.detector := by
  unfold intervalPacingTaken; (repeat' split) <;> simp
@[simp] theorem intervalPacingTaken_fares (l : DataLine) : (intervalPacingTaken l s).fares = s.fares := by
  unfold intervalPacingTaken; (repeat' split) <;> simp
@[simp] theorem intervalPacingTaken_revoked (l : DataLine) : (intervalPacingTaken l s).revoked = s.revoked := by
  unfold intervalPacingTaken; (repeat' split) <;> simp
@[simp] theorem intervalPacingTaken_sales (l : DataLine) : (intervalPacingTaken l s).sales = s.sales := by
  unfold intervalPacingTaken; (repeat' split) <;> simp
@[simp] theorem intervalPacingTaken_journal (l : DataLine) : (intervalPacingTaken l s).journal = s.journal := by
  unfold intervalPacingTaken; (repeat' split) <;> simp
@[simp] theorem intervalPacingTaken_scheduler (l : DataLine) : (intervalPacingTaken l s).scheduler = s.scheduler := by
  unfold intervalPacingTaken; (repeat' split) <;> simp
@[simp] theorem intervalPacingTaken_supply (l : DataLine) : (intervalPacingTaken l s).supply = s.supply := by
  unfold intervalPacingTaken; (repeat' split) <;> simp
@[simp] theorem intervalPacingTaken_draws (l : DataLine) : (intervalPacingTaken l s).draws = s.draws := by
  unfold intervalPacingTaken; (repeat' split) <;> simp
@[simp] theorem intervalPacingTaken_pending (l : DataLine) : (intervalPacingTaken l s).pending = s.pending := by
  unfold intervalPacingTaken; (repeat' split) <;> simp

/-! ### needToday -/

@[simp] theorem needToday_core : (needToday s).core = s.core := by
  unfold needToday; split <;> simp
@[simp] theorem needToday_clock : (needToday s).clock = s.clock := by
  unfold needToday; split <;> simp
@[simp] theorem needToday_store : (needToday s).store = s.store := by
  unfold needToday; split <;> simp
@[simp] theorem needToday_detector : (needToday s).detector = s.detector := by
  unfold needToday; split <;> simp
@[simp] theorem needToday_fares : (needToday s).fares = s.fares := by
  unfold needToday; split <;> simp
@[simp] theorem needToday_revoked : (needToday s).revoked = s.revoked := by
  unfold needToday; split <;> simp
@[simp] theorem needToday_sales : (needToday s).sales = s.sales := by
  unfold needToday; split <;> simp
@[simp] theorem needToday_journal : (needToday s).journal = s.journal := by
  unfold needToday; split <;> simp
@[simp] theorem needToday_scheduler : (needToday s).scheduler = s.scheduler := by
  unfold needToday; split <;> simp
@[simp] theorem needToday_compositor : (needToday s).compositor = s.compositor := by
  unfold needToday; split <;> simp
@[simp] theorem needToday_bus : (needToday s).bus = s.bus := by
  unfold needToday; split <;> simp
@[simp] theorem needToday_supply : (needToday s).supply = s.supply := by
  unfold needToday; split <;> simp
@[simp] theorem needToday_counters : (needToday s).counters = s.counters := by
  unfold needToday; split <;> simp
@[simp] theorem needToday_draws : (needToday s).draws = s.draws := by
  unfold needToday; split <;> simp
@[simp] theorem needToday_pending : (needToday s).pending = s.pending := by
  unfold needToday; split <;> simp

/-! ### tellTomorrow -/

@[simp] theorem tellTomorrow_core (b : Bool) : (tellTomorrow b s).core = s.core := by
  unfold tellTomorrow; (repeat' split) <;> simp
@[simp] theorem tellTomorrow_clock (b : Bool) : (tellTomorrow b s).clock = s.clock := by
  unfold tellTomorrow; (repeat' split) <;> simp
@[simp] theorem tellTomorrow_store (b : Bool) : (tellTomorrow b s).store = s.store := by
  unfold tellTomorrow; (repeat' split) <;> simp
@[simp] theorem tellTomorrow_detector (b : Bool) : (tellTomorrow b s).detector = s.detector := by
  unfold tellTomorrow; (repeat' split) <;> simp
@[simp] theorem tellTomorrow_fares (b : Bool) : (tellTomorrow b s).fares = s.fares := by
  unfold tellTomorrow; (repeat' split) <;> simp
@[simp] theorem tellTomorrow_revoked (b : Bool) : (tellTomorrow b s).revoked = s.revoked := by
  unfold tellTomorrow; (repeat' split) <;> simp
@[simp] theorem tellTomorrow_journal (b : Bool) : (tellTomorrow b s).journal = s.journal := by
  unfold tellTomorrow; (repeat' split) <;> simp
@[simp] theorem tellTomorrow_scheduler (b : Bool) : (tellTomorrow b s).scheduler = s.scheduler := by
  unfold tellTomorrow; (repeat' split) <;> simp
@[simp] theorem tellTomorrow_compositor (b : Bool) : (tellTomorrow b s).compositor = s.compositor := by
  unfold tellTomorrow; (repeat' split) <;> simp
@[simp] theorem tellTomorrow_bus (b : Bool) : (tellTomorrow b s).bus = s.bus := by
  unfold tellTomorrow; (repeat' split) <;> simp
@[simp] theorem tellTomorrow_supply (b : Bool) : (tellTomorrow b s).supply = s.supply := by
  unfold tellTomorrow; (repeat' split) <;> simp
@[simp] theorem tellTomorrow_counters (b : Bool) : (tellTomorrow b s).counters = s.counters := by
  unfold tellTomorrow; (repeat' split) <;> simp
@[simp] theorem tellTomorrow_ports (b : Bool) : (tellTomorrow b s).ports = s.ports := by
  unfold tellTomorrow; (repeat' split) <;> simp
@[simp] theorem tellTomorrow_draws (b : Bool) : (tellTomorrow b s).draws = s.draws := by
  unfold tellTomorrow; (repeat' split) <;> simp
@[simp] theorem tellTomorrow_pending (b : Bool) : (tellTomorrow b s).pending = s.pending := by
  unfold tellTomorrow; (repeat' split) <;> simp

/-! ### dayBoundary -/

@[simp] theorem dayBoundary_core (k : DayKind) : (dayBoundary k s).core = s.core := by
  simp [dayBoundary]
@[simp] theorem dayBoundary_detector (k : DayKind) : (dayBoundary k s).detector = s.detector := by
  simp [dayBoundary]
@[simp] theorem dayBoundary_fares (k : DayKind) : (dayBoundary k s).fares = s.fares := by
  simp [dayBoundary]
@[simp] theorem dayBoundary_revoked (k : DayKind) : (dayBoundary k s).revoked = s.revoked := by
  simp [dayBoundary]
@[simp] theorem dayBoundary_journal (k : DayKind) : (dayBoundary k s).journal = s.journal := by
  simp [dayBoundary]
@[simp] theorem dayBoundary_scheduler (k : DayKind) : (dayBoundary k s).scheduler = s.scheduler := by
  simp [dayBoundary]
@[simp] theorem dayBoundary_compositor (k : DayKind) : (dayBoundary k s).compositor = s.compositor := by
  simp [dayBoundary]
@[simp] theorem dayBoundary_bus (k : DayKind) : (dayBoundary k s).bus = s.bus := by
  simp [dayBoundary]
@[simp] theorem dayBoundary_supply (k : DayKind) : (dayBoundary k s).supply = s.supply := by
  simp [dayBoundary]
@[simp] theorem dayBoundary_counters (k : DayKind) : (dayBoundary k s).counters = s.counters := by
  simp [dayBoundary]
@[simp] theorem dayBoundary_draws (k : DayKind) : (dayBoundary k s).draws = s.draws := by
  simp [dayBoundary]
@[simp] theorem dayBoundary_pending (k : DayKind) : (dayBoundary k s).pending = s.pending := by
  simp [dayBoundary]

/-! ### lapseCall -/

@[simp] theorem lapseCall_core (c : Call) : (lapseCall c s).core = s.core := by
  simp [lapseCall]
@[simp] theorem lapseCall_clock (c : Call) : (lapseCall c s).clock = s.clock := by
  simp [lapseCall]
@[simp] theorem lapseCall_detector (c : Call) : (lapseCall c s).detector = s.detector := by
  simp [lapseCall]
@[simp] theorem lapseCall_fares (c : Call) : (lapseCall c s).fares = s.fares := by
  simp [lapseCall]
@[simp] theorem lapseCall_revoked (c : Call) : (lapseCall c s).revoked = s.revoked := by
  simp [lapseCall]
@[simp] theorem lapseCall_scheduler (c : Call) : (lapseCall c s).scheduler = s.scheduler := by
  simp [lapseCall]
@[simp] theorem lapseCall_compositor (c : Call) : (lapseCall c s).compositor = s.compositor := by
  simp [lapseCall]
@[simp] theorem lapseCall_bus (c : Call) : (lapseCall c s).bus = s.bus := by
  simp [lapseCall]
@[simp] theorem lapseCall_supply (c : Call) : (lapseCall c s).supply = s.supply := by
  simp [lapseCall]
@[simp] theorem lapseCall_draws (c : Call) : (lapseCall c s).draws = s.draws := by
  simp [lapseCall]
@[simp] theorem lapseCall_pending (c : Call) : (lapseCall c s).pending = s.pending := by
  simp [lapseCall]

/-! ### lapseCalls -/

@[simp] theorem lapseCalls_core : (lapseCalls s).core = s.core := by
  rw [lapseCalls]
  generalize (callsOf s.store.today).filter _ = l
  induction l generalizing s with
  | nil => rfl
  | cons c l ih => exact (ih (lapseCall c s)).trans (lapseCall_core s c)
@[simp] theorem lapseCalls_clock : (lapseCalls s).clock = s.clock := by
  rw [lapseCalls]
  generalize (callsOf s.store.today).filter _ = l
  induction l generalizing s with
  | nil => rfl
  | cons c l ih => exact (ih (lapseCall c s)).trans (lapseCall_clock s c)
@[simp] theorem lapseCalls_detector : (lapseCalls s).detector = s.detector := by
  rw [lapseCalls]
  generalize (callsOf s.store.today).filter _ = l
  induction l generalizing s with
  | nil => rfl
  | cons c l ih => exact (ih (lapseCall c s)).trans (lapseCall_detector s c)
@[simp] theorem lapseCalls_fares : (lapseCalls s).fares = s.fares := by
  rw [lapseCalls]
  generalize (callsOf s.store.today).filter _ = l
  induction l generalizing s with
  | nil => rfl
  | cons c l ih => exact (ih (lapseCall c s)).trans (lapseCall_fares s c)
@[simp] theorem lapseCalls_revoked : (lapseCalls s).revoked = s.revoked := by
  rw [lapseCalls]
  generalize (callsOf s.store.today).filter _ = l
  induction l generalizing s with
  | nil => rfl
  | cons c l ih => exact (ih (lapseCall c s)).trans (lapseCall_revoked s c)
@[simp] theorem lapseCalls_scheduler : (lapseCalls s).scheduler = s.scheduler := by
  rw [lapseCalls]
  generalize (callsOf s.store.today).filter _ = l
  induction l generalizing s with
  | nil => rfl
  | cons c l ih => exact (ih (lapseCall c s)).trans (lapseCall_scheduler s c)
@[simp] theorem lapseCalls_compositor : (lapseCalls s).compositor = s.compositor := by
  rw [lapseCalls]
  generalize (callsOf s.store.today).filter _ = l
  induction l generalizing s with
  | nil => rfl
  | cons c l ih => exact (ih (lapseCall c s)).trans (lapseCall_compositor s c)
@[simp] theorem lapseCalls_bus : (lapseCalls s).bus = s.bus := by
  rw [lapseCalls]
  generalize (callsOf s.store.today).filter _ = l
  induction l generalizing s with
  | nil => rfl
  | cons c l ih => exact (ih (lapseCall c s)).trans (lapseCall_bus s c)
@[simp] theorem lapseCalls_supply : (lapseCalls s).supply = s.supply := by
  rw [lapseCalls]
  generalize (callsOf s.store.today).filter _ = l
  induction l generalizing s with
  | nil => rfl
  | cons c l ih => exact (ih (lapseCall c s)).trans (lapseCall_supply s c)
@[simp] theorem lapseCalls_draws : (lapseCalls s).draws = s.draws := by
  rw [lapseCalls]
  generalize (callsOf s.store.today).filter _ = l
  induction l generalizing s with
  | nil => rfl
  | cons c l ih => exact (ih (lapseCall c s)).trans (lapseCall_draws s c)
@[simp] theorem lapseCalls_pending : (lapseCalls s).pending = s.pending := by
  rw [lapseCalls]
  generalize (callsOf s.store.today).filter _ = l
  induction l generalizing s with
  | nil => rfl
  | cons c l ih => exact (ih (lapseCall c s)).trans (lapseCall_pending s c)

/-! ### flagCalls -/

@[simp] theorem flagCalls_core : (flagCalls s).core = s.core := rfl
@[simp] theorem flagCalls_clock : (flagCalls s).clock = s.clock := rfl
@[simp] theorem flagCalls_detector : (flagCalls s).detector = s.detector := rfl
@[simp] theorem flagCalls_fares : (flagCalls s).fares = s.fares := rfl
@[simp] theorem flagCalls_revoked : (flagCalls s).revoked = s.revoked := rfl
@[simp] theorem flagCalls_sales : (flagCalls s).sales = s.sales := rfl
@[simp] theorem flagCalls_journal : (flagCalls s).journal = s.journal := rfl
@[simp] theorem flagCalls_scheduler : (flagCalls s).scheduler = s.scheduler := rfl
@[simp] theorem flagCalls_compositor : (flagCalls s).compositor = s.compositor := rfl
@[simp] theorem flagCalls_bus : (flagCalls s).bus = s.bus := rfl
@[simp] theorem flagCalls_supply : (flagCalls s).supply = s.supply := rfl
@[simp] theorem flagCalls_counters : (flagCalls s).counters = s.counters := rfl
@[simp] theorem flagCalls_ports : (flagCalls s).ports = s.ports := rfl
@[simp] theorem flagCalls_draws : (flagCalls s).draws = s.draws := rfl
@[simp] theorem flagCalls_pending : (flagCalls s).pending = s.pending := rfl

/-! ### eveningTest -/

@[simp] theorem eveningTest_core : (eveningTest s).core = s.core := by
  unfold eveningTest; split <;> simp
@[simp] theorem eveningTest_clock : (eveningTest s).clock = s.clock := by
  unfold eveningTest; split <;> simp
@[simp] theorem eveningTest_detector : (eveningTest s).detector = s.detector := by
  unfold eveningTest; split <;> simp
@[simp] theorem eveningTest_fares : (eveningTest s).fares = s.fares := by
  unfold eveningTest; split <;> simp
@[simp] theorem eveningTest_revoked : (eveningTest s).revoked = s.revoked := by
  unfold eveningTest; split <;> simp
@[simp] theorem eveningTest_sales : (eveningTest s).sales = s.sales := by
  unfold eveningTest; split <;> simp
@[simp] theorem eveningTest_journal : (eveningTest s).journal = s.journal := by
  unfold eveningTest; split <;> simp
@[simp] theorem eveningTest_scheduler : (eveningTest s).scheduler = s.scheduler := by
  unfold eveningTest; split <;> simp
@[simp] theorem eveningTest_compositor : (eveningTest s).compositor = s.compositor := by
  unfold eveningTest; split <;> simp
@[simp] theorem eveningTest_bus : (eveningTest s).bus = s.bus := by
  unfold eveningTest; split <;> simp
@[simp] theorem eveningTest_supply : (eveningTest s).supply = s.supply := by
  unfold eveningTest; split <;> simp
@[simp] theorem eveningTest_counters : (eveningTest s).counters = s.counters := by
  unfold eveningTest; split <;> simp
@[simp] theorem eveningTest_draws : (eveningTest s).draws = s.draws := by
  unfold eveningTest; split <;> simp
@[simp] theorem eveningTest_pending : (eveningTest s).pending = s.pending := by
  unfold eveningTest; split <;> simp

/-! ### minuteTick -/

@[simp] theorem minuteTick_core : (minuteTick s).core = s.core := by
  simp [minuteTick]
@[simp] theorem minuteTick_clock : (minuteTick s).clock = s.clock := by
  simp [minuteTick]
@[simp] theorem minuteTick_detector : (minuteTick s).detector = s.detector := by
  simp [minuteTick]
@[simp] theorem minuteTick_fares : (minuteTick s).fares = s.fares := by
  simp [minuteTick]
@[simp] theorem minuteTick_revoked : (minuteTick s).revoked = s.revoked := by
  simp [minuteTick]
@[simp] theorem minuteTick_scheduler : (minuteTick s).scheduler = s.scheduler := by
  simp [minuteTick]
@[simp] theorem minuteTick_bus : (minuteTick s).bus = s.bus := by
  simp [minuteTick]
@[simp] theorem minuteTick_supply : (minuteTick s).supply = s.supply := by
  simp [minuteTick]
@[simp] theorem minuteTick_draws : (minuteTick s).draws = s.draws := by
  simp [minuteTick]
@[simp] theorem minuteTick_pending : (minuteTick s).pending = s.pending := by
  simp [minuteTick]

/-! ### touchStaging -/

@[simp] theorem touchStaging_core (p : Port) : (touchStaging p s).core = s.core := by
  unfold touchStaging; (repeat' split) <;> simp
@[simp] theorem touchStaging_clock (p : Port) : (touchStaging p s).clock = s.clock := by
  unfold touchStaging; (repeat' split) <;> simp
@[simp] theorem touchStaging_detector (p : Port) : (touchStaging p s).detector = s.detector := by
  unfold touchStaging; (repeat' split) <;> simp
@[simp] theorem touchStaging_fares (p : Port) : (touchStaging p s).fares = s.fares := by
  unfold touchStaging; (repeat' split) <;> simp
@[simp] theorem touchStaging_revoked (p : Port) : (touchStaging p s).revoked = s.revoked := by
  unfold touchStaging; (repeat' split) <;> simp
@[simp] theorem touchStaging_sales (p : Port) : (touchStaging p s).sales = s.sales := by
  unfold touchStaging; (repeat' split) <;> simp
@[simp] theorem touchStaging_journal (p : Port) : (touchStaging p s).journal = s.journal := by
  unfold touchStaging; (repeat' split) <;> simp
@[simp] theorem touchStaging_scheduler (p : Port) : (touchStaging p s).scheduler = s.scheduler := by
  unfold touchStaging; (repeat' split) <;> simp
@[simp] theorem touchStaging_compositor (p : Port) : (touchStaging p s).compositor = s.compositor := by
  unfold touchStaging; (repeat' split) <;> simp
@[simp] theorem touchStaging_bus (p : Port) : (touchStaging p s).bus = s.bus := by
  unfold touchStaging; (repeat' split) <;> simp
@[simp] theorem touchStaging_supply (p : Port) : (touchStaging p s).supply = s.supply := by
  unfold touchStaging; (repeat' split) <;> simp
@[simp] theorem touchStaging_counters (p : Port) : (touchStaging p s).counters = s.counters := by
  unfold touchStaging; (repeat' split) <;> simp
@[simp] theorem touchStaging_ports (p : Port) : (touchStaging p s).ports = s.ports := by
  unfold touchStaging; (repeat' split) <;> simp
@[simp] theorem touchStaging_draws (p : Port) : (touchStaging p s).draws = s.draws := by
  unfold touchStaging; (repeat' split) <;> simp
@[simp] theorem touchStaging_pending (p : Port) : (touchStaging p s).pending = s.pending := by
  unfold touchStaging; (repeat' split) <;> simp

/-! ### releaseStaging -/

@[simp] theorem releaseStaging_core (p : Port) : (releaseStaging p s).core = s.core := by
  unfold releaseStaging; (repeat' split) <;> simp
@[simp] theorem releaseStaging_clock (p : Port) : (releaseStaging p s).clock = s.clock := by
  unfold releaseStaging; (repeat' split) <;> simp
@[simp] theorem releaseStaging_detector (p : Port) : (releaseStaging p s).detector = s.detector := by
  unfold releaseStaging; (repeat' split) <;> simp
@[simp] theorem releaseStaging_fares (p : Port) : (releaseStaging p s).fares = s.fares := by
  unfold releaseStaging; (repeat' split) <;> simp
@[simp] theorem releaseStaging_revoked (p : Port) : (releaseStaging p s).revoked = s.revoked := by
  unfold releaseStaging; (repeat' split) <;> simp
@[simp] theorem releaseStaging_sales (p : Port) : (releaseStaging p s).sales = s.sales := by
  unfold releaseStaging; (repeat' split) <;> simp
@[simp] theorem releaseStaging_journal (p : Port) : (releaseStaging p s).journal = s.journal := by
  unfold releaseStaging; (repeat' split) <;> simp
@[simp] theorem releaseStaging_scheduler (p : Port) : (releaseStaging p s).scheduler = s.scheduler := by
  unfold releaseStaging; (repeat' split) <;> simp
@[simp] theorem releaseStaging_compositor (p : Port) : (releaseStaging p s).compositor = s.compositor := by
  unfold releaseStaging; (repeat' split) <;> simp
@[simp] theorem releaseStaging_bus (p : Port) : (releaseStaging p s).bus = s.bus := by
  unfold releaseStaging; (repeat' split) <;> simp
@[simp] theorem releaseStaging_supply (p : Port) : (releaseStaging p s).supply = s.supply := by
  unfold releaseStaging; (repeat' split) <;> simp
@[simp] theorem releaseStaging_counters (p : Port) : (releaseStaging p s).counters = s.counters := by
  unfold releaseStaging; (repeat' split) <;> simp
@[simp] theorem releaseStaging_ports (p : Port) : (releaseStaging p s).ports = s.ports := by
  unfold releaseStaging; (repeat' split) <;> simp
@[simp] theorem releaseStaging_draws (p : Port) : (releaseStaging p s).draws = s.draws := by
  unfold releaseStaging; (repeat' split) <;> simp
@[simp] theorem releaseStaging_pending (p : Port) : (releaseStaging p s).pending = s.pending := by
  unfold releaseStaging; (repeat' split) <;> simp

/-! ### placeStaging -/

@[simp] theorem placeStaging_core (g : Staging) (t : TableName) : (placeStaging g t s).core = s.core := by
  simp [placeStaging, withdrawServices]
@[simp] theorem placeStaging_detector (g : Staging) (t : TableName) : (placeStaging g t s).detector = s.detector := by
  simp [placeStaging, withdrawServices]
@[simp] theorem placeStaging_fares (g : Staging) (t : TableName) : (placeStaging g t s).fares = s.fares := by
  simp [placeStaging, withdrawServices]
@[simp] theorem placeStaging_revoked (g : Staging) (t : TableName) : (placeStaging g t s).revoked = s.revoked := by
  simp [placeStaging, withdrawServices]
@[simp] theorem placeStaging_scheduler (g : Staging) (t : TableName) : (placeStaging g t s).scheduler = s.scheduler := by
  simp [placeStaging, withdrawServices]
@[simp] theorem placeStaging_compositor (g : Staging) (t : TableName) : (placeStaging g t s).compositor = s.compositor := by
  simp [placeStaging, withdrawServices]
@[simp] theorem placeStaging_bus (g : Staging) (t : TableName) : (placeStaging g t s).bus = s.bus := by
  simp [placeStaging, withdrawServices]
@[simp] theorem placeStaging_supply (g : Staging) (t : TableName) : (placeStaging g t s).supply = s.supply := by
  simp [placeStaging, withdrawServices]
@[simp] theorem placeStaging_draws (g : Staging) (t : TableName) : (placeStaging g t s).draws = s.draws := by
  simp [placeStaging, withdrawServices]
@[simp] theorem placeStaging_pending (g : Staging) (t : TableName) : (placeStaging g t s).pending = s.pending := by
  simp [placeStaging, withdrawServices]

/-! ### formAxle -/

@[simp] theorem formAxle_core (d : Direction) : (formAxle d s).core = s.core := rfl
@[simp] theorem formAxle_clock (d : Direction) : (formAxle d s).clock = s.clock := rfl
@[simp] theorem formAxle_store (d : Direction) : (formAxle d s).store = s.store := rfl
@[simp] theorem formAxle_fares (d : Direction) : (formAxle d s).fares = s.fares := rfl
@[simp] theorem formAxle_revoked (d : Direction) : (formAxle d s).revoked = s.revoked := rfl
@[simp] theorem formAxle_sales (d : Direction) : (formAxle d s).sales = s.sales := rfl
@[simp] theorem formAxle_journal (d : Direction) : (formAxle d s).journal = s.journal := rfl
@[simp] theorem formAxle_scheduler (d : Direction) : (formAxle d s).scheduler = s.scheduler := rfl
@[simp] theorem formAxle_compositor (d : Direction) : (formAxle d s).compositor = s.compositor := rfl
@[simp] theorem formAxle_bus (d : Direction) : (formAxle d s).bus = s.bus := rfl
@[simp] theorem formAxle_supply (d : Direction) : (formAxle d s).supply = s.supply := rfl
@[simp] theorem formAxle_counters (d : Direction) : (formAxle d s).counters = s.counters := rfl
@[simp] theorem formAxle_ports (d : Direction) : (formAxle d s).ports = s.ports := rfl
@[simp] theorem formAxle_draws (d : Direction) : (formAxle d s).draws = s.draws := rfl
@[simp] theorem formAxle_pending (d : Direction) : (formAxle d s).pending = s.pending := rfl

/-! ### matchPassage -/

@[simp] theorem matchPassage_core (x : Passage) (c : Call) : (matchPassage x c s).core = s.core := by
  simp [matchPassage]
@[simp] theorem matchPassage_clock (x : Passage) (c : Call) : (matchPassage x c s).clock = s.clock := by
  simp [matchPassage]
@[simp] theorem matchPassage_detector (x : Passage) (c : Call) : (matchPassage x c s).detector = s.detector := by
  simp [matchPassage]
@[simp] theorem matchPassage_fares (x : Passage) (c : Call) : (matchPassage x c s).fares = s.fares := by
  simp [matchPassage]
@[simp] theorem matchPassage_revoked (x : Passage) (c : Call) : (matchPassage x c s).revoked = s.revoked := by
  simp [matchPassage]
@[simp] theorem matchPassage_journal (x : Passage) (c : Call) : (matchPassage x c s).journal = s.journal := by
  simp [matchPassage]
@[simp] theorem matchPassage_scheduler (x : Passage) (c : Call) : (matchPassage x c s).scheduler = s.scheduler := by
  simp [matchPassage]
@[simp] theorem matchPassage_compositor (x : Passage) (c : Call) : (matchPassage x c s).compositor = s.compositor := by
  simp [matchPassage]
@[simp] theorem matchPassage_bus (x : Passage) (c : Call) : (matchPassage x c s).bus = s.bus := by
  simp [matchPassage]
@[simp] theorem matchPassage_supply (x : Passage) (c : Call) : (matchPassage x c s).supply = s.supply := by
  simp [matchPassage]
@[simp] theorem matchPassage_ports (x : Passage) (c : Call) : (matchPassage x c s).ports = s.ports := by
  simp [matchPassage]
@[simp] theorem matchPassage_draws (x : Passage) (c : Call) : (matchPassage x c s).draws = s.draws := by
  simp [matchPassage]
@[simp] theorem matchPassage_pending (x : Passage) (c : Call) : (matchPassage x c s).pending = s.pending := by
  simp [matchPassage]

/-! ### unmatchedPassage -/

@[simp] theorem unmatchedPassage_core (x : Passage) : (unmatchedPassage x s).core = s.core := by
  simp [unmatchedPassage]
@[simp] theorem unmatchedPassage_clock (x : Passage) : (unmatchedPassage x s).clock = s.clock := by
  simp [unmatchedPassage]
@[simp] theorem unmatchedPassage_store (x : Passage) : (unmatchedPassage x s).store = s.store := by
  simp [unmatchedPassage]
@[simp] theorem unmatchedPassage_detector (x : Passage) : (unmatchedPassage x s).detector = s.detector := by
  simp [unmatchedPassage]
@[simp] theorem unmatchedPassage_fares (x : Passage) : (unmatchedPassage x s).fares = s.fares := by
  simp [unmatchedPassage]
@[simp] theorem unmatchedPassage_revoked (x : Passage) : (unmatchedPassage x s).revoked = s.revoked := by
  simp [unmatchedPassage]
@[simp] theorem unmatchedPassage_scheduler (x : Passage) : (unmatchedPassage x s).scheduler = s.scheduler := by
  simp [unmatchedPassage]
@[simp] theorem unmatchedPassage_compositor (x : Passage) : (unmatchedPassage x s).compositor = s.compositor := by
  simp [unmatchedPassage]
@[simp] theorem unmatchedPassage_bus (x : Passage) : (unmatchedPassage x s).bus = s.bus := by
  simp [unmatchedPassage]
@[simp] theorem unmatchedPassage_supply (x : Passage) : (unmatchedPassage x s).supply = s.supply := by
  simp [unmatchedPassage]
@[simp] theorem unmatchedPassage_draws (x : Passage) : (unmatchedPassage x s).draws = s.draws := by
  simp [unmatchedPassage]
@[simp] theorem unmatchedPassage_pending (x : Passage) : (unmatchedPassage x s).pending = s.pending := by
  simp [unmatchedPassage]

/-! ### tellSales -/

@[simp] theorem tellSales_core (a b : SupplyState) : (tellSales a b s).core = s.core := by
  unfold tellSales; (repeat' split) <;> simp
@[simp] theorem tellSales_clock (a b : SupplyState) : (tellSales a b s).clock = s.clock := by
  unfold tellSales; (repeat' split) <;> simp
@[simp] theorem tellSales_store (a b : SupplyState) : (tellSales a b s).store = s.store := by
  unfold tellSales; (repeat' split) <;> simp
@[simp] theorem tellSales_detector (a b : SupplyState) : (tellSales a b s).detector = s.detector := by
  unfold tellSales; (repeat' split) <;> simp
@[simp] theorem tellSales_fares (a b : SupplyState) : (tellSales a b s).fares = s.fares := by
  unfold tellSales; (repeat' split) <;> simp
@[simp] theorem tellSales_revoked (a b : SupplyState) : (tellSales a b s).revoked = s.revoked := by
  unfold tellSales; (repeat' split) <;> simp
@[simp] theorem tellSales_journal (a b : SupplyState) : (tellSales a b s).journal = s.journal := by
  unfold tellSales; (repeat' split) <;> simp
@[simp] theorem tellSales_scheduler (a b : SupplyState) : (tellSales a b s).scheduler = s.scheduler := by
  unfold tellSales; (repeat' split) <;> simp
@[simp] theorem tellSales_compositor (a b : SupplyState) : (tellSales a b s).compositor = s.compositor := by
  unfold tellSales; (repeat' split) <;> simp
@[simp] theorem tellSales_bus (a b : SupplyState) : (tellSales a b s).bus = s.bus := by
  unfold tellSales; (repeat' split) <;> simp
@[simp] theorem tellSales_supply (a b : SupplyState) : (tellSales a b s).supply = s.supply := by
  unfold tellSales; (repeat' split) <;> simp
@[simp] theorem tellSales_counters (a b : SupplyState) : (tellSales a b s).counters = s.counters := by
  unfold tellSales; (repeat' split) <;> simp
@[simp] theorem tellSales_draws (a b : SupplyState) : (tellSales a b s).draws = s.draws := by
  unfold tellSales; (repeat' split) <;> simp
@[simp] theorem tellSales_pending (a b : SupplyState) : (tellSales a b s).pending = s.pending := by
  unfold tellSales; (repeat' split) <;> simp

/-! ### changeSupply -/

@[simp] theorem changeSupply_core (x : SupplyState) (l : DataLine) : (changeSupply x l s).core = s.core := by
  unfold changeSupply; dsimp only; split <;> simp
@[simp] theorem changeSupply_clock (x : SupplyState) (l : DataLine) : (changeSupply x l s).clock = s.clock := by
  unfold changeSupply; dsimp only; split <;> simp
@[simp] theorem changeSupply_store (x : SupplyState) (l : DataLine) : (changeSupply x l s).store = s.store := by
  unfold changeSupply; dsimp only; split <;> simp
@[simp] theorem changeSupply_detector (x : SupplyState) (l : DataLine) : (changeSupply x l s).detector = s.detector := by
  unfold changeSupply; dsimp only; split <;> simp
@[simp] theorem changeSupply_fares (x : SupplyState) (l : DataLine) : (changeSupply x l s).fares = s.fares := by
  unfold changeSupply; dsimp only; split <;> simp
@[simp] theorem changeSupply_revoked (x : SupplyState) (l : DataLine) : (changeSupply x l s).revoked = s.revoked := by
  unfold changeSupply; dsimp only; split <;> simp
@[simp] theorem changeSupply_scheduler (x : SupplyState) (l : DataLine) : (changeSupply x l s).scheduler = s.scheduler := by
  unfold changeSupply; dsimp only; split <;> simp
@[simp] theorem changeSupply_draws (x : SupplyState) (l : DataLine) : (changeSupply x l s).draws = s.draws := by
  unfold changeSupply; dsimp only; split <;> simp
@[simp] theorem changeSupply_pending (x : SupplyState) (l : DataLine) : (changeSupply x l s).pending = s.pending := by
  unfold changeSupply; dsimp only; split <;> simp

/-! ### releaseLoad -/

@[simp] theorem releaseLoad_core (p : Port) : (releaseLoad p s).core = s.core := by
  cases p <;> rfl
@[simp] theorem releaseLoad_clock (p : Port) : (releaseLoad p s).clock = s.clock := by
  cases p <;> rfl
@[simp] theorem releaseLoad_store (p : Port) : (releaseLoad p s).store = s.store := by
  cases p <;> rfl
@[simp] theorem releaseLoad_detector (p : Port) : (releaseLoad p s).detector = s.detector := by
  cases p <;> rfl
@[simp] theorem releaseLoad_fares (p : Port) : (releaseLoad p s).fares = s.fares := by
  cases p <;> rfl
@[simp] theorem releaseLoad_revoked (p : Port) : (releaseLoad p s).revoked = s.revoked := by
  cases p <;> rfl
@[simp] theorem releaseLoad_sales (p : Port) : (releaseLoad p s).sales = s.sales := by
  cases p <;> rfl
@[simp] theorem releaseLoad_journal (p : Port) : (releaseLoad p s).journal = s.journal := by
  cases p <;> rfl
@[simp] theorem releaseLoad_scheduler (p : Port) : (releaseLoad p s).scheduler = s.scheduler := by
  cases p <;> rfl
@[simp] theorem releaseLoad_compositor (p : Port) : (releaseLoad p s).compositor = s.compositor := by
  cases p <;> rfl
@[simp] theorem releaseLoad_bus (p : Port) : (releaseLoad p s).bus = s.bus := by
  cases p <;> rfl
@[simp] theorem releaseLoad_counters (p : Port) : (releaseLoad p s).counters = s.counters := by
  cases p <;> rfl
@[simp] theorem releaseLoad_ports (p : Port) : (releaseLoad p s).ports = s.ports := by
  cases p <;> rfl
@[simp] theorem releaseLoad_draws (p : Port) : (releaseLoad p s).draws = s.draws := by
  cases p <;> rfl
@[simp] theorem releaseLoad_pending (p : Port) : (releaseLoad p s).pending = s.pending := by
  cases p <;> rfl

/-! ### resetPort -/

@[simp] theorem resetPort_core (p : Port) : (resetPort p s).core = s.core := by
  simp [resetPort]
@[simp] theorem resetPort_clock (p : Port) : (resetPort p s).clock = s.clock := by
  simp [resetPort]
@[simp] theorem resetPort_detector (p : Port) : (resetPort p s).detector = s.detector := by
  simp [resetPort]
@[simp] theorem resetPort_fares (p : Port) : (resetPort p s).fares = s.fares := by
  simp [resetPort]
@[simp] theorem resetPort_revoked (p : Port) : (resetPort p s).revoked = s.revoked := by
  simp [resetPort]
@[simp] theorem resetPort_scheduler (p : Port) : (resetPort p s).scheduler = s.scheduler := by
  simp [resetPort]
@[simp] theorem resetPort_compositor (p : Port) : (resetPort p s).compositor = s.compositor := by
  simp [resetPort]
@[simp] theorem resetPort_bus (p : Port) : (resetPort p s).bus = s.bus := by
  simp [resetPort]
@[simp] theorem resetPort_counters (p : Port) : (resetPort p s).counters = s.counters := by
  simp [resetPort]
@[simp] theorem resetPort_draws (p : Port) : (resetPort p s).draws = s.draws := by
  simp [resetPort]
@[simp] theorem resetPort_pending (p : Port) : (resetPort p s).pending = s.pending := by
  simp [resetPort]

/-! ### setCondition -/

@[simp] theorem setCondition_core (p : Port) (x : ResetCondition) : (setCondition p x s).core = s.core := rfl
@[simp] theorem setCondition_clock (p : Port) (x : ResetCondition) : (setCondition p x s).clock = s.clock := rfl
@[simp] theorem setCondition_store (p : Port) (x : ResetCondition) : (setCondition p x s).store = s.store := rfl
@[simp] theorem setCondition_detector (p : Port) (x : ResetCondition) : (setCondition p x s).detector = s.detector := rfl
@[simp] theorem setCondition_fares (p : Port) (x : ResetCondition) : (setCondition p x s).fares = s.fares := rfl
@[simp] theorem setCondition_revoked (p : Port) (x : ResetCondition) : (setCondition p x s).revoked = s.revoked := rfl
@[simp] theorem setCondition_sales (p : Port) (x : ResetCondition) : (setCondition p x s).sales = s.sales := rfl
@[simp] theorem setCondition_journal (p : Port) (x : ResetCondition) : (setCondition p x s).journal = s.journal := rfl
@[simp] theorem setCondition_scheduler (p : Port) (x : ResetCondition) : (setCondition p x s).scheduler = s.scheduler := rfl
@[simp] theorem setCondition_compositor (p : Port) (x : ResetCondition) : (setCondition p x s).compositor = s.compositor := rfl
@[simp] theorem setCondition_bus (p : Port) (x : ResetCondition) : (setCondition p x s).bus = s.bus := rfl
@[simp] theorem setCondition_supply (p : Port) (x : ResetCondition) : (setCondition p x s).supply = s.supply := rfl
@[simp] theorem setCondition_counters (p : Port) (x : ResetCondition) : (setCondition p x s).counters = s.counters := rfl
@[simp] theorem setCondition_draws (p : Port) (x : ResetCondition) : (setCondition p x s).draws = s.draws := rfl
@[simp] theorem setCondition_pending (p : Port) (x : ResetCondition) : (setCondition p x s).pending = s.pending := rfl

/-! ### setRightsOf -/

@[simp] theorem setRightsOf_core (p : Port) (x : List RightsClass) : (setRightsOf p x s).core = s.core := rfl
@[simp] theorem setRightsOf_clock (p : Port) (x : List RightsClass) : (setRightsOf p x s).clock = s.clock := rfl
@[simp] theorem setRightsOf_store (p : Port) (x : List RightsClass) : (setRightsOf p x s).store = s.store := rfl
@[simp] theorem setRightsOf_detector (p : Port) (x : List RightsClass) : (setRightsOf p x s).detector = s.detector := rfl
@[simp] theorem setRightsOf_fares (p : Port) (x : List RightsClass) : (setRightsOf p x s).fares = s.fares := rfl
@[simp] theorem setRightsOf_revoked (p : Port) (x : List RightsClass) : (setRightsOf p x s).revoked = s.revoked := rfl
@[simp] theorem setRightsOf_sales (p : Port) (x : List RightsClass) : (setRightsOf p x s).sales = s.sales := rfl
@[simp] theorem setRightsOf_journal (p : Port) (x : List RightsClass) : (setRightsOf p x s).journal = s.journal := rfl
@[simp] theorem setRightsOf_scheduler (p : Port) (x : List RightsClass) : (setRightsOf p x s).scheduler = s.scheduler := rfl
@[simp] theorem setRightsOf_compositor (p : Port) (x : List RightsClass) : (setRightsOf p x s).compositor = s.compositor := rfl
@[simp] theorem setRightsOf_bus (p : Port) (x : List RightsClass) : (setRightsOf p x s).bus = s.bus := rfl
@[simp] theorem setRightsOf_supply (p : Port) (x : List RightsClass) : (setRightsOf p x s).supply = s.supply := rfl
@[simp] theorem setRightsOf_counters (p : Port) (x : List RightsClass) : (setRightsOf p x s).counters = s.counters := rfl
@[simp] theorem setRightsOf_draws (p : Port) (x : List RightsClass) : (setRightsOf p x s).draws = s.draws := rfl
@[simp] theorem setRightsOf_pending (p : Port) (x : List RightsClass) : (setRightsOf p x s).pending = s.pending := rfl

/-! ### restarted -/

@[simp] theorem restarted_core : (restarted s).core = s.core := by
  simp [restarted]
@[simp] theorem restarted_clock : (restarted s).clock = s.clock := by
  simp [restarted]
@[simp] theorem restarted_store : (restarted s).store = s.store := by
  simp [restarted]
@[simp] theorem restarted_detector : (restarted s).detector = s.detector := by
  simp [restarted]
@[simp] theorem restarted_fares : (restarted s).fares = s.fares := by
  simp [restarted]
@[simp] theorem restarted_revoked : (restarted s).revoked = s.revoked := by
  simp [restarted]
@[simp] theorem restarted_sales : (restarted s).sales = s.sales := by
  simp [restarted]
@[simp] theorem restarted_journal : (restarted s).journal = s.journal := by
  simp [restarted]
@[simp] theorem restarted_scheduler : (restarted s).scheduler = s.scheduler := by
  simp [restarted]
@[simp] theorem restarted_compositor : (restarted s).compositor = s.compositor := by
  simp [restarted]
@[simp] theorem restarted_bus : (restarted s).bus = s.bus := by
  simp [restarted]
@[simp] theorem restarted_supply : (restarted s).supply = s.supply := by
  simp [restarted]
@[simp] theorem restarted_counters : (restarted s).counters = s.counters := by
  simp [restarted]
@[simp] theorem restarted_draws : (restarted s).draws = s.draws := by
  simp [restarted]
@[simp] theorem restarted_pending : (restarted s).pending = s.pending := by
  simp [restarted]

/-! ### startUpload -/

@[simp] theorem startUpload_core : (startUpload s).core = s.core := by
  unfold startUpload; split <;> simp
@[simp] theorem startUpload_clock : (startUpload s).clock = s.clock := by
  unfold startUpload; split <;> simp
@[simp] theorem startUpload_store : (startUpload s).store = s.store := by
  unfold startUpload; split <;> simp
@[simp] theorem startUpload_detector : (startUpload s).detector = s.detector := by
  unfold startUpload; split <;> simp
@[simp] theorem startUpload_fares : (startUpload s).fares = s.fares := by
  unfold startUpload; split <;> simp
@[simp] theorem startUpload_revoked : (startUpload s).revoked = s.revoked := by
  unfold startUpload; split <;> simp
@[simp] theorem startUpload_sales : (startUpload s).sales = s.sales := by
  unfold startUpload; split <;> simp
@[simp] theorem startUpload_journal : (startUpload s).journal = s.journal := by
  unfold startUpload; split <;> simp
@[simp] theorem startUpload_scheduler : (startUpload s).scheduler = s.scheduler := by
  unfold startUpload; split <;> simp
@[simp] theorem startUpload_compositor : (startUpload s).compositor = s.compositor := by
  unfold startUpload; split <;> simp
@[simp] theorem startUpload_bus : (startUpload s).bus = s.bus := by
  unfold startUpload; split <;> simp
@[simp] theorem startUpload_supply : (startUpload s).supply = s.supply := by
  unfold startUpload; split <;> simp
@[simp] theorem startUpload_counters : (startUpload s).counters = s.counters := by
  unfold startUpload; split <;> simp
@[simp] theorem startUpload_draws : (startUpload s).draws = s.draws := by
  unfold startUpload; split <;> simp
@[simp] theorem startUpload_pending : (startUpload s).pending = s.pending := by
  unfold startUpload; split <;> simp

/-! ### startBoundary -/

@[simp] theorem startBoundary_core : (startBoundary s).core = s.core := by
  unfold startBoundary; split <;> simp
@[simp] theorem startBoundary_detector : (startBoundary s).detector = s.detector := by
  unfold startBoundary; split <;> simp
@[simp] theorem startBoundary_fares : (startBoundary s).fares = s.fares := by
  unfold startBoundary; split <;> simp
@[simp] theorem startBoundary_revoked : (startBoundary s).revoked = s.revoked := by
  unfold startBoundary; split <;> simp
@[simp] theorem startBoundary_journal : (startBoundary s).journal = s.journal := by
  unfold startBoundary; split <;> simp
@[simp] theorem startBoundary_scheduler : (startBoundary s).scheduler = s.scheduler := by
  unfold startBoundary; split <;> simp
@[simp] theorem startBoundary_compositor : (startBoundary s).compositor = s.compositor := by
  unfold startBoundary; split <;> simp
@[simp] theorem startBoundary_bus : (startBoundary s).bus = s.bus := by
  unfold startBoundary; split <;> simp
@[simp] theorem startBoundary_supply : (startBoundary s).supply = s.supply := by
  unfold startBoundary; split <;> simp
@[simp] theorem startBoundary_counters : (startBoundary s).counters = s.counters := by
  unfold startBoundary; split <;> simp
@[simp] theorem startBoundary_draws : (startBoundary s).draws = s.draws := by
  unfold startBoundary; split <;> simp
@[simp] theorem startBoundary_pending : (startBoundary s).pending = s.pending := by
  unfold startBoundary; split <;> simp

/-! ### startTick -/

@[simp] theorem startTick_core : (startTick s).core = s.core := by
  unfold startTick; split <;> simp
@[simp] theorem startTick_clock : (startTick s).clock = s.clock := by
  unfold startTick; split <;> simp
@[simp] theorem startTick_detector : (startTick s).detector = s.detector := by
  unfold startTick; split <;> simp
@[simp] theorem startTick_fares : (startTick s).fares = s.fares := by
  unfold startTick; split <;> simp
@[simp] theorem startTick_revoked : (startTick s).revoked = s.revoked := by
  unfold startTick; split <;> simp
@[simp] theorem startTick_scheduler : (startTick s).scheduler = s.scheduler := by
  unfold startTick; split <;> simp
@[simp] theorem startTick_bus : (startTick s).bus = s.bus := by
  unfold startTick; split <;> simp
@[simp] theorem startTick_supply : (startTick s).supply = s.supply := by
  unfold startTick; split <;> simp
@[simp] theorem startTick_draws : (startTick s).draws = s.draws := by
  unfold startTick; split <;> simp
@[simp] theorem startTick_pending : (startTick s).pending = s.pending := by
  unfold startTick; split <;> simp

/-! ### resumeFrames -/

@[simp] theorem resumeFrames_core (l : DataLine) : (resumeFrames l s).core = s.core := by
  unfold resumeFrames; split <;> simp
@[simp] theorem resumeFrames_clock (l : DataLine) : (resumeFrames l s).clock = s.clock := by
  unfold resumeFrames; split <;> simp
@[simp] theorem resumeFrames_store (l : DataLine) : (resumeFrames l s).store = s.store := by
  unfold resumeFrames; split <;> simp
@[simp] theorem resumeFrames_detector (l : DataLine) : (resumeFrames l s).detector = s.detector := by
  unfold resumeFrames; split <;> simp
@[simp] theorem resumeFrames_fares (l : DataLine) : (resumeFrames l s).fares = s.fares := by
  unfold resumeFrames; split <;> simp
@[simp] theorem resumeFrames_revoked (l : DataLine) : (resumeFrames l s).revoked = s.revoked := by
  unfold resumeFrames; split <;> simp
@[simp] theorem resumeFrames_sales (l : DataLine) : (resumeFrames l s).sales = s.sales := by
  unfold resumeFrames; split <;> simp
@[simp] theorem resumeFrames_journal (l : DataLine) : (resumeFrames l s).journal = s.journal := by
  unfold resumeFrames; split <;> simp
@[simp] theorem resumeFrames_scheduler (l : DataLine) : (resumeFrames l s).scheduler = s.scheduler := by
  unfold resumeFrames; split <;> simp
@[simp] theorem resumeFrames_supply (l : DataLine) : (resumeFrames l s).supply = s.supply := by
  unfold resumeFrames; split <;> simp
@[simp] theorem resumeFrames_draws (l : DataLine) : (resumeFrames l s).draws = s.draws := by
  unfold resumeFrames; split <;> simp
@[simp] theorem resumeFrames_pending (l : DataLine) : (resumeFrames l s).pending = s.pending := by
  unfold resumeFrames; split <;> simp

/-! ### rebuildReasons -/

@[simp] theorem rebuildReasons_core : (rebuildReasons s).core = s.core := rfl
@[simp] theorem rebuildReasons_clock : (rebuildReasons s).clock = s.clock := rfl
@[simp] theorem rebuildReasons_store : (rebuildReasons s).store = s.store := rfl
@[simp] theorem rebuildReasons_detector : (rebuildReasons s).detector = s.detector := rfl
@[simp] theorem rebuildReasons_fares : (rebuildReasons s).fares = s.fares := rfl
@[simp] theorem rebuildReasons_revoked : (rebuildReasons s).revoked = s.revoked := rfl
@[simp] theorem rebuildReasons_journal : (rebuildReasons s).journal = s.journal := rfl
@[simp] theorem rebuildReasons_scheduler : (rebuildReasons s).scheduler = s.scheduler := rfl
@[simp] theorem rebuildReasons_compositor : (rebuildReasons s).compositor = s.compositor := rfl
@[simp] theorem rebuildReasons_bus : (rebuildReasons s).bus = s.bus := rfl
@[simp] theorem rebuildReasons_supply : (rebuildReasons s).supply = s.supply := rfl
@[simp] theorem rebuildReasons_counters : (rebuildReasons s).counters = s.counters := rfl
@[simp] theorem rebuildReasons_ports : (rebuildReasons s).ports = s.ports := rfl
@[simp] theorem rebuildReasons_draws : (rebuildReasons s).draws = s.draws := rfl
@[simp] theorem rebuildReasons_pending : (rebuildReasons s).pending = s.pending := rfl

/-! ### What back-to-back frames keep: whatever each begun frame keeps -/

theorem takeDue_of_rest {s : State} (h : s.frameDue = false) (l : DataLine) (k : Nat) :
    takeDue l k s = s := by
  cases k <;> simp [takeDue, h]

/-- What every frame begun from a due start keeps, the frames that are due keep. -/
theorem takeDue_keeps {P : State → Prop} {l : DataLine}
    (frame : ∀ t : State, t.frameDue = true → P t → P (beginFrame l t)) (k : Nat) :
    ∀ {s : State}, P s → P (takeDue l k s) := by
  induction k with
  | zero => exact id
  | succ k ih =>
    intro s h
    unfold takeDue
    split
    · exact ih (frame s ‹_› h)
    · exact h

/-- The same for the whole run of them, where the count of endless empty frames, the status cycle and the
draws keep it too. -/
theorem framesRun_keeps {P : State → Prop} {l : DataLine}
    (frame : ∀ t : State, t.frameDue = true → P t → P (beginFrame l t))
    (more : ∀ (t : State) (k d : Nat), P t →
      P (setBus { t.bus with cycle := (t.bus.cycle + k) % 30 } { countBy .framesSent k t with draws := d }))
    {s : State} (h : P s) : P (framesRun l s) := by
  unfold framesRun
  dsimp only
  split
  · rename_i due
    cases first : s.frameDue with
    | false =>
      rw [takeDue_of_rest first, first] at due
      cases due
    | true =>
      have := more (beginFrame l s) (Config.emptyFrames s.draws) (s.draws + 1) (frame s first h)
      simpa [emptyFrames] using this
  · exact takeDue_keeps frame _ h

/-- What the frames keep, every command that ends with `settleAt` keeps after its own effect. -/
theorem settleAt_keeps {P : State → Prop} {l : DataLine}
    (frame : ∀ t : State, t.frameDue = true → P t → P (beginFrame l t))
    (more : ∀ (t : State) (k d : Nat), P t →
      P (setBus { t.bus with cycle := (t.bus.cycle + k) % 30 } { countBy .framesSent k t with draws := d }))
    {s : State} (h : P s) : P (settleAt l s) := by
  unfold settleAt
  split
  · exact framesRun_keeps frame more h
  · exact h

/-- The same for every other command, whatever the free line level is. -/
theorem settle_keeps {P : State → Prop}
    (frame : ∀ (l : DataLine) (t : State), t.frameDue = true → P t → P (beginFrame l t))
    (more : ∀ (t : State) (k d : Nat), P t →
      P (setBus { t.bus with cycle := (t.bus.cycle + k) % 30 } { countBy .framesSent k t with draws := d }))
    (draw : ∀ (t : State) (d : Nat), P t → P { t with draws := d })
    {s : State} (h : P s) : P (settle s) := by
  unfold settle
  split
  · exact framesRun_keeps (frame _) more (draw s _ h)
  · exact h

end Sys2Proof.Machine
end

