-- ==== Sys2Proof/Laws/Hear.lean ====
section
/-! SUPPORT. Laws/Hear.lean: the hearing of a frame touches the data output's record and, on the terminal
port, the silence timer alone. So an owner's operations read the same before and after it, and do the same
to either state: `op (hear p n s) = hear p n (op s)`. -/

namespace Sys2Proof.Machine

variable (p : Port) (n : Nat) (s : State)

/-! ## What an owner reads -/

@[simp] theorem hear_sales_reasons : (hear p n s).sales.reasons = s.sales.reasons := by cases p <;> rfl

@[simp] theorem hear_sales_ports : (hear p n s).sales.ports = s.sales.ports := by cases p <;> rfl

@[simp] theorem hear_sales_blocks : (hear p n s).sales.blocks = s.sales.blocks := by cases p <;> rfl

@[simp] theorem hear_sales_horizon : (hear p n s).sales.horizon = s.sales.horizon := by cases p <;> rfl

@[simp] theorem hear_sales_lowMark : (hear p n s).sales.lowMark = s.sales.lowMark := by cases p <;> rfl

@[simp] theorem hear_remaining : (hear p n s).sales.remaining = s.sales.remaining := by cases p <;> rfl

@[simp] theorem hear_isOpen : (hear p n s).sales.isOpen = s.sales.isOpen := by cases p <;> rfl

theorem hear_port (q : Port) : (hear p n s).ports.get q =
    { s.ports.get q with
      dataOut := if q = p then List.replicate n filler else (s.ports.get q).dataOut } := by
  cases p <;> cases q <;> rfl

@[simp] theorem hear_port_rights (q : Port) :
    ((hear p n s).ports.get q).rights = (s.ports.get q).rights := by rw [hear_port]

@[simp] theorem hear_port_slot (q : Port) :
    ((hear p n s).ports.get q).slot = (s.ports.get q).slot := by rw [hear_port]

@[simp] theorem hear_port_notices (q : Port) :
    ((hear p n s).ports.get q).notices = (s.ports.get q).notices := by rw [hear_port]

@[simp] theorem hear_port_overrun (q : Port) :
    ((hear p n s).ports.get q).overrun = (s.ports.get q).overrun := by rw [hear_port]

@[simp] theorem hear_port_condition (q : Port) :
    ((hear p n s).ports.get q).condition = (s.ports.get q).condition := by rw [hear_port]

@[simp] theorem hear_linkReady : (hear p n s).linkReady = s.linkReady := by cases p <;> rfl

@[simp] theorem hear_takePermitted : (hear p n s).takePermitted = s.takePermitted := by cases p <;> rfl

@[simp] theorem hear_computeFare (r : FareRequest) : (hear p n s).computeFare r = s.computeFare r := by
  cases p <;> rfl

@[simp] theorem hear_quoteChecks (b : Body QuoteBody) : (hear p n s).quoteChecks b = s.quoteChecks b := by
  cases p <;> rfl

@[simp] theorem hear_heldChecks (q : Quote) : (hear p n s).heldChecks q = s.heldChecks q := by
  cases p <;> rfl

@[simp] theorem hear_requoteChecks (q : Quote) : (hear p n s).requoteChecks q = s.requoteChecks q := by
  cases p <;> rfl

@[simp] theorem hear_stockChecks (f : StockAddBody) : (hear p n s).stockChecks f = s.stockChecks f := by
  cases p <;> rfl

@[simp] theorem hear_ticket (k : Nat) (r : FareRequest) (x : Fare) :
    (hear p n s).ticket k r x = s.ticket k r x := by cases p <;> rfl

@[simp] theorem hear_newQuote (q : Port) (r : FareRequest) (x : Fare) :
    (hear p n s).newQuote q r x = s.newQuote q r x := by cases p <;> rfl

@[simp] theorem hear_newEntry (k : EntryKind) : newEntry k (hear p n s) = newEntry k s := by
  cases p <;> rfl

@[simp] theorem hear_panel (i : Fin 8) : (hear p n s).panel i = s.panel i := by cases p <;> rfl

@[simp] theorem hear_intervalInForce : (hear p n s).intervalInForce = s.intervalInForce := by
  cases p <;> rfl

@[simp] theorem hear_backToBack : (hear p n s).backToBack = s.backToBack := by cases p <;> rfl

@[simp] theorem hear_sleepAfterInForce : (hear p n s).sleepAfterInForce = s.sleepAfterInForce := by
  cases p <;> rfl

@[simp] theorem hear_displaySummary : (hear p n s).displaySummary = s.displaySummary := by
  cases p <;> rfl

@[simp] theorem hear_counter (c : Counter) : (hear p n s).counter c = s.counter c := by cases p <;> rfl

/-! ## What an owner does -/


@[simp] theorem hear_setStore (x : Store) :
    setStore x (hear p n s) = hear p n (setStore x s) := by
  cases p <;> rfl

@[simp] theorem hear_setClock (x : Clock) :
    setClock x (hear p n s) = hear p n (setClock x s) := by
  cases p <;> rfl

@[simp] theorem hear_setStaging (x : Option Staging) :
    setStaging x (hear p n s) = hear p n (setStaging x s) := by
  cases p <;> rfl

@[simp] theorem hear_setDetector (x : Detector) :
    setDetector x (hear p n s) = hear p n (setDetector x s) := by
  cases p <;> rfl

@[simp] theorem hear_setSupply (x : Supply) :
    setSupply x (hear p n s) = hear p n (setSupply x s) := by
  cases p <;> rfl

@[simp] theorem hear_setBus (x : DisplayBus) :
    setBus x (hear p n s) = hear p n (setBus x s) := by
  cases p <;> rfl

@[simp] theorem hear_setSales (q : Port) (x : PortSales) :
    setSales q x (hear p n s) = hear p n (setSales q x s) := by
  cases p <;> rfl

@[simp] theorem hear_setPanel (i : Fin 8) (x : Panel) :
    setPanel i x (hear p n s) = hear p n (setPanel i x s) := by
  cases p <;> rfl

@[simp] theorem hear_setRange (i : Nat) (e : Option RangeEntry) :
    setRange i e (hear p n s) = hear p n (setRange i e s) := by
  cases p <;> rfl

@[simp] theorem hear_countBy (c : Counter) (k : Nat) :
    countBy c k (hear p n s) = hear p n (countBy c k s) := by
  cases p <;> rfl

@[simp] theorem hear_count (c : Counter) :
    count c (hear p n s) = hear p n (count c s) := by
  cases p <;> rfl

@[simp] theorem hear_withdraw (hit : CallRef → Bool) :
    withdraw hit (hear p n s) = hear p n (withdraw hit s) := by
  cases p <;> rfl

@[simp] theorem hear_withdrawCall (r : CallRef) :
    withdrawCall r (hear p n s) = hear p n (withdrawCall r s) := by
  cases p <;> rfl

@[simp] theorem hear_withdrawTable (t : TableName) :
    withdrawTable t (hear p n s) = hear p n (withdrawTable t s) := by
  cases p <;> rfl

@[simp] theorem hear_repoint :
    repoint (hear p n s) = hear p n (repoint s) := by
  cases p <;> rfl

@[simp] theorem hear_endLoad :
    endLoad (hear p n s) = hear p n (endLoad s) := by
  cases p <;> rfl

@[simp] theorem hear_overrunLoad :
    overrunLoad (hear p n s) = hear p n (overrunLoad s) := by
  simp [overrunLoad]

@[simp] theorem hear_endLoadAtLimit :
    endLoadAtLimit (hear p n s) = hear p n (endLoadAtLimit s) := by
  cases h : s.supply.load with
  | none => simp [h]
  | some l =>
    rw [endLoadAtLimit_of_some _ (by simpa using h), endLoadAtLimit_of_some _ h]
    split <;> simp

@[simp] theorem hear_schedulerSuccess :
    schedulerSuccess (hear p n s) = hear p n (schedulerSuccess s) := by
  cases p <;> rfl

@[simp] theorem hear_pushEntry (k : EntryKind) :
    pushEntry k (hear p n s) = hear p n (pushEntry k s) := by
  cases p <;> rfl

@[simp] theorem hear_resetSales (q : Port) :
    resetSales q (hear p n s) = hear p n (resetSales q s) := by
  cases p <;> rfl

@[simp] theorem hear_startIdle :
    startIdle (hear p n s) = hear p n (startIdle s) := by
  cases p <;> rfl

@[simp] theorem hear_zeroCounters (a b : Nat) :
    zeroCounters a b (hear p n s) = hear p n (zeroCounters a b s) := by
  cases p <;> simp only [zeroCounters, hear, setPort]

@[simp] theorem hear_postTo (k : Notice) (l : List Port) :
    postTo k l (hear p n s) = hear p n (postTo k l s) := by
  cases p <;> simp only [hear, setPort, postTo, PerPort.imap, PerPort.set, PerPort.get] <;> (repeat' split) <;> rfl

@[simp] theorem hear_post (k : Notice) :
    post k (hear p n s) = hear p n (post k s) := by
  exact hear_postTo p n s k _

@[simp] theorem hear_changeReasons (rs : List Reason) :
    changeReasons rs (hear p n s) = hear p n (changeReasons rs s) := by
  rcases changeReasons_eq rs s with ⟨e, h⟩ | ⟨e, h⟩
  · rw [h, changeReasons, if_pos (by simpa using e)]
  · rw [h, changeReasons, if_neg (by simpa using e), ← hear_post]
    cases p <;> rfl

@[simp] theorem hear_addReason (r : Reason) :
    addReason r (hear p n s) = hear p n (addReason r s) := by
  simp [addReason]

@[simp] theorem hear_removeReason (r : Reason) :
    removeReason r (hear p n s) = hear p n (removeReason r s) := by
  simp [removeReason]

@[simp] theorem hear_freeMessage (j : Journal) :
    freeMessage j (hear p n s) = hear p n (freeMessage j s) := by
  unfold freeMessage; simp only [hear_journal]; (repeat' split) <;> simp

@[simp] theorem hear_uploadDue (b : State) :
    uploadDue b (hear p n s) = hear p n (uploadDue b s) := by
  unfold uploadDue; simp only [hear_linkReady]; split <;> simp

@[simp] theorem hear_append (k : EntryKind) :
    append k (hear p n s) = hear p n (append k s) := by
  unfold append
  simp only [hear_journal, hear_pushEntry]
  split
  · simp
  · simp only [hear_freeMessage, hear_uploadDue]
    simp [uploadDue]

end Sys2Proof.Machine
end

