-- ==== Sys2Proof/Laws/Blocks.lean ====
section
/-! SUPPORT. Laws/Blocks.lean: spec lemmas of the operations the blocks share among themselves. Quotes
withdrawn and re-pointed, calls changed, frames begun. -/

namespace Sys2Proof.Machine

/-! ## Quotes withdrawn and re-pointed (R78, R79) -/

theorem PortSales.holds_of_withdrawn {hit : CallRef → Bool} {x : PortSales} {q : Quote}
    (h : (x.withdrawn hit).holds q) : x.holds q ∧ q.targets hit = false := by
  have mark : ∀ m : QuoteMark, m.withdrawn hit = .expired q →
      m = .expired q ∧ q.targets hit = false := by
    intro m e
    cases m with
    | none => exact absurd e (by simp [QuoteMark.withdrawn])
    | invalidated n => exact absurd e (by simp [QuoteMark.withdrawn])
    | expired r =>
      simp only [QuoteMark.withdrawn] at e
      split at e
      · cases e
      · rename_i n
        obtain rfl := QuoteMark.expired.inj e
        exact ⟨rfl, by simpa using n⟩
  unfold PortSales.withdrawn at h
  dsimp only at h
  split at h
  · rename_i r hr
    split at h
    · rcases h with h | h <;> cases h
    · rename_i n
      rcases h with h | h
      · obtain rfl : r = q := Option.some.inj (hr.symm.trans h)
        exact ⟨.inl hr, by simpa using n⟩
      · exact ⟨.inr (mark _ h).1, (mark _ h).2⟩
  · rcases h with h | h
    · exact absurd (‹x.slot = none›.symm.trans h) (by simp)
    · exact ⟨.inr (mark _ h).1, (mark _ h).2⟩

/-- A quote or expired record held after a withdrawal was held before it, and its target is not hit. -/
theorem holds_of_withdraw {hit : CallRef → Bool} {s : State} {p : Port} {q : Quote}
    (h : ((withdraw hit s).sales.ports.get p).holds q) :
    (s.sales.ports.get p).holds q ∧ q.targets hit = false := by
  rw [withdraw_sales, PerPort.get_imap] at h
  exact PortSales.holds_of_withdrawn h

theorem Quote.targets_eq {hit : CallRef → Bool} {q : Quote} {r : CallRef} (h : q.request.target = some r) :
    q.targets hit = hit r := by simp [Quote.targets, h]

theorem holds_of_withdrawCall {r : CallRef} {s : State} {p : Port} {q : Quote}
    (h : ((withdrawCall r s).sales.ports.get p).holds q) :
    (s.sales.ports.get p).holds q ∧ q.request.target ≠ some r := by
  obtain ⟨a, b⟩ := holds_of_withdraw h
  refine ⟨a, fun e => ?_⟩
  rw [Quote.targets_eq e] at b
  simp at b

theorem holds_of_withdrawTable {t : TableName} {s : State} {p : Port} {q : Quote} {r : CallRef}
    (h : ((withdrawTable t s).sales.ports.get p).holds q) (e : q.request.target = some r) :
    (s.sales.ports.get p).holds q ∧ r.table ≠ t := by
  obtain ⟨a, b⟩ := holds_of_withdraw h
  rw [Quote.targets_eq e] at b
  exact ⟨a, by simpa using b⟩

/-- A withdrawal changes the per-port records of the sales controller alone. -/
theorem withdraw_sales_eq (hit : CallRef → Bool) (s : State) :
    (withdraw hit s).sales = { s.sales with ports := (withdraw hit s).sales.ports } := rfl

/-- What re-pointing leaves held: each quote or record held before, its TOMORROW target now in TODAY. -/
theorem holds_of_repoint {s : State} {p : Port} {q : Quote}
    (h : ((repoint s).sales.ports.get p).holds q) :
    ∃ q', (s.sales.ports.get p).holds q' ∧ q = q'.repointed := by
  rw [repoint_sales, PerPort.get_imap] at h
  unfold PortSales.repointed at h
  rcases h with h | h
  · cases hs : (s.sales.ports.get p).slot with
    | none => simp [hs] at h
    | some q' =>
      simp only [hs, Option.map_some, Option.some.injEq] at h
      exact ⟨q', .inl hs, h.symm⟩
  · cases hm : (s.sales.ports.get p).mark with
    | none => simp [hm] at h
    | invalidated n => simp [hm] at h
    | expired q' =>
      simp only [hm, QuoteMark.expired.injEq] at h
      exact ⟨q', .inr hm, h.symm⟩

@[simp] theorem Quote.repointed_number (q : Quote) : q.repointed.number = q.number := by
  unfold Quote.repointed
  split
  · rfl
  · split <;> rfl

theorem Quote.repointed_target (q : Quote) :
    q.repointed.request.target = q.request.target.map (fun r => ⟨.today, r.service⟩) := by
  unfold Quote.repointed
  split
  · rename_i h; simp [h]
  · rename_i r h
    obtain ⟨t, n⟩ := r
    cases t <;> simp [h]

/-! ## Calls of the store changed (R23, R43) -/

theorem findCall_service {l : List Call} {n : Nat} {c : Call} (h : findCall l n = some c) :
    c.service = n := by simpa using List.find?_some h

theorem findCall_mem {l : List Call} {n : Nat} {c : Call} (h : findCall l n = some c) : c ∈ l :=
  List.mem_of_find?_eq_some h

/-- Changing the calls of a list with one service id, keeping it, is seen at that service id alone. -/
theorem findCall_change {f : Call → Call} {n : Nat} (keep : ∀ c, (f c).service = c.service) (l : List Call)
    (m : Nat) :
    findCall (l.map (fun c => if c.service = n then f c else c)) m =
      if m = n then (findCall l m).map f else findCall l m := by
  unfold findCall
  rw [List.find?_map]
  have e : ((fun c => decide (c.service = m)) ∘ fun c => if c.service = n then f c else c) =
      fun c => decide (c.service = m) := by
    funext c
    simp only [Function.comp]
    split <;> simp [keep]
  rw [e]
  cases h : List.find? (fun c => decide (c.service = m)) l with
  | none => simp
  | some c =>
    have hc : c.service = m := by simpa using List.find?_some h
    by_cases g : m = n
    · simp [g, hc]
    · simp [g, hc]

theorem callsOf_map (f : Call → Call) (t : Option DayTable) :
    callsOf (t.map (DayTable.onCalls f)) = (callsOf t).map f := by cases t <;> rfl

/-- A change of one call is seen through that call's reference alone. -/
theorem Store.call_onCall {f : Call → Call} (keep : ∀ c, (f c).service = c.service) (st : Store)
    (r q : CallRef) :
    (st.onCall r f).call q = if q = r then (st.call q).map f else st.call q := by
  obtain ⟨t, n⟩ := r
  obtain ⟨u, m⟩ := q
  have h := fun l => findCall_change (n := n) keep l m
  cases t <;> cases u <;>
    simp [Store.onCall, Store.onCalls, Store.call, Store.table, callsOf_map, h]

@[simp] theorem Store.onCall_staging (r : CallRef) (f : Call → Call) (st : Store) :
    (st.onCall r f).staging = st.staging := by cases r with | mk t n => cases t <;> rfl

@[simp] theorem Store.onCall_storeDay (r : CallRef) (f : Call → Call) (st : Store) :
    (st.onCall r f).storeDay = st.storeDay := by cases r with | mk t n => cases t <;> rfl

@[simp] theorem Store.onCall_neededMark (r : CallRef) (f : Call → Call) (st : Store) :
    (st.onCall r f).neededMark = st.neededMark := by cases r with | mk t n => cases t <;> rfl

/-- A change of one call leaves the rest of the store as it was. -/
theorem storeKeptButCalls_onCall {f : Call → Call} (keep : ∀ c, (f c).service = c.service) {s u : State}
    {r : CallRef} (h : u.store = s.store.onCall r f) : storeKeptButCalls s u := by
  obtain ⟨t, n⟩ := r
  have ids : ∀ l : List Call,
      (l.map (fun c => if c.service = n then f c else c)).map Call.service = l.map Call.service := by
    intro l
    rw [List.map_map]
    refine List.map_congr_left fun c _ => ?_
    simp only [Function.comp]
    split <;> simp [keep]
  refine ⟨by simp [h], by simp [h], by simp [h], fun name => ?_⟩
  cases t <;> cases name <;>
    refine ⟨fun e => ?_, fun t e => ?_⟩ <;>
    simp only [h, Store.onCall, Store.onCalls, Store.table] at e ⊢ <;>
    simp only [e, Option.map_none, Option.map_some, DayTable.onCalls] <;>
    exact ⟨_, rfl, by first | rfl | exact ids t.calls⟩

/-! ## What a withdrawal does (R78) -/

theorem Quote.targets_iff {hit : CallRef → Bool} {q : Quote} :
    q.targets hit = true ↔ ∃ r, q.request.target = some r ∧ hit r = true := by
  unfold Quote.targets
  cases q.request.target with
  | none => simp
  | some r => simp

theorem QuoteMark.withdrawn_of_keeps {hit : CallRef → Bool} {m : QuoteMark}
    (h : ∀ q, m = .expired q → q.targets hit = false) : m.withdrawn hit = m := by
  cases m with
  | none => rfl
  | invalidated n => rfl
  | expired q => simp [QuoteMark.withdrawn, h q rfl]

theorem withdraw_get (hit : CallRef → Bool) (s : State) (p : Port) :
    (withdraw hit s).sales.ports.get p = (s.sales.ports.get p).withdrawn hit := by
  cases p <;> rfl

/-- A withdrawal withdraws exactly the quotes and expired records whose target it hits. -/
theorem quotesWithdrawn_withdraw (hit : CallRef → Bool) (s : State) :
    quotesWithdrawn (fun r => hit r = true) s (withdraw hit s) := by
  intro p
  rw [withdraw_get]
  generalize s.sales.ports.get p = x
  refine ⟨fun q hq gone => ?_, fun stays => ⟨?_, fun q hq gone => ?_, fun keeps => ?_⟩⟩
  · simp [PortSales.withdrawn, hq, Quote.targets_iff.mpr gone]
  all_goals
    have kept : x.withdrawn hit = { x with mark := x.mark.withdrawn hit } := by
      unfold PortSales.withdrawn
      cases hq : x.slot with
      | none => rfl
      | some q =>
        have : q.targets hit = false := by
          simpa using fun t => stays q hq (Quote.targets_iff.mp t)
        simp [this]
    rw [kept]
  · simp [hq, QuoteMark.withdrawn, Quote.targets_iff.mpr gone]
  · refine QuoteMark.withdrawn_of_keeps fun q hq => ?_
    simpa using fun t => keeps q hq (Quote.targets_iff.mp t)

/-- Two withdrawals, one after the other, withdraw what either hits. -/
theorem quotesWithdrawn_trans {a b : CallRef → Prop} {s t u : State} (h : quotesWithdrawn a s t)
    (g : quotesWithdrawn b t u) : quotesWithdrawn (fun r => a r ∨ b r) s u := by
  intro p
  obtain ⟨h1, h2⟩ := h p
  obtain ⟨g1, g2⟩ := g p
  dsimp only at h1 h2 g1 g2 ⊢
  generalize s.sales.ports.get p = x at *
  generalize t.sales.ports.get p = y at *
  generalize u.sales.ports.get p = z at *
  have cut : ∀ {q : Quote}, (∃ r, q.request.target = some r ∧ (a r ∨ b r)) →
      (∃ r, q.request.target = some r ∧ a r) ∨ ∃ r, q.request.target = some r ∧ b r := by
    rintro q ⟨r, e, m | m⟩
    · exact .inl ⟨r, e, m⟩
    · exact .inr ⟨r, e, m⟩
  by_cases first : ∃ q, x.slot = some q ∧ ∃ r, q.request.target = some r ∧ a r
  · obtain ⟨q, hq, gone⟩ := first
    have hy := h1 q hq gone
    have hz : z = y := by
      obtain ⟨e, -, f⟩ := g2 (by intro q' e; simp [hy] at e)
      rw [e, f (by intro q' e; simp [hy] at e)]
    refine ⟨fun q' hq' _ => ?_, fun stays => ?_⟩
    · obtain rfl : q = q' := by simpa [hq] using hq'
      rw [hz, hy]
    · obtain ⟨r, e, m⟩ := gone
      exact absurd ⟨r, e, .inl m⟩ (stays q hq)
  · obtain ⟨hy, hm, hk⟩ := h2 (fun q hq gone => first ⟨q, hq, gone⟩)
    have slot : y.slot = x.slot := by rw [hy]
    refine ⟨fun q hq gone => ?_, fun stays => ?_⟩
    · rcases cut gone with m | m
      · exact absurd ⟨q, hq, m⟩ first
      · rw [g1 q (slot.trans hq) m, hy]
    · obtain ⟨gz, gm, gk⟩ := g2 (fun q hq ⟨r, e, m⟩ => stays q (slot ▸ hq) ⟨r, e, .inr m⟩)
      refine ⟨by rw [gz, hy], fun q hq gone => ?_, fun keeps => ?_⟩
      · by_cases m : ∃ r, q.request.target = some r ∧ a r
        · have := hm q hq m
          rw [gk (by intro q' e; rw [this] at e; cases e), this]
        · have same : y.mark = x.mark := hk (fun q' hq' => by
            obtain rfl : q = q' := by rw [hq] at hq'; exact QuoteMark.expired.inj hq'
            exact m)
          rcases cut gone with n | n
          · exact absurd n m
          · exact gm q (same.trans hq) n
      · have same : y.mark = x.mark := hk (fun q hq ⟨r, e, m⟩ => keeps q hq ⟨r, e, .inl m⟩)
        rw [gk (fun q hq ⟨r, e, m⟩ => keeps q (same ▸ hq) ⟨r, e, .inr m⟩), same]

/-- With the same ports nothing is withdrawn. -/
theorem quotesWithdrawn_of_same {a : CallRef → Prop} {s t u : State} (h : quotesWithdrawn a s t)
    (e : u.sales.ports = t.sales.ports) : quotesWithdrawn a s u := by
  intro p
  have := h p
  rw [← e] at this
  exact this

/-! ## How a frame goes on (R154 to R157) -/

theorem postsOnly_refl {s u : State} (h : u.ports = s.ports) {posted : Port → Notice → Prop}
    (none : ∀ p k, ¬ posted p k) : postsOnly posted s u :=
  ⟨fun p k => by simp [State.hasNotice, h, none], portsKeptButNotices_of_eq h⟩

theorem State.passesOver_iff {s : State} {t : Transaction} : s.passesOver t ↔ s.isWithdrawn t = true := by
  unfold State.passesOver State.isWithdrawn
  cases t.kind <;> simp

/-- A list's head of transactions passed over, counted. -/
theorem State.withdrawnAhead_eq {s : State} : ∀ {l : List Transaction} {k : Nat},
    (∀ j, j < k → ∃ t, l[j]? = some t ∧ s.passesOver t) →
    (l.length = k ∨ ∃ t, l[k]? = some t ∧ ¬ s.passesOver t) → s.withdrawnAhead l = k
  | [], k, _, stop => by
    rcases stop with e | ⟨t, e, _⟩
    · simpa [State.withdrawnAhead] using e
    · simp at e
  | t :: ts, 0, _, stop => by
    rcases stop with e | ⟨t', e, keeps⟩
    · simp at e
    · obtain rfl : t = t' := by simpa using e
      rw [State.passesOver_iff] at keeps
      simp [State.withdrawnAhead, keeps]
  | t :: ts, k + 1, passed, stop => by
    obtain ⟨t', e, w⟩ := passed 0 (by omega)
    obtain rfl : t = t' := by simpa using e
    rw [State.passesOver_iff] at w
    have ih : s.withdrawnAhead ts = k := withdrawnAhead_eq
      (fun j hj => by simpa using passed (j + 1) (by omega)) (by simpa using stop)
    simp only [State.withdrawnAhead, w, ih]
    simp [Nat.add_comm]

/-- What a frame's completion does (R155). -/
theorem frameCompletes_completeFrame (s : State) : frameCompletes s (completeFrame s) := by
  have counted : (completeFrame s).counters = (count .framesSent s).counters := by
    unfold completeFrame
    dsimp only
    split
    · rfl
    · split <;> rfl
  refine ⟨fun h => ?_, fun n h => ⟨fun many => ?_, fun last => ?_⟩,
    by rw [counter_of_counters counted]; simp [count, State.counterPlus],
    fun c hc => by
      rw [counter_of_counters counted, counter_count]
      exact if_neg (by simpa using hc), ⟨fun p k => ?_, ?_⟩, ?_⟩
  · have e : completeFrame s = enterIdle (count .framesSent s) := by simp only [completeFrame, count_bus, h]
    rw [e]
    rfl
  · simp only [completeFrame, count_bus, h, if_neg (show ¬ n ≤ 1 by omega)]
    rfl
  · simp [completeFrame, h, stopDisplay, setBus, last]
  · unfold completeFrame
    dsimp only [count_bus]
    cases h : s.bus.remaining with
    | none => simp [enterIdle, setBus, State.hasNotice]
    | some n =>
      by_cases e : n ≤ 1
      · simp only [e, if_true, hasNotice_post]
        simp [stopDisplay, setBus, State.hasNotice, Notice.recipients, e]
      · simp [e, enterIdle, setBus, State.hasNotice]
  · unfold completeFrame
    dsimp only [count_bus]
    split
    · exact portsKeptButNotices_of_eq rfl
    · split
      · exact (portsKeptButNotices_of_eq rfl).trans (portsKeptButNotices_post _ _)
      · exact portsKeptButNotices_of_eq rfl
  · refine ⟨by simp, fun b hb => ?_⟩
    cases b <;> simp [Block.same] at hb ⊢

/-- What the start of the transaction at the position does (R154, R157). -/
theorem lineTested_start (line : DataLine) (s : State) :
    lineTested line s (match line with
      | .released => setBus { s.bus with state := .running } s
      | .low => stuckData (setBus { s.bus with state := .running } s)) := by
  refine ⟨?_, ?_, ?_⟩ <;> rintro rfl
  · rfl
  · intro on fresh
    have e : stuckData (setBus { s.bus with state := .running } s) = count .busRecoveries
        (setBus { s.bus with state := .recovering .auto, tried := true } s) := by
      simp [stuckData, setBus, on, fresh]
    simp only [e]
    refine ⟨rfl, by simp [count, State.counterPlus, setBus, State.counter], fun c hc => ?_, rfl, fun b hb => ?_⟩
    · rw [counter_count, if_neg (by simpa using hc)]
      rfl
    · cases b <;> simp [Block.same, setBus] at hb ⊢
  · intro off
    have e : stuckData (setBus { s.bus with state := .running } s) =
        enterFault .stuckData (setBus { s.bus with state := .running } s) := by
      unfold stuckData
      exact if_neg (by rcases off with h | h <;> simp [setBus, h])
    simp only [e]
    refine ⟨rfl, ⟨fun p k => ?_, ?_⟩, rfl, fun b hb => ?_⟩
    · simp only [enterFault, hasNotice_post]
      cases p <;> simp [setBus, State.hasNotice, Notice.recipients]
    · exact (portsKeptButNotices_of_eq rfl).trans (portsKeptButNotices_post _ _)
    · cases b <;> simp [Block.same] at hb ⊢

/-- What going on from a position of a frame's list does (R154, R155, R157). -/
theorem frameGoesOn_startNext (line : DataLine) (s : State) (position : Nat) :
    frameGoesOn line s (startNext line (setBus { s.bus with position := position } s)) position := by
  intro k passed
  have ahead : s.bus.list.length = position + k ∨
      (∃ next, s.bus.list[position + k]? = some next ∧ ¬ s.passesOver next) →
      (setBus { s.bus with position := position } s).withdrawnAhead (s.bus.list.drop position) = k :=
    fun stop => State.withdrawnAhead_eq
      (fun j hj => by
        obtain ⟨t, e, w⟩ := passed j hj
        exact ⟨t, by simpa using e, w⟩)
      (stop.imp (fun e => by simp; omega) (fun ⟨t, e, w⟩ => ⟨t, by simpa using e, w⟩))
  refine ⟨fun e => ?_, fun next e keeps => ?_⟩
  · have := ahead (.inl e)
    have c : startNext line (setBus { s.bus with position := position } s) =
        completeFrame (setBus { s.bus with position := position } s) := by
      unfold startNext
      simp only [setBus_bus, this]
      exact if_pos (by omega)
    rw [c]
    obtain ⟨endless, counted, sent, others, posted, kept, same⟩ :=
      frameCompletes_completeFrame (setBus { s.bus with position := position } s)
    refine ⟨endless, counted, sent, others, posted, kept, fun b hb => ?_⟩
    have := same b hb
    cases b <;> first | exact this | simp at hb
  · have := ahead (.inr ⟨next, e, keeps⟩)
    have inside : position + k < s.bus.list.length := (List.getElem?_eq_some_iff.mp e).1
    have c := lineTested_start line { s with bus := { s.bus with position := position + k } }
    unfold startNext
    simp only [setBus_bus, this]
    rw [if_neg (by omega)]
    exact c

end Sys2Proof.Machine
end

