-- ==== Sys2Proof/Laws/PerInstr.lean ====
section
/-! SUPPORT. Laws/PerInstr.lean: a statement about every command, one lemma per constructor. A command that
can arrive as a request frame fits one: its body has at most 254 bytes (R188). -/

namespace Sys2Proof.Laws.FitsFrame

/-- A well-formed command's request frame, if it has one, has a body of at most 254 bytes (R188). -/
def Statement (i : Instr) : Prop :=
  i.wf = true → ∀ fr, encodeFrame i = some fr → fr.body.length ≤ maxBody

/-- A body of its row, whose fields take at most 254 bytes, takes at most 254 bytes. -/
theorem body_le {α : Type} {read : List Byte → Option α} {write : α → List Byte} {b : Body α}
    (short : ∀ f, (write f).length ≤ maxBody) (h : b.wf read = true) :
    (b.bytes write).length ≤ maxBody := by
  cases b with
  | fields f => exact short f
  | raw bytes =>
    simp only [Body.wf, Bool.and_eq_true, decide_eq_true_eq] at h
    exact h.2

theorem flatMap_length {α : Type} {write : α → List Byte} {n : Nat} (same : ∀ x, (write x).length = n)
    (l : List α) : (l.flatMap write).length = n * l.length := by
  induction l with
  | nil => rfl
  | cons x xs ih => simp [same, ih, Nat.mul_succ, Nat.add_comm]

/-- The statement of a command whose frame is known, from its body's length. -/
theorem of_frame {i : Instr} {fr : PortFrame} (e : encodeFrame i = some fr)
    (le : i.wf = true → fr.body.length ≤ maxBody) : Statement i := fun h f he => by
  obtain rfl : fr = f := Option.some.inj (e.symm.trans he)
  exact le h

/-- The statement of a command that is no request frame. -/
theorem of_none {i : Instr} (e : encodeFrame i = none) : Statement i := fun _ _ he =>
  absurd (e.symm.trans he) (by simp)


theorem timeSet (p : Port) (b : Body TimeSetBody) : Statement (.timeSet p b) := of_frame rfl fun h =>
  body_le (write := writeTimeSet) (fun _ => Nat.le_of_ble_eq_true rfl) h

theorem ttBegin (p : Port) (b : Body TtBeginBody) : Statement (.ttBegin p b) := of_frame rfl fun h =>
  body_le (write := writeTtBegin) (fun _ => Nat.le_of_ble_eq_true rfl) h

theorem ttCalls (p : Port) (b : Body TtCallsBody) : Statement (.ttCalls p b) := of_frame rfl fun h => by
  cases b with
  | fields f =>
    simp only [Instr.wf, ttCallsWf, decide_eq_true_eq] at h
    have e := flatMap_length (write := writeRecord) (n := 6) (fun _ => rfl) f.records
    simp only [Body.bytes, writeTtCalls, List.length_cons, e, maxBody]
    omega
  | raw bytes =>
    simp only [Instr.wf, ttCallsWf, Bool.and_eq_true, decide_eq_true_eq] at h
    exact h.2

theorem ttEnd (p : Port) (b : Body NoFields) : Statement (.ttEnd p b) := of_frame rfl fun h =>
  body_le (write := writeNoFields) (fun _ => Nat.le_of_ble_eq_true rfl) h

theorem svcUpdateDelay (p : Port) (b : Body SvcDelayBody) : Statement (.svcUpdateDelay p b) := of_frame rfl fun h => by
  cases b with
  | fields f => exact Nat.le_of_ble_eq_true rfl
  | raw bytes =>
    simp only [Instr.wf, svcRawWf, Bool.and_eq_true, decide_eq_true_eq] at h
    exact h.1

theorem svcUpdateClearDelay (p : Port) (f : SvcCallBody) : Statement (.svcUpdateClearDelay p f) :=
  of_frame rfl fun _ => Nat.le_of_ble_eq_true rfl

theorem svcUpdateCancel (p : Port) (f : SvcCallBody) : Statement (.svcUpdateCancel p f) :=
  of_frame rfl fun _ => Nat.le_of_ble_eq_true rfl

theorem svcUpdateReinstate (p : Port) (f : SvcCallBody) : Statement (.svcUpdateReinstate p f) :=
  of_frame rfl fun _ => Nat.le_of_ble_eq_true rfl

theorem quote (p : Port) (b : Body QuoteBody) : Statement (.quote p b) := of_frame rfl fun h =>
  body_le (write := writeQuote) (fun _ => Nat.le_of_ble_eq_true rfl) h

theorem issue (p : Port) (b : Body IssueBody) : Statement (.issue p b) := of_frame rfl fun h =>
  body_le (write := writeIssue) (fun _ => Nat.le_of_ble_eq_true rfl) h

theorem void (p : Port) (b : Body VoidBody) : Statement (.void p b) := of_frame rfl fun h =>
  body_le (write := writeVoid) (fun _ => Nat.le_of_ble_eq_true rfl) h

theorem loadBegin (p : Port) (b : Body NoFields) : Statement (.loadBegin p b) := of_frame rfl fun h =>
  body_le (write := writeNoFields) (fun _ => Nat.le_of_ble_eq_true rfl) h

theorem loadEnd (p : Port) (b : Body NoFields) : Statement (.loadEnd p b) := of_frame rfl fun h =>
  body_le (write := writeNoFields) (fun _ => Nat.le_of_ble_eq_true rfl) h

theorem fareRangeWrite (p : Port) (b : Body FareRangeBody) : Statement (.fareRangeWrite p b) := of_frame rfl fun h =>
  body_le (write := writeFareRange) (fun _ => Nat.le_of_ble_eq_true rfl) h

theorem farePriceWrite (p : Port) (b : Body FarePriceBody) : Statement (.farePriceWrite p b) := of_frame rfl fun h => by
  cases b with
  | fields f =>
    simp only [Instr.wf, farePriceWf, decide_eq_true_eq] at h
    have e := flatMap_length (write := bytes24) (n := 3) (fun _ => rfl) f.prices
    simp only [Body.bytes, writeFarePrice, List.length_cons, e, maxBody]
    omega
  | raw bytes =>
    simp only [Instr.wf, farePriceWf, Bool.and_eq_true, decide_eq_true_eq] at h
    exact h.2

theorem fareParamWrite (p : Port) (b : Body FareParamBody) : Statement (.fareParamWrite p b) := of_frame rfl fun h =>
  body_le (write := writeFareParam) (fun _ => Nat.le_of_ble_eq_true rfl) h

theorem fareConcessionWrite (p : Port) (b : Body FareConcessionBody) : Statement (.fareConcessionWrite p b) := of_frame rfl fun h =>
  body_le (write := writeFareConcession) (fun _ => Nat.le_of_ble_eq_true rfl) h

theorem farePeakWrite (p : Port) (b : Body FarePeakBody) : Statement (.farePeakWrite p b) := of_frame rfl fun h =>
  body_le (write := writeFarePeak) (fun _ => Nat.le_of_ble_eq_true rfl) h

theorem rvlWrite (p : Port) (b : Body RvlWriteBody) : Statement (.rvlWrite p b) := of_frame rfl fun h =>
  body_le (write := writeRvlWrite) (fun _ => Nat.le_of_ble_eq_true rfl) h

theorem rvlClearAll (p : Port) (b : Body NoFields) : Statement (.rvlClearAll p b) := of_frame rfl fun h =>
  body_le (write := writeNoFields) (fun _ => Nat.le_of_ble_eq_true rfl) h

theorem stockAdd (p : Port) (b : Body StockAddBody) : Statement (.stockAdd p b) := of_frame rfl fun h =>
  body_le (write := writeStockAdd) (fun _ => Nat.le_of_ble_eq_true rfl) h

theorem batchTake (p : Port) (b : Body BatchTakeBody) : Statement (.batchTake p b) := of_frame rfl fun h =>
  body_le (write := writeBatchTake) (fun _ => Nat.le_of_ble_eq_true rfl) h

theorem batchAck (p : Port) (b : Body BatchIdBody) : Statement (.batchAck p b) := of_frame rfl fun h =>
  body_le (write := writeBatchId) (fun _ => Nat.le_of_ble_eq_true rfl) h

theorem batchFail (p : Port) (b : Body BatchIdBody) : Statement (.batchFail p b) := of_frame rfl fun h =>
  body_le (write := writeBatchId) (fun _ => Nat.le_of_ble_eq_true rfl) h

theorem linkResume (p : Port) (b : Body NoFields) : Statement (.linkResume p b) := of_frame rfl fun h =>
  body_le (write := writeNoFields) (fun _ => Nat.le_of_ble_eq_true rfl) h

theorem panelConfig (p : Port) (b : Body PanelConfigBody) : Statement (.panelConfig p b) := of_frame rfl fun h => by
  cases b with
  | fields f => exact Nat.le_of_ble_eq_true rfl
  | raw bytes =>
    simp only [Instr.wf, panelConfigWf, decide_eq_true_eq] at h
    exact h.2

theorem panelConfigGroup (p : Port) (f : PanelGroupBody) : Statement (.panelConfigGroup p f) :=
  of_frame rfl fun _ => Nat.le_of_ble_eq_true rfl

theorem displayStart (p : Port) (line : DataLine) : Statement (.displayStart p line) :=
  of_frame rfl fun _ => Nat.le_of_ble_eq_true rfl

theorem displayStop (p : Port) : Statement (.displayStop p) :=
  of_frame rfl fun _ => Nat.le_of_ble_eq_true rfl

theorem displayRecover (p : Port) (line : ClockLine) : Statement (.displayRecover p line) :=
  of_frame rfl fun _ => Nat.le_of_ble_eq_true rfl

theorem displayPacing (p : Port) (f : DisplayPacingBody) (line : DataLine) : Statement (.displayPacing p f line) :=
  of_frame rfl fun _ => Nat.le_of_ble_eq_true rfl

theorem displayFrameCount (p : Port) (f : FrameCountBody) : Statement (.displayFrameCount p f) :=
  of_frame rfl fun _ => Nat.le_of_ble_eq_true rfl

theorem displayAutoRecovery (p : Port) (b : Body AutoRecoveryBody) : Statement (.displayAutoRecovery p b) := of_frame rfl fun h => by
  cases b with
  | fields f => exact Nat.le_of_ble_eq_true rfl
  | raw bytes =>
    simp only [Instr.wf, displayRawWf, Bool.and_eq_true, decide_eq_true_eq] at h
    exact h.1

theorem supplyLevels (p : Port) (b : Body SupplyLevelsBody) : Statement (.supplyLevels p b) := of_frame rfl fun h =>
  body_le (write := writeSupplyLevels) (fun _ => Nat.le_of_ble_eq_true rfl) h

theorem treadleMode (p : Port) (b : Body TreadleModeBody) : Statement (.treadleMode p b) := of_frame rfl fun h =>
  body_le (write := writeTreadleMode) (fun _ => Nat.le_of_ble_eq_true rfl) h

theorem salesSuspend (p : Port) (b : Body NoFields) : Statement (.salesSuspend p b) := of_frame rfl fun h =>
  body_le (write := writeNoFields) (fun _ => Nat.le_of_ble_eq_true rfl) h

theorem salesResume (p : Port) (b : Body NoFields) : Statement (.salesResume p b) := of_frame rfl fun h =>
  body_le (write := writeNoFields) (fun _ => Nat.le_of_ble_eq_true rfl) h

theorem setRights (p : Port) (b : Body SetRightsBody) : Statement (.setRights p b) := of_frame rfl fun h =>
  body_le (write := writeSetRights) (fun _ => Nat.le_of_ble_eq_true rfl) h

theorem portReset (p : Port) (b : Body PortResetBody) : Statement (.portReset p b) := of_frame rfl fun h =>
  body_le (write := writePortReset) (fun _ => Nat.le_of_ble_eq_true rfl) h

theorem status (p : Port) (b : Body StatusBody) : Statement (.status p b) := of_frame rfl fun h =>
  body_le (write := writeStatus) (fun _ => Nat.le_of_ble_eq_true rfl) h

theorem listCalls (p : Port) (b : Body TableRunBody) : Statement (.listCalls p b) := of_frame rfl fun h =>
  body_le (write := writeTableRun) (fun _ => Nat.le_of_ble_eq_true rfl) h

theorem fareRead (p : Port) (b : Body TableRunBody) : Statement (.fareRead p b) := of_frame rfl fun h =>
  body_le (write := writeTableRun) (fun _ => Nat.le_of_ble_eq_true rfl) h

theorem rvlRead (p : Port) (b : Body RunBody) : Statement (.rvlRead p b) := of_frame rfl fun h =>
  body_le (write := writeRun) (fun _ => Nat.le_of_ble_eq_true rfl) h

theorem readCounters (p : Port) (b : Body ReadCountersBody) : Statement (.readCounters p b) := of_frame rfl fun h =>
  body_le (write := writeReadCounters) (fun _ => Nat.le_of_ble_eq_true rfl) h

theorem readNotices (p : Port) (b : Body ReadNoticesBody) : Statement (.readNotices p b) := of_frame rfl fun h =>
  body_le (write := writeReadNotices) (fun _ => Nat.le_of_ble_eq_true rfl) h

theorem unknownRequest (p : Port) (code : Byte) (body : List Byte) : Statement (.unknownRequest p code body) := of_frame rfl fun h => by
  simp only [Instr.wf, Bool.and_eq_true, decide_eq_true_eq] at h
  exact h.2

theorem frameCut (p : Port) (received : List Byte) : Statement (.frameCut p received) :=
  of_none rfl

theorem replyRead (p : Port) (clocked : Nat) : Statement (.replyRead p clocked) :=
  of_none rfl

theorem portResetLineActive (p : Port) : Statement (.portResetLineActive p) :=
  of_none rfl

theorem portResetLineInactive (p : Port) : Statement (.portResetLineInactive p) :=
  of_none rfl

theorem portResetLineFirstAcceptance (p : Port) (active : Bool) : Statement (.portResetLineFirstAcceptance p active) :=
  of_none rfl

theorem clockSecond : Statement .clockSecond :=
  of_none rfl

theorem stagingIdleTimeout : Statement .stagingIdleTimeout :=
  of_none rfl

theorem passageClose : Statement .passageClose :=
  of_none rfl

theorem quoteExpiry (p : Port) : Statement (.quoteExpiry p) :=
  of_none rfl

theorem voidWindowExpiry (p : Port) : Statement (.voidWindowExpiry p) :=
  of_none rfl

theorem terminalSilenceExpiry : Statement .terminalSilenceExpiry :=
  of_none rfl

theorem batchTimeout : Statement .batchTimeout :=
  of_none rfl

theorem waitExpiry : Statement .waitExpiry :=
  of_none rfl

theorem presenceIdleExpiry : Statement .presenceIdleExpiry :=
  of_none rfl

theorem frameTimerExpiry (line : DataLine) : Statement (.frameTimerExpiry line) :=
  of_none rfl

theorem probeTimerExpiry (panel : Fin 8) : Statement (.probeTimerExpiry panel) :=
  of_none rfl

theorem sample (millivolts : Nat) (line : DataLine) : Statement (.sample millivolts line) :=
  of_none rfl

theorem loadPeriodTimeout : Statement .loadPeriodTimeout :=
  of_none rfl

theorem treadleRisingEdge (t : TreadleId) : Statement (.treadleRisingEdge t) :=
  of_none rfl

theorem treadleFallingEdge (t : TreadleId) : Statement (.treadleFallingEdge t) :=
  of_none rfl

theorem treadleFirstAcceptance (t : TreadleId) (pressed : Bool) : Statement (.treadleFirstAcceptance t pressed) :=
  of_none rfl

theorem presenceEdge (occupied : Bool) : Statement (.presenceEdge occupied) :=
  of_none rfl

theorem presenceFirstAcceptance (occupied : Bool) : Statement (.presenceFirstAcceptance occupied) :=
  of_none rfl

theorem triggerEdge (high : Bool) (line : DataLine) : Statement (.triggerEdge high line) :=
  of_none rfl

theorem triggerFirstAcceptance (high : Bool) : Statement (.triggerFirstAcceptance high) :=
  of_none rfl

theorem transactionEnd (e : TransactionEnd) (line : DataLine) : Statement (.transactionEnd e line) :=
  of_none rfl

theorem busDisturbed (line : DataLine) : Statement (.busDisturbed line) :=
  of_none rfl

theorem stuckClock : Statement .stuckClock :=
  of_none rfl

theorem recoveryEndAuto (r : RecoveryResult) (line : DataLine) : Statement (.recoveryEndAuto r line) :=
  of_none rfl

theorem recoveryEndManual (r : RecoveryResult) (line : DataLine) : Statement (.recoveryEndManual r line) :=
  of_none rfl

theorem coldStart : Statement .coldStart :=
  of_none rfl

theorem warmStart (line : DataLine) : Statement (.warmStart line) :=
  of_none rfl

theorem coreSupplyDip : Statement .coreSupplyDip :=
  of_none rfl

end Sys2Proof.Laws.FitsFrame
end

