-- ==== Sys2Proof/Tests/Slice0.lean ====
section
/-! SUPPORT. Slice0.lean: the model's own tests. A refused ill-formed command for each check of
WellFormed, request frames written out from chapter 11, the worked figures of spec/ on small states, and for
each obligation with hypotheses a state and operands that meet them. -/

namespace Sys2Proof.Tests

open Sys2Proof Sys2Proof.Machine

/-! ## WellFormed refuses each ill-formed shape -/

theorem test_wf_raw_body_that_reads : (Instr.issue .terminal (.raw [5])).wf = false := by decide

theorem test_wf_raw_body_too_long :
    (Instr.issue .terminal (.raw (List.replicate 255 0))).wf = false := by decide +kernel

theorem test_wf_tt_calls_no_record : (Instr.ttCalls .link (.fields ⟨0, []⟩)).wf = false := by decide

theorem test_wf_tt_calls_13_records :
    (Instr.ttCalls .link (.fields ⟨0, List.replicate 13 ⟨1, 0, 0, 0⟩⟩)).wf = false := by decide

theorem test_wf_fare_prices_none :
    (Instr.farePriceWrite .link (.fields ⟨1, []⟩)).wf = false := by decide

theorem test_wf_fare_prices_16 :
    (Instr.farePriceWrite .link (.fields ⟨1, List.replicate 16 0⟩)).wf = false := by decide

theorem test_wf_svc_update_raw_of_known_kind :
    (Instr.svcUpdateDelay .link (.raw [0, 1, 0, 3, 0, 0, 0])).wf = false := by decide

theorem test_wf_display_raw_of_known_form :
    (Instr.displayAutoRecovery .service (.raw [5, 2, 0, 0])).wf = false := by decide

theorem test_wf_panel_form_address_0 :
    (Instr.panelConfig .service (.fields ⟨0, 1, 0, 1, 7⟩)).wf = false := by decide

theorem test_wf_panel_raw_of_right_length :
    (Instr.panelConfig .service (.raw [1, 1, 0, 1, 7])).wf = false := by decide

theorem test_wf_unknown_request_with_defined_code :
    (Instr.unknownRequest .link 0x55 []).wf = false := by decide

theorem test_wf_cut_frame_empty : (Instr.frameCut .link []).wf = false := by decide

theorem test_wf_cut_frame_that_is_a_read : (Instr.frameCut .link [0, 1]).wf = false := by decide

theorem test_wf_cut_frame_that_is_complete : (Instr.frameCut .link [1, 0x33]).wf = false := by decide

theorem test_wf_accepts :
    (Instr.issue .terminal (.raw [5, 5])).wf = true ∧ (Instr.unknownRequest .link 0x06 []).wf = true ∧
      (Instr.frameCut .link [2, 0x33]).wf = true := by decide

/-! ## Frames written out from chapter 11 decode to their commands -/

/-- A frame on a port, both display lines released. -/
def frame (p : Port) (bytes : List Byte) : Option Instr := decodeTransfer p bytes .released .released

/-- TIME_SET 0x01: day 812 = 0x032C, WEEKDAY 0, second 56,400 = 0x00DC50, least significant byte first. -/
theorem test_decode_time_set :
    frame .link [7, 0x01, 0x2C, 0x03, 0, 0x50, 0xDC, 0x00] =
      some (.timeSet .link (.fields ⟨812, 0, 56400⟩)) := by decide

/-- TT_CALLS 0x03: first 0, one record: 2043 = 0x07FB, DOWN 1, 915 = 0x0393, destination text 9. -/
theorem test_decode_tt_calls :
    frame .link [9, 0x03, 0, 1, 0xFB, 0x07, 1, 0x93, 0x03, 9] =
      some (.ttCalls .link (.fields ⟨0, [⟨2043, 1, 915, 9⟩]⟩)) := by decide

/-- SVC_UPDATE 0x05 of kind DELAY 0: TODAY, 2051 = 0x0803, D 9, R 4. -/
theorem test_decode_svc_delay :
    frame .link [8, 0x05, 0, 0x03, 0x08, 0, 9, 0, 4] =
      some (.svcUpdateDelay .link (.fields ⟨0, 2051, 9, 4⟩)) := by decide

/-- SVC_UPDATE of kind CANCEL 2 ignores D and R; of kind 4 it fits no row. -/
theorem test_decode_svc_cancel :
    frame .link [8, 0x05, 1, 0x03, 0x08, 2, 9, 9, 9] = some (.svcUpdateCancel .link ⟨1, 2051⟩) ∧
      frame .link [8, 0x05, 1, 0x03, 0x08, 4, 0, 0, 0] =
        some (.svcUpdateDelay .link (.raw [1, 0x03, 0x08, 4, 0, 0, 0])) := by decide

/-- QUOTE 0x10: code 1043 = 0x0413, RETURN 1, 2 adults, 2 children, class 2, card present,
0x00A1B2C3D4, target present, TODAY 0, 2047 = 0x07FF. -/
theorem test_decode_quote :
    frame .terminal
        [17, 0x10, 0x13, 0x04, 1, 2, 2, 2, 1, 0xD4, 0xC3, 0xB2, 0xA1, 0x00, 1, 0, 0xFF, 0x07] =
      some (.quote .terminal (.fields ⟨1043, 1, 2, 2, 2, 1, 0x00A1B2C3D4, 1, 0, 2047⟩)) := by decide

/-- FARE_PRICE_WRITE 0x21: first distance 3, two prices: 470 = 0x0001D6 and 60,000 = 0x00EA60. -/
theorem test_decode_fare_prices :
    frame .link [9, 0x21, 3, 2, 0xD6, 0x01, 0x00, 0x60, 0xEA, 0x00] =
      some (.farePriceWrite .link (.fields ⟨3, [470, 60000]⟩)) := by decide

/-- STOCK_ADD 0x27: first 1,000,050 = 0x000F4272, last 1,200,000 = 0x00124F80. -/
theorem test_decode_stock_add :
    frame .link [9, 0x27, 0x72, 0x42, 0x0F, 0x00, 0x80, 0x4F, 0x12, 0x00] =
      some (.stockAdd .link (.fields ⟨1000050, 1200000⟩)) := by decide

/-- BATCH_ACK 0x31: batch id 311 = 0x0137. -/
theorem test_decode_batch_ack :
    frame .link [3, 0x31, 0x37, 0x01] = some (.batchAck .link (.fields ⟨311⟩)) := by decide

/-- PANEL_CONFIG 0x40: the panel form by its address, the group form by address 0. -/
theorem test_decode_panel_config :
    frame .service [6, 0x40, 8, 1, 2, 4, 7] = some (.panelConfig .service (.fields ⟨8, 1, 2, 4, 7⟩)) ∧
      frame .service [6, 0x40, 0, 10, 1, 2, 3] = some (.panelConfigGroup .service ⟨10⟩) := by decide

/-- DISPLAY_CONTROL 0x41: PACING 3 with TRIGGER 1, FALLING 1, interval 5; START 0 ignores its parameters. -/
theorem test_decode_display_control :
    frame .service [5, 0x41, 3, 1, 1, 5] = some (.displayPacing .service ⟨1, 1, 5⟩ .released) ∧
      frame .service [5, 0x41, 0, 9, 9, 9] = some (.displayStart .service .released) := by decide

/-- READ_NOTICES 0x55 with SUPPLY_CHANGED (bit 2) and SALES_STATE (bit 3), on the terminal port. -/
theorem test_decode_read_notices :
    frame .terminal [3, 0x55, 0x0C, 0x00] = some (.readNotices .terminal (.fields ⟨0x000C⟩)) := by decide

/-- An undefined code, a cut frame, a reply read by its marker, and bytes past the length. -/
theorem test_decode_transfers :
    frame .link [2, 0x06, 7] = some (.unknownRequest .link 0x06 [7]) ∧
      frame .link [3, 0x31, 0x37] = some (.frameCut .link [3, 0x31, 0x37]) ∧
      frame .link [0, 0xFF, 0xFF] = some (.replyRead .link 2) ∧
      frame .link [1, 0x33, 0xAA] = some (.linkResume .link (.fields {})) := by decide

/-- No row of the table has bits, so no word spells a command. -/
theorem test_table_word_spells_none : decodeTableWord 8 0 = none := by decide

/-! ## Small states -/

/-- The state after a command that answers next. -/
def run (i : Instr) (s : State) : Option State :=
  match exec i s with
  | .next t => some t
  | .fault _ => none
  | .refused _ => none

/-- The result and the body of the reply a command leaves on a port. -/
def reply (p : Port) (i : Instr) (s : State) : Option (Result × List Byte) :=
  (run i s).bind (fun t => (t.ports.get p).slot.map (fun x => (x.reply.result, x.reply.body)))

/-- The result alone. -/
def result (p : Port) (i : Instr) (s : State) : Option Result := (reply p i s).map Prod.fst

/-- A port in RUN whose reset line has been accepted, with every right and no notice. -/
def openPort : PortControl :=
  { PortControl.initial RightsClass.all [] with condition := .run, lineSeen := true }

/-- The part after a cold start, its three ports open. -/
def station : State := { State.reset with ports := ⟨openPort, openPort, openPort⟩ }

/-- The tables of section 3.5. -/
def familyFares : FareTables :=
  { State.reset.fares with
    ranges := ((Vector.replicate 32 none).set 0 (some ⟨1040, 1055, 3⟩)).set 1 (some ⟨1056, 1103, 4⟩)
      |>.set 5 (some ⟨0, 4095, 15⟩)
    prices := #v[0, 0, 470, 610, 0, 0, 0, 0, 0, 0, 0, 0, 0, 0, 2900]
    concessions := #v[⟨0, .all⟩, ⟨0, .adults⟩, ⟨34, .adults⟩, ⟨50, .all⟩, ⟨0, .adults⟩, ⟨0, .adults⟩,
      ⟨0, .adults⟩, ⟨0, .adults⟩]
    peaks := #v[⟨330, 420⟩, ⟨840, 930⟩, ⟨0, 0⟩, ⟨0, 0⟩]
    loaded := true }

/-- A SCHEDULED call with no report. -/
def call (service : Nat) (d : Direction) (minute : Nat) : Call :=
  ⟨service, d, minute, 0, .scheduled, none, none, false⟩

/-- The TODAY of section 1.8. -/
def evening : List Call :=
  [{ call 2037 .up 851 with state := .departed, actual := some 51190, removed := true },
   { call 2043 .down 912 with report := some ⟨6, 2⟩ },
   { call 2045 .up 930 with state := .cancelled }, call 2047 .down 965]

/-- Day 812, WEEKDAY, at a second, TODAY version 3 with some calls, sales OPEN with one stock block. -/
def day812 (second : Nat) (calls : List Call) : State :=
  { station with
    clock := ⟨true, 812, .weekday, second⟩
    store := { station.store with storeDay := 812, today := some ⟨812, .weekday, 3, calls⟩ }
    fares := familyFares
    sales := { station.sales with
      reasons := [], blocks := [⟨1000100, 1100099, 1000100⟩], horizon := 1100099, lowMark := false } }

/-- Minute 940 of section 3.5. -/
def minute940 : State := day812 56400 evening

/-- A port's sales record replaced. -/
def withSales (p : Port) (x : PortSales) (s : State) : State := setSales p x s

/-- The request of section 3.5. -/
def family : FareRequest := ⟨1043, .ret, 2, 2, some ⟨2, 0x00A1B2C3D4⟩, some ⟨.today, 2047⟩⟩

/-- Its body. -/
def familyBody : QuoteBody := ⟨1043, 1, 2, 2, 2, 1, 0x00A1B2C3D4, 1, 0, 2047⟩

/-- The fare result of section 3.5. -/
def familyFare : Fare :=
  { distance := 3, price := 470, band := .offPeak, adult := 590, child := 300, concAdult := 390
    concChild := 200, holder := .adult, sum := 1580, cap := some 1770, total := 1580
    notApplied := false }

/-- Quote 17 of section 4.4. -/
def quote17 : Quote := ⟨17, family, familyFare, 56520, 120⟩

/-- Minute 940 with quote 17 HELD on the terminal port. -/
def quoted : State := withSales .terminal ⟨some quote17, .none, 18, none⟩ minute940

/-- A staging of 1.8, complete with 4 calls of version 4. -/
def staged : Staging :=
  { holder := .link, day := 812, kind := .weekday, version := 4, count := 4, next := 4, idle := 33
    calls := [⟨2037, .up, 851, 0⟩, ⟨2043, .down, 915, 0⟩, ⟨2047, .down, 965, 0⟩, ⟨2049, .up, 990, 0⟩] }

/-! ## The timetable and the clock: sections 1.8, 1.9, 2.3 -/

theorem test_time_set_first :
    (run (.timeSet .link (.fields ⟨812, 0, 56400⟩)) station).map
        (fun t => (t.clock, t.sales.reasons, t.store.storeDay)) =
      some (⟨true, 812, .weekday, 56400⟩, [.noFares, .stockEmpty], 812) := by decide

theorem test_time_set_not_monotonic :
    result .link (.timeSet .link (.fields ⟨811, 0, 0⟩)) minute940 = some .notMonotonic ∧
      result .link (.timeSet .link (.fields ⟨812, 0, 86400⟩)) minute940 = some .badRequest := by decide

theorem test_tt_begin_busy :
    result .service (.ttBegin .service (.fields ⟨812, 0, 4, 4⟩))
        { minute940 with store := { minute940.store with staging := some staged } } = some .busy ∧
      result .link (.ttBegin .link (.fields ⟨812, 0, 4, 96⟩)) minute940 = some .ok := by decide

theorem test_tt_calls_wrong_index :
    let s := setStaging (some { staged with next := 2, calls := staged.calls.take 2 }) minute940
    result .link (.ttCalls .link (.fields ⟨3, [⟨2049, 0, 990, 0⟩]⟩)) s = some .badSequence ∧
      (run (.ttCalls .link (.fields ⟨2, [⟨2047, 1, 965, 0⟩, ⟨2049, 0, 990, 0⟩]⟩)) s).bind
        (fun t => t.store.staging) = some { staged with idle := 60 } := by decide

/-- The reload of 1.8: live fields carried by service id, 2045 discarded, 2049 new. -/
theorem test_tt_end_carries_live_fields :
    (run (.ttEnd .link (.fields {})) (setStaging (some staged) (day812 54060 evening))).bind
        (fun t => t.store.today.map (fun x => (x.version, x.calls))) =
      some (4, [{ call 2037 .up 851 with state := .departed, actual := some 51190, removed := true },
        { call 2043 .down 915 with report := some ⟨6, 2⟩ }, call 2047 .down 965, call 2049 .up 990]) := by
  decide

theorem test_tt_end_stale_version :
    result .link (.ttEnd .link (.fields {})) (setStaging (some { staged with version := 3 }) minute940) =
      some .staleVersion := by decide

/-- 2.3: D 9, R 4 on 2051 at S 882 gives E 887; a D of 900 is taken as 720 (R204). -/
theorem test_svc_delay :
    ((run (.svcUpdateDelay .link (.fields ⟨0, 2051, 9, 4⟩)) (day812 52200 [call 2051 .down 882])).bind
        (fun t => t.store.call ⟨.today, 2051⟩)).map Call.expected = some 887 ∧
      ((run (.svcUpdateDelay .link (.fields ⟨0, 2047, 900, 61⟩)) minute940).bind
        (fun t => t.store.call ⟨.today, 2047⟩)).map Call.report = some (some ⟨720, 60⟩) := by decide

theorem test_svc_clear_delay :
    ((run (.svcUpdateClearDelay .link ⟨0, 2043⟩) minute940).bind
        (fun t => t.store.call ⟨.today, 2043⟩)).map Call.expected = some 912 ∧
      result .link (.svcUpdateClearDelay .link ⟨1, 2043⟩) minute940 = some .noSuch := by decide

/-- CANCEL invalidates the quote held on the call. -/
theorem test_svc_cancel :
    (run (.svcUpdateCancel .link ⟨0, 2047⟩) quoted).map
        (fun t => ((t.store.call ⟨.today, 2047⟩).map Call.state, t.sales.ports.terminal.mark)) =
      some (some .cancelled, .invalidated 17) ∧
    result .link (.svcUpdateCancel .link ⟨0, 2037⟩) quoted = some .notOnSale := by decide

theorem test_svc_reinstate :
    ((run (.svcUpdateReinstate .link ⟨0, 2045⟩) minute940).bind
        (fun t => t.store.call ⟨.today, 2045⟩)).map Call.state = some .scheduled := by decide

/-- 1.9: the tick of minute 1200 with TOMORROW EMPTY sets the mark and notices; 1201 does not. -/
theorem test_clock_second_evening_test :
    (run .clockSecond (day812 71999 [])).map
        (fun t => (t.store.neededMark, t.ports.link.notices, t.ports.terminal.notices)) =
      some (true, [.timetableNeeded], []) := by decide

/-- 1.9: the run-over moves TOMORROW to TODAY with its header kind. -/
theorem test_clock_second_run_over :
    (run .clockSecond
        { day812 86399 [] with
          store := { (day812 86399 []).store with
            tomorrow := some ⟨813, .saturday, 1, [call 2001 .up 400]⟩ } }).map
        (fun t => (t.clock, t.store.storeDay, t.store.tomorrow.isSome)) =
      some (⟨true, 813, .saturday, 0⟩, 813, false) := by decide

/-- 2.3: 2051 with E 887 lapses at the tick of 947 and not at 946. -/
theorem test_clock_second_lapse :
    let c : Call := { call 2051 .down 882 with report := some ⟨9, 4⟩ }
    ((run .clockSecond (day812 56819 [c])).bind (fun t => t.store.call ⟨.today, 2051⟩)).map
        (fun c => (c.state, c.removed)) = some (.lapsed, true) ∧
      ((run .clockSecond (day812 56759 [c])).bind (fun t => t.store.call ⟨.today, 2051⟩)).map
        (fun c => (c.state, c.removed)) = some (.scheduled, false) := by decide

/-- 2.3: on sale at minute 885, not at 886; overdue at 889, not at 888. -/
theorem test_on_sale_and_overdue :
    let c : Call := { call 2051 .down 882 with report := some ⟨9, 4⟩ }
    c.onSale 885 .today = true ∧ c.onSale 886 .today = false ∧ c.overdue 888 = false ∧
      c.overdue 889 = true := by decide

theorem test_staging_idle_timeout :
    (run .stagingIdleTimeout (setStaging (some { staged with idle := 0 }) minute940)).map
        (fun t => (t.store.staging.isSome, t.ports.link.notices, t.ports.service.notices)) =
      some (false, [.stagingDiscarded], []) := by decide

/-- R21: a TT_CALLS of the holder taken first restarts the timer, and the expiry queued behind it does not
happen. -/
theorem test_staging_restarted_before_timeout :
    ((run (.ttCalls .link (.fields ⟨9, [⟨2050, 0, 991, 0⟩]⟩))
        (setStaging (some { staged with idle := 0 }) minute940)).bind (run .stagingIdleTimeout)).map
        (fun t => t.store.staging.map Staging.idle) = some (some 60) := by decide

/-! ## Treadles and passages: section 2.7 -/

/-- A detector with both levels accepted and RELEASED, TB's run at 3. -/
def treadles : Detector :=
  { mode := .paired, ta := { Treadle.initial with seen := true }
    tb := { Treadle.initial with seen := true, run := 3 }, passage := none }

/-- The first wheel: TA pressed, then TB rises: a DOWN axle, both runs 0. -/
theorem test_treadle_axle_down :
    (run (.treadleRisingEdge .tb)
        { day812 55212 evening with detector := { treadles with
            ta := { treadles.ta with pressed := true, pulse := some false } } }).map
        (fun t => (t.detector.passage, t.detector.ta.run, t.detector.tb.run)) =
      some (some ⟨0, 1, 55212, 55212, 812, 8⟩, 0, 0) := by decide

/-- The stray pulse after the train: counted, TB's run 1, the passage left alone. -/
theorem test_treadle_unpaired :
    (run (.treadleFallingEdge .tb)
        { station with detector := { treadles with
            tb := { Treadle.initial with seen := true, pressed := true, pulse := some false }
            passage := some ⟨0, 8, 55212, 55216, 812, 5⟩ } }).map
        (fun t => (t.detector.tb.run, t.counter .treadleUnpaired, t.detector.passage)) =
      some (1, 1, some ⟨0, 8, 55212, 55216, 812, 5⟩) := by decide

theorem test_treadle_fault_at_20 :
    (run (.treadleFallingEdge .ta)
        { station with detector := { treadles with
            ta := { treadles.ta with pressed := true, pulse := some false, run := 19 } } }).map
        (fun t => (t.detector.ta.fault, t.ports.link.notices)) = some (true, [.treadleFault]) := by decide

theorem test_treadle_first_acceptance :
    (run (.treadleFirstAcceptance .ta true) station).map (fun t => t.detector.ta) =
      some { Treadle.initial with seen := true, pressed := true } := by decide

theorem test_treadle_mode :
    result .link (.treadleMode .link (.fields ⟨1⟩)) station = some .notPermitted ∧
      (run (.treadleMode .service (.fields ⟨1⟩)) { station with detector := treadles }).map
        (fun t => (t.detector.mode, t.detector.tb.run)) = some (.separate, 0) := by decide

/-- 2.7: 8 axles DOWN, last at 55,216, match 2043 (E 919), which departs; its quote is withdrawn. -/
theorem test_passage_close_matches :
    (run .passageClose
        { day812 55224 [{ call 2043 .down 915 with report := some ⟨6, 2⟩ }, call 2047 .down 965] with
          detector := { treadles with passage := some ⟨0, 8, 55212, 55216, 812, 0⟩ } }).map
        (fun t => ((t.store.call ⟨.today, 2043⟩).map (fun c => (c.state, c.actual)),
          t.counter .passagesMatched, t.detector.passage)) =
      some (some (.departed, some 55216), 1, none) := by decide

/-- R45 and 2.6: the last axle 8 s before the end of minute 946, at second 56819. A closing taken before the tick of
947 marks 2051 (E 887) DEPARTED; one taken after it finds 2051 LAPSED and is unmatched. -/
theorem test_closing_and_lapse_in_either_order :
    let s : State :=
      { day812 56819 [{ call 2051 .down 882 with report := some ⟨9, 4⟩ }] with
        detector := { treadles with passage := some ⟨0, 8, 56805, 56812, 812, 1⟩ } }
    let seen := fun (t : State) => ((t.store.call ⟨.today, 2051⟩).map Call.state,
      t.counter .passagesMatched, t.counter .passagesUnmatched, t.counter .callsLapsed)
    ((run .passageClose s).bind (run .clockSecond)).map seen = some (some .departed, 1, 0, 0) ∧
      ((run .clockSecond s).bind (run .passageClose)).map seen = some (some .lapsed, 0, 1, 1) := by
  decide +kernel

theorem test_passage_close_minor :
    (run .passageClose { station with
        detector := { treadles with passage := some ⟨0, 3, 10, 12, 0, 0⟩ } }).map
        (fun t => (t.counter .passagesMinor, t.journal.entries.length)) = some (1, 1) := by decide

/-! ## Fares: sections 3.5 to 3.7 -/

theorem test_fare_family_return : minute940.computeFare family = .fare familyFare := by decide +kernel

/-- 3.5: inside window 1 with target 2043 at S 915, 2,250. -/
theorem test_fare_family_peak :
    (day812 56400 [call 2043 .down 915]).computeFare { family with target := some ⟨.today, 2043⟩ } =
      .fare
        { familyFare with
          band := .peak, adult := 850, child := 420, concAdult := 560, concChild := 280, sum := 2250
          cap := some 2550, total := 2250 } := by decide +kernel

/-- 3.6: holders and caps. -/
theorem test_fare_holders_and_caps :
    let off := fun r => (familyFares.price r 3 470 .offPeak).total
    let peak := fun r => (familyFares.price r 3 470 .peak).total
    off ⟨1043, .ret, 0, 2, some ⟨2, 1⟩, none⟩ = 600 ∧
      (familyFares.price ⟨1043, .ret, 0, 2, some ⟨2, 1⟩, none⟩ 3 470 .offPeak).notApplied = true ∧
      off ⟨1043, .ret, 0, 1, some ⟨3, 1⟩, none⟩ = 150 ∧ peak ⟨1043, .single, 5, 0, none, none⟩ = 1410 ∧
      peak ⟨1043, .single, 3, 0, some ⟨2, 1⟩, none⟩ = 1250 := by decide

/-- 3.6: the half case at steps 5, 10 and 1. -/
theorem test_rounding_half :
    roundTo 5 5925000 10000 = 595 ∧ roundTo 10 5925000 10000 = 590 ∧ roundTo 1 5925000 10000 = 593 := by
  decide

/-- 3.7: the range writes. -/
theorem test_fare_range_writes :
    let entry := fun (i : Nat) (f : FareRangeBody) =>
      (run (.fareRangeWrite .link (.fields f)) station).bind (fun t => t.fares.ranges.toList[i]?)
    entry 0 ⟨0, 1, 1042, 1053, 3⟩ = some (some ⟨1040, 1055, 3⟩) ∧
      entry 1 ⟨1, 1, 1056, 1100, 20⟩ = some (some ⟨1056, 1103, 15⟩) ∧
      entry 2 ⟨2, 1, 1102, 1101, 4⟩ = some (some ⟨1100, 1103, 4⟩) := by decide

theorem test_fare_range_refusals :
    result .link (.fareRangeWrite .link (.fields ⟨2, 1, 1100, 1095, 4⟩)) station = some .badRange ∧
      result .link (.fareRangeWrite .link (.fields ⟨3, 1, 2000, 2003, 0⟩)) station =
        some .badRequest := by decide

/-- 3.7: a price of 60,000 is stored as 50,000, and NO_FARES leaves the set. -/
theorem test_fare_price_write :
    (run (.farePriceWrite .link (.fields ⟨3, [60000]⟩)) station).map
        (fun t => (t.fares.prices.toList[2]?, t.fares.loaded, t.sales.reasons)) =
      some (some 50000, true, [.noTime, .stockEmpty]) := by decide

theorem test_fare_params :
    reply .link (.fareParamWrite .link (.fields ⟨90, 101, 101, 7, 11⟩)) station =
      some (.ok, [100, 100, 100, 10, 10]) := by decide

theorem test_fare_concession :
    reply .link (.fareConcessionWrite .link (.fields ⟨7, 91, 1⟩)) station = some (.ok, [7, 90, 1]) ∧
      result .link (.fareConcessionWrite .link (.fields ⟨0, 10, 1⟩)) station = some .badRequest := by
  decide

theorem test_fare_peak :
    (run (.farePeakWrite .link (.fields ⟨3, 1439, 1440⟩)) station).bind
        (fun t => t.fares.peaks.toList[3]?) = some ⟨1439, 1440⟩ ∧
      result .link (.farePeakWrite .link (.fields ⟨0, 1440, 0⟩)) station = some .badRequest := by decide

/-- R205: all 32 ranges fit, at 226 bytes. -/
theorem test_fare_read_ranges :
    (reply .link (.fareRead .link (.fields ⟨0, 0, 32⟩)) station).map (fun r => r.2.length) = some 226 := by
  decide +kernel

/-! ## Sales: sections 4.4 and 4.6 -/

/-- 4.4: quote 17, total 1,580, expiry second 56,520, 48 bytes. -/
theorem test_quote :
    (run (.quote .terminal (.fields familyBody))
        (withSales .terminal ⟨none, .none, 17, none⟩ minute940)).map (fun t => t.sales.ports.terminal) =
      some ⟨some quote17, .none, 18, none⟩ := by decide +kernel

theorem test_quote_refusals :
    reply .terminal (.quote .terminal (.fields familyBody)) station = some (.salesClosed, [7]) ∧
      result .terminal (.quote .terminal (.fields { familyBody with destination := 4096 })) minute940 =
        some .badRequest := by decide +kernel

theorem test_issue_held :
    (run (.issue .terminal (.fields ⟨17⟩)) quoted).map
        (fun t => (t.sales.ports.terminal, t.sales.blocks, t.counter .issuedReturn,
          t.counter .revenueOffPeak)) =
      some (⟨none, .none, 18, some ⟨1000100, 300⟩⟩, [⟨1000100, 1100099, 1000101⟩], 1, 1580) := by
  decide +kernel

/-- 4.4: the ISSUE of an expired quote at an equal total gives OK with REQUOTED. -/
theorem test_issue_requoted :
    (run (.issue .terminal (.fields ⟨17⟩))
        (withSales .terminal ⟨none, .expired quote17, 18, none⟩ (day812 56580 evening))).bind
        (fun t => t.ports.terminal.slot.map
          (fun x => (x.reply.result, x.reply.flags.requoted, x.reply.body.length))) =
      some (.ok, true, 20) := by decide +kernel

theorem test_void :
    (run (.void .terminal (.fields ⟨1000100⟩))
        (withSales .terminal ⟨none, .none, 18, some ⟨1000100, 1⟩⟩ minute940)).map
        (fun t => (t.sales.ports.terminal.lastSale, t.counter .voided, t.journal.entries.length)) =
      some (none, 1, 2) ∧
    result .terminal (.void .terminal (.fields ⟨1000101⟩))
        (withSales .terminal ⟨none, .none, 18, some ⟨1000100, 1⟩⟩ minute940) = some .notVoidable := by
  decide +kernel

/-- 4.6: the first block of the stock figure. -/
theorem test_stock_add :
    (run (.stockAdd .link (.fields ⟨1000050, 1200000⟩)) station).map
        (fun t => (t.sales.blocks, t.sales.horizon, t.sales.lowMark, t.sales.reasons)) =
      some ([⟨1000100, 1100099, 1000100⟩], 1100099, false, [.noTime, .noFares]) := by decide

theorem test_stock_add_refusals :
    result .link (.stockAdd .link (.fields ⟨1050000, 1060099⟩)) minute940 = some .overlap ∧
      result .link (.stockAdd .link (.fields ⟨2000000, 2000049⟩)) minute940 = some .badRange := by decide

/-- 4.7: an ignore count of 40 is clamped to 16. -/
theorem test_rvl_write :
    (run (.rvlWrite .link (.fields ⟨1, 1, 0x00A1B20017, 40⟩)) station).bind
        (fun t => t.revoked.toList[1]?) = some (some ⟨0x00A1B20017, 16⟩) := by decide

/-- 4.7: entry 0 matches its 256 cards and no other. -/
theorem test_rvl_match :
    let e : RvlEntry := ⟨0x00A1B2C3D4, 8⟩
    e.hits 0x00A1B2C300 = true ∧ e.hits 0x00A1B2C3FF = true ∧ e.hits 0x00A1B2C400 = false := by decide

theorem test_rvl_clear_all :
    (run (.rvlClearAll .link (.fields {}))
        { station with revoked := Vector.replicate 64 (some ⟨7, 0⟩) }).bind
        (fun t => t.revoked.toList[63]?) = some none := by decide

/-- R205: a read of 64 entries returns 31, in 250 bytes. -/
theorem test_rvl_read :
    (reply .link (.rvlRead .link (.fields ⟨0, 64⟩)) station).map
        (fun r => (r.1, r.2.length, r.2.take 2)) = some (.ok, 250, [0, 31]) := by decide +kernel

theorem test_sales_suspend :
    (run (.salesSuspend .service (.fields {})) minute940).map
        (fun t => (t.sales.reasons, t.ports.terminal.notices)) = some ([.suspended], [.salesState]) ∧
      result .link (.salesSuspend .link (.fields {})) minute940 = some .notPermitted := by decide

theorem test_sales_resume :
    reply .service (.salesResume .service (.fields {}))
        { station with sales := { station.sales with reasons := [.noTime, .suspended] } } =
      some (.ok, [1]) := by decide

theorem test_quote_expiry :
    (run (.quoteExpiry .terminal)
        (withSales .terminal ⟨some { quote17 with timer := 0 }, .none, 18, none⟩ minute940)).map
        (fun t => t.sales.ports.terminal) =
      some ⟨none, .expired { quote17 with timer := 0 }, 18, none⟩ ∧
    (run (.quoteExpiry .terminal) quoted).map (fun t => t.sales.ports.terminal.slot) =
      some (some quote17) := by decide

theorem test_void_window_expiry :
    (run (.voidWindowExpiry .link) (withSales .link ⟨none, .none, 1, some ⟨9, 0⟩⟩ station)).map
        (fun t => t.sales.ports.link.lastSale) = some none := by decide

theorem test_terminal_silence_expiry :
    (run .terminalSilenceExpiry
        { station with sales := { station.sales with silence := some 0 } }).map
        (fun t => (t.sales.silent, t.sales.silence)) = some (true, none) := by decide

/-! ## The journal and the scheduler: chapter 5 -/

/-- A SUPPLY entry under a sequence number. -/
def entry (n : Nat) (st : EntryState) : Entry := ⟨n, 812, 56400, .supply .economy, st⟩

/-- 5.3: UNSENT entries from 5,121 on, next batch id 311. -/
def upload (n : Nat) : State :=
  { station with journal :=
      { entries := (List.range n).map (fun i => entry (5121 + i) .unsent), nextSequence := 5121 + n
        nextBatch := 311, batch := none } }

/-- Batch 311 in flight: the two oldest of three entries. -/
def uploading (p : Port) : State :=
  { station with journal :=
      { entries := [entry 5121 .inFlight, entry 5122 .inFlight, entry 5123 .unsent]
        nextSequence := 5124, nextBatch := 312, batch := some ⟨311, p, 5121, 2, 64800, 300⟩ } }

/-- The batch in flight with its timeout timer at 0. -/
def overdue (p : Port) : State :=
  { uploading p with journal := { (uploading p).journal with
      batch := some ⟨311, p, 5121, 2, 64800, 0⟩ } }

theorem test_batch_take :
    (run (.batchTake .link (.fields ⟨4⟩)) (upload 5)).map
        (fun t => (t.journal.batch, t.journal.nextBatch, t.journal.unsent.length)) =
      some (some ⟨311, .link, 5121, 4, 0, 300⟩, 312, 1) := by decide

/-- R205: twenty-two SUPPLY entries of 11 bytes take 249 bytes. -/
theorem test_batch_take_as_many_as_fit :
    (reply .link (.batchTake .link (.fields ⟨32⟩)) (upload 30)).map
        (fun r => (r.1, r.2.length, r.2.take 7)) =
      some (.ok, 249, [0x37, 0x01, 0x01, 0x14, 0, 0, 22]) := by decide +kernel

/-- 11.2: the entry sizes. -/
theorem test_entry_sizes :
    ([.sale 1 .link family .peak 9, .void 1 .link, .unmatchedPassage .up 4 0 9, .lapsedCall 1 2,
      .timetable 812 4, .supply .reserve, .start .warm] : List EntryKind).map
        (fun k => (Entry.bytes ⟨1, 812, 9, k, .unsent⟩).length) = [34, 15, 16, 14, 14, 11, 11] := by
  decide

theorem test_batch_ack :
    (run (.batchAck .link (.fields ⟨311⟩)) (uploading .link)).map
        (fun t => (t.journal.entries.map Entry.sequence, t.counter .batchesAcked, t.ports.link.notices)) =
      some ([5123], 1, [.uploadDue]) ∧
    result .service (.batchAck .service (.fields ⟨311⟩)) (uploading .link) = some .staleBatch := by decide

theorem test_batch_fail :
    (run (.batchFail .service (.fields ⟨311⟩)) (uploading .service)).map
        (fun t => (t.journal.unsent.length, t.counter .batchesFailed, t.scheduler.failures)) =
      some (3, 1, 0) := by decide

theorem test_batch_timeout :
    (run .batchTimeout (overdue .service)).map
        (fun t => (t.journal.unsent.length, t.ports.service.notices)) = some (3, [.batchTimedOut]) := by
  decide

/-- R113: a timeout that follows the batch's acknowledgement and a new take leaves the later batch. -/
theorem test_timeout_of_an_ended_batch :
    ((run (.batchAck .service (.fields ⟨311⟩)) (overdue .service)).bind fun t =>
        (run (.batchTake .service (.fields ⟨4⟩)) t).bind (run .batchTimeout)).map
        (fun t => (t.journal.batch.map Batch.id, t.counter .batchesFailed)) = some (some 312, 0) := by
  decide +kernel

/-- R118: the sixteenth failure holds the scheduler. -/
theorem test_sixteenth_failure :
    (run .batchTimeout
        { overdue .link with scheduler := ⟨.due, 15, none, none⟩ }).map (fun t => t.scheduler) =
      some ⟨.held, 16, none, none⟩ := by decide

theorem test_link_resume :
    reply .link (.linkResume .link (.fields {})) { upload 1 with scheduler := ⟨.held, 16, none, none⟩ } =
      some (.ok, [0, 0]) ∧
    result .service (.linkResume .service (.fields {})) (upload 1) = some .notPermitted := by decide

theorem test_wait_expiry :
    (run .waitExpiry { upload 1 with scheduler := ⟨.waiting, 1, some 0, some 65130⟩ }).map
        (fun t => (t.scheduler, t.ports.link.notices)) = some (⟨.due, 1, none, none⟩, [.uploadDue]) := by
  decide

/-! ## The display: sections 6.3 and 6.7, chapter 7 -/

/-- A panel in service. -/
def shown (rows brightness : Nat) (d : PanelDirections) : Panel :=
  ⟨true, d, rows, brightness, .awake, 0, .ok, .none⟩

/-- A part with two panels configured, in a controller state, and auto-recovery on. -/
def display (b : BusState) (list : List Transaction) : State :=
  { minute940 with
    compositor := { minute940.compositor with
      panels := ((Vector.replicate 8 Panel.initial).set 0 (shown 2 7 .both)).set 1 (shown 1 7 .down) }
    bus := { minute940.bus with
      state := b, list := list, runMark := true, frameTimer := some 5, triggerSeen := true } }

/-- 6.3: the call rows and the message row of panels 1 and 2 at minute 1000. -/
theorem test_rows_composed :
    let calls : List Call :=
      [{ call 2055 .up 985 with destination := 0 },
       { call 2053 .down 990 with state := .departed, actual := some 59950 },
       { call 2057 .down 1005 with report := some ⟨12, 2⟩ },
       { call 2059 .up 1010 with state := .cancelled }, call 2061 .down 1040]
    let s := { day812 60000 calls with sales := { (day812 60000 calls).sales with reasons := [.suspended] } }
    s.rowsFor (shown 4 6 .both) =
        [.call 2053 .down 0 990 .departed, .call 2055 .up 0 985 .delayed,
         .call 2059 .up 0 1010 .cancelled, .message .salesClosed] ∧
      s.rowsFor (shown 3 2 .down) =
        [.call 2053 .down 0 990 .departed, .call 2057 .down 0 1005 (.expected 1015),
         .message .salesClosed] := by decide

/-- 11.3: a WRITE_ROWS to a four-row panel is 43 bytes. -/
theorem test_write_rows_length :
    (transactionBytes ⟨0, .writeRows 7 [.blank, .call 1 .up 2 3 .onTime, .blank,
      .message .noTimetable]⟩).length = 43 := by decide

theorem test_panel_config :
    (run (.panelConfig .service (.fields ⟨8, 1, 2, 4, 9⟩)) station).map (fun t => t.panel 7) =
      some ⟨true, .both, 4, 7, .awake, 0, .ok, .wake⟩ ∧
    result .service (.panelConfig .service (.fields ⟨9, 1, 2, 4, 7⟩)) station = some .badRequest := by
  decide

theorem test_panel_config_group :
    reply .service (.panelConfigGroup .service ⟨61⟩) station = some (.ok, [60, 60]) ∧
      result .link (.panelConfigGroup .link ⟨5⟩) station = some .notPermitted := by decide

/-- 6.7: an edge restarts the idle timer at 600 s; its expiry with 40 minutes to the next call sleeps. -/
theorem test_presence_edge :
    (run (.presenceEdge true) { display .idle [] with
        compositor := { (display .idle []).compositor with presenceSeen := true, idle := none } }).map
        (fun t => (t.compositor.idle, t.compositor.occupied)) = some (some 600, true) := by decide

theorem test_presence_idle_expiry :
    let s := fun (minute : Nat) => ({ display .idle [] with
      compositor := { (display .idle []).compositor with idle := some 0 }
      store := (day812 56400 [call 2071 .down minute]).store } : State)
    (run .presenceIdleExpiry (s 980)).map (fun t => (t.compositor.group, (t.panel 0).pending)) =
        some (.asleep, .sleep) ∧
      (run .presenceIdleExpiry (s 955)).map (fun t => t.compositor.group) = some .awake := by decide

/-- R137: with the edge taken first the timer restarts, and the expiry queued behind it does not happen. -/
theorem test_presence_edge_before_expiry :
    let s : State := { display .idle [] with
      compositor := { (display .idle []).compositor with presenceSeen := true, idle := some 0 } }
    ((run (.presenceEdge true) s).bind (run .presenceIdleExpiry)).map
        (fun t => (t.compositor.idle, t.compositor.group)) = some (some 600, .awake) := by decide

theorem test_presence_first_acceptance :
    (run (.presenceFirstAcceptance true) station).map
        (fun t => (t.compositor.occupied, t.compositor.idle)) = some (true, some 600) := by decide

theorem test_display_start :
    (run (.displayStart .service .released) (display .stopped [])).map
        (fun t => (t.bus.state, t.bus.list.length, t.bus.frameTimer)) =
      some (.running, 2, some 5) := by decide

/-- A part with no panel, its controller in a state, the interval setting 0 and a frame count. -/
def backToBack (b : BusState) (count : Nat) (remaining : Option Nat) : State :=
  { station with
    bus := { station.bus with
      state := b, interval := 0, countSetting := count, remaining := remaining
      runMark := decide (b ≠ .stopped), startDue := decide (b = .idle) } }

/-- R149, R155, R156: the empty frames of a counted run follow one another at once and end it, and the reply
shows STOPPED with 0 frames remaining. -/
theorem test_counted_run_of_empty_frames :
    (run (.displayStart .service .released) (backToBack .stopped 3 none)).map
        (fun t => (t.bus.state, t.counter .framesSent)) = some (.stopped, 3) ∧
      (reply .service (.displayStart .service .released) (backToBack .stopped 3 none)).map
        (fun r => (r.1, r.2.head?)) = some (.ok, some 0) := by decide +kernel

/-- R149: with frames back to back, a panel configured begins a frame at once; without panels none stays. -/
theorem test_frame_after_empty_frames :
    (settleAt .released (setPanel 7 (shown 1 7 .both) (backToBack .idle 0 none))).bus.list.map
        Transaction.panel = [7] ∧
      (settleAt .low (setPanel 7 (shown 1 7 .both) (backToBack .idle 0 none))).bus.state =
        .recovering .auto ∧
      (settleAt .released (backToBack .idle 0 none)).bus.state = .idle := by decide +kernel

theorem test_display_stop :
    reply .service (.displayStop .service) (display .idle []) =
      some (.ok, [0, 0, 0, 0, 5, 5, 0, 0xFF, 0xFF, 1]) := by decide

theorem test_display_recover :
    result .service (.displayRecover .service .low) (display .fault []) = some .lineHeld ∧
      (run (.displayRecover .service .released) (display .fault [])).map
        (fun t => (t.bus.state, t.counter .busRecoveries)) = some (.recovering .manual, 1) := by decide

theorem test_display_pacing :
    (run (.displayPacing .service ⟨1, 1, 61⟩ .released) (display .idle [])).map
        (fun t => (t.bus.pacing, t.bus.interval, t.bus.frameTimer)) = some (.trigger, 60, none) := by
  decide

theorem test_display_frame_count :
    (run (.displayFrameCount .service ⟨255⟩) (display .idle [])).map (fun t => t.bus.remaining) =
      some (some 255) := by decide

theorem test_display_auto_recovery :
    (run (.displayAutoRecovery .service (.fields ⟨0⟩)) station).map (fun t => t.bus.autoRecovery) =
      some false ∧
    result .service (.displayAutoRecovery .service (.raw [6, 0, 0, 0])) station = some .badRequest := by
  decide

/-- The frame timer of a display at 0. -/
def frameDueNow (s : State) : State := { s with bus := { s.bus with frameTimer := some 0 } }

theorem test_frame_timer_expiry :
    (run (.frameTimerExpiry .released) (frameDueNow (display .idle []))).map
        (fun t => (t.bus.state, t.bus.list.map Transaction.panel, t.bus.frameTimer)) =
      some (.running, [0, 1], some 5) ∧
    (run (.frameTimerExpiry .released) (frameDueNow (display .running [⟨0, .wake⟩]))).map
        (fun t => t.counter .frameOverruns) = some 1 := by decide

/-- The status cycle: the thirtieth frame reads the status of each panel in service. -/
theorem test_thirtieth_frame :
    (run (.frameTimerExpiry .released) { display .idle [] with
        bus := { (display .idle []).bus with cycle := 29, frameTimer := some 0 } }).map
        (fun t => (t.bus.cycle, t.bus.list.map (fun x => decide (x.kind = .readStatus)))) =
      some (0, [false, true, false, true]) := by decide

/-- R153: an ABSENT panel is probed by a frame that begins 60 s after its timer's start, the expiry not yet
taken, and not by one that begins a second before. -/
theorem test_probe_after_60_seconds :
    let s := fun (n : Nat) => setPanel 0 { shown 2 7 .both with state := .absent, misses := 3 }
      { display .idle [] with bus := { (display .idle []).bus with
          probes := Vector.replicate 8 (some n) } }
    ((s 0).panelTransactions false 0, (s 1).panelTransactions false 0) = ([⟨0, .readStatus⟩], []) := by
  decide

theorem test_probe_timer_expiry :
    (run (.probeTimerExpiry 7) { station with
        bus := { station.bus with probes := Vector.replicate 8 (some 0) } }).map
        (fun t => (t.bus.probes[7], t.bus.probes[6])) = some (none, some 0) := by decide

theorem test_trigger_edge :
    (run (.triggerEdge true .released) { display .idle [] with
        bus := { (display .idle []).bus with pacing := .trigger, frameTimer := none } }).map
        (fun t => (t.bus.state, t.bus.firstEdge)) = some (.running, false) := by decide

theorem test_trigger_first_acceptance :
    (run (.triggerFirstAcceptance true) station).map (fun t => (t.bus.triggerHigh, t.bus.state)) =
      some (true, .stopped) := by decide

/-- R206: an inverted check byte decodes the status; 0xFF after 0xFF is OTHER. -/
theorem test_status_decoded :
    decodeStatus 0x00 0xFF = .ok ∧ decodeStatus 0x01 0xFE = .lampFault ∧
      decodeStatus 0xFF 0xFF = .other := by decide

theorem test_transaction_end_wake :
    (run (.transactionEnd (.done 0 0) .released)
        (setPanel 0 { shown 2 7 .both with pending := .wake, state := .asleep }
          (display .running [⟨0, .wake⟩, ⟨1, .readStatus⟩]))).map
        (fun t => ((t.panel 0).state, (t.panel 0).pending, t.bus.position)) =
      some (.awake, .none, 1) := by decide

/-- R140: the third miss makes the panel ABSENT; the frame is complete. -/
theorem test_transaction_end_third_miss :
    (run (.transactionEnd .noAck .released)
        (setPanel 1 { shown 1 7 .down with misses := 2 } (display .running [⟨1, .readStatus⟩]))).map
        (fun t => ((t.panel 1).state, t.counter .panelMisses, t.counter .framesSent, t.bus.state)) =
      some (.absent, 1, 1, .idle) := by decide

theorem test_bus_disturbed :
    (run (.busDisturbed .low) (display .running [⟨0, .wake⟩, ⟨1, .wake⟩])).map
        (fun t => (t.bus.state, t.bus.position, t.bus.tried)) = some (.recovering .auto, 1, true) := by
  decide

/-- 7.5: a second stuck data in the frame is a FAULT, whichever transaction meets it. -/
theorem test_second_stuck_data :
    (run (.busDisturbed .low)
        { display .running [⟨0, .wake⟩, ⟨1, .wake⟩] with
          bus := { (display .running [⟨0, .wake⟩, ⟨1, .wake⟩]).bus with tried := true } }).map
        (fun t => (t.bus.state, t.bus.cause, t.bus.list, t.counter .busRecoveries)) =
      some (.fault, some .stuckData, [], 0) := by decide

/-- R141: a fault status that differs from the one held is noticed, and the same one is not. -/
theorem test_panel_fault_noticed_once :
    let read := fun (held : PanelStatus) =>
      (reportOutcome ⟨0, .readStatus⟩ (.done .lampFault)
        (setPanel 0 { shown 2 7 .both with lastStatus := held } station)).ports.service.notices
    read .ok = [.panelFault] ∧ read .lampFault = [] := by decide

theorem test_stuck_clock :
    (run .stuckClock (display .running [⟨0, .wake⟩])).map
        (fun t => (t.bus.state, t.bus.cause, t.ports.link.notices)) =
      some (.fault, some .stuckClock, [.panelBusFault]) := by decide

theorem test_recovery_end_auto :
    (run (.recoveryEndAuto .released .released) (display (.recovering .auto) [⟨1, .wake⟩])).map
        (fun t => (t.bus.state, t.bus.list)) = some (.running, [⟨1, .wake⟩]) := by decide

theorem test_recovery_end_manual :
    (run (.recoveryEndManual .released .released) (display (.recovering .manual) [])).map
        (fun t => (t.bus.state, t.bus.cause)) = some (.idle, none) := by decide

/-! ## The supply: section 8.6 -/

theorem test_sample_classes :
    classOf 11700 = .level 3 ∧ classOf 11100 = .level 0 ∧ classOf 11000 = .level 0 ∧
      classOf 10999 = .under ∧ classOf 12400 = .level 7 := by decide

/-- A part whose sample timer has run out. -/
def sampling : State := { station with supply := { station.supply with sampleTimer := 0 } }

theorem test_sample_economy_run :
    (run (.sample 11700 .released) sampling).map (fun t => (t.supply.economyRun, t.supply.sampleTimer)) =
      some (1, 2) ∧
    (run (.sample 11700 .released) station).map (fun t => t.supply.economyRun) = some 0 := by decide

/-- A third class below the reserve level in NORMAL goes straight to RESERVE. -/
theorem test_sample_third_low :
    (run (.sample 11100 .released)
        { sampling with supply := { sampling.supply with reserveRun := 2, economyRun := 2 } }).map
        (fun t => (t.supply.state, t.counter .supplyDowngrades, t.journal.entries.length)) =
      some (.reserve, 1, 2) := by decide

theorem test_supply_levels :
    reply .service (.supplyLevels .service (.fields ⟨7, 6⟩)) station = some (.ok, [7, 6, 7, 7, 5, 0]) ∧
      result .service (.supplyLevels .service (.fields ⟨4, 4⟩)) station = some .badRequest := by decide

theorem test_load_begin :
    reply .terminal (.loadBegin .terminal (.fields {})) station = some (.ok, [0, 20]) ∧
      reply .terminal (.loadBegin .terminal (.fields {}))
        { station with supply := { station.supply with load := some ⟨0, 3, 7⟩ } } =
        some (.ok, [0, 7]) ∧
      reply .terminal (.loadBegin .terminal (.fields {}))
        { station with supply := { station.supply with load := some ⟨9, 0, 0⟩ } } =
        some (.ok, [0, 20]) := by decide

/-- 8.3: the end second in STATUS is now plus the end timer's seconds left, also after the clock is set on. -/
theorem test_status_load_end_second :
    let tail := fun (second : Nat) => (reply .terminal (.status .terminal (.fields ⟨5⟩))
      { station with
        clock := { station.clock with second := second }
        supply := { station.supply with load := some ⟨9, 20, 60⟩ } }).map (fun x => x.2.drop 10)
    tail 9 = some [1, 9, 0, 0, 29, 0, 0] ∧ tail 259 = some [1, 9, 0, 0, 23, 1, 0] ∧
      tail 86390 = some [1, 9, 0, 0, 10, 0, 0] := by decide

theorem test_load_end :
    reply .terminal (.loadEnd .terminal (.fields {})) station = some (.ok, [0, 0]) := by decide

theorem test_load_period_timeout :
    (run .loadPeriodTimeout
        { station with supply := { station.supply with load := some ⟨0, 0, 40⟩ } }).map
        (fun t => (t.supply.load, t.counter .loadOverruns)) = some (none, 1) := by decide

/-- R173: a LOAD_BEGIN taken first restarts the end timer, and the expiry queued behind it does not happen. -/
theorem test_load_restarted_before_timeout :
    ((run (.loadBegin .terminal (.fields {}))
        { station with supply := { station.supply with load := some ⟨0, 0, 40⟩ } }).bind
        (run .loadPeriodTimeout)).map (fun t => (t.supply.load, t.counter .loadOverruns)) =
      some (some ⟨0, 20, 40⟩, 0) := by decide

/-- R173, R174: LOAD_BEGIN and LOAD_PERIOD_TIMEOUT at the limit, in either order: one overrun, and a new period. -/
theorem test_load_limit_in_either_order :
    let s := { station with supply := { station.supply with load := some ⟨9, 0, 0⟩ } }
    let begin_ := Instr.loadBegin .terminal (.fields {})
    let seen := fun (t : State) => (t.supply.load.map LoadPeriod.endTimer, t.counter .loadOverruns)
    ((run begin_ s).bind (run .loadPeriodTimeout)).map seen = some (some 20, 1) ∧
      ((run .loadPeriodTimeout s).bind (run begin_)).map seen = some (some 20, 1) := by decide

/-! ## The ports: chapters 9 and 10 -/

theorem test_set_rights :
    reply .service (.setRights .service (.fields ⟨0, 0x21⟩)) station = some (.ok, [0x21, 0x3F, 0x3F]) ∧
      result .service (.setRights .service (.fields ⟨2, 0x0F⟩)) station = some .badRequest := by decide

theorem test_port_reset :
    (run (.portReset .service (.fields ⟨0⟩)) quoted).map (fun t => t.sales.ports.terminal) =
      some ⟨none, .none, 18, none⟩ ∧
    result .service (.portReset .service (.fields ⟨2⟩)) quoted = some .badRequest := by decide

theorem test_port_reset_line_active :
    (run (.portResetLineActive .link) (uploading .link)).map
        (fun t => (t.ports.link.condition, t.journal.batch, t.journal.unsent.length,
          t.ports.link.notices)) =
      some (.held, none, 3, [.uploadDue]) := by decide

theorem test_port_reset_line_inactive :
    (run (.portResetLineInactive .link)
        (setPort .link { openPort with condition := .held } station)).map
        (fun t => t.ports.link.condition) = some .run := by decide

theorem test_port_reset_line_first_acceptance :
    (run (.portResetLineFirstAcceptance .link false) State.reset).map
        (fun t => (t.ports.link.condition, t.ports.link.lineSeen, t.ports.link.notices)) =
      some (.run, true, [.uploadDue, .restarted]) := by decide

/-- The length of a STATUS section's reply. -/
def statusLength (n : Byte) (s : State) : Option Nat :=
  (reply .link (.status .link (.fields ⟨n⟩)) s).map (fun r => r.2.length)

/-- The sections of STATUS take the bytes that R199's fields have in the widths of 11.1. -/
theorem test_status_lengths :
    [0, 1, 2, 3, 4, 5, 6].map (fun n => statusLength n station) =
      [some 34, some 20, some 49, some 29, some 86, some 17, some 12] := by decide +kernel

/-- An optional record takes the same bytes when it is present. -/
theorem test_status_lengths_with_records :
    statusLength 0 (setStaging (some staged) minute940) = some 34 ∧
      statusLength 1 { station with detector := { treadles with passage := some ⟨0, 1, 2, 3, 4, 5⟩ } } =
        some 20 ∧
      statusLength 2 (withSales .link ⟨some quote17, .none, 18, some ⟨9, 1⟩⟩ station) = some 49 ∧
      statusLength 3 (uploading .link) = some 29 ∧
      statusLength 5 { station with supply := { station.supply with load := some ⟨1, 3, 4⟩ } } =
        some 17 := by decide +kernel

theorem test_list_calls :
    (reply .link (.listCalls .link (.fields ⟨0, 1, 96⟩)) minute940).map
        (fun r => (r.1, r.2.length, r.2.take 10)) =
      some (.ok, 61, [0, 1, 0x2C, 0x03, 0, 3, 0, 4, 1, 3]) := by decide +kernel

/-- 9.4: counters 1 and 2 read and reset; counter 3 is not in the run. -/
theorem test_read_counters :
    let s := { station with counters := ((Vector.replicate 24 5).set 0 41).set 1 17 }
    reply .link (.readCounters .link (.fields ⟨1, 2, 1⟩)) s =
        some (.ok, [1, 2, 1, 41, 0, 0, 0, 17, 0, 0, 0]) ∧
      (run (.readCounters .link (.fields ⟨1, 2, 1⟩)) s).map
        (fun t => (t.counter .issuedSingle, t.counter .voided)) = some (0, 5) := by decide

/-- Log 30: READ_COUNTERS over an unread reply reads counter 24 before that reply is discarded and counted. -/
theorem test_read_counters_discards :
    let s := setPort .link
      { openPort with slot := some ⟨⟨0x50, .ok, ⟨false, false, false, false⟩, []⟩, 0⟩ }
      { station with counters := (Vector.replicate 24 0).set 23 7 }
    reply .link (.readCounters .link (.fields ⟨24, 1, 1⟩)) s = some (.ok, [24, 1, 1, 7, 0, 0, 0]) ∧
      (run (.readCounters .link (.fields ⟨24, 1, 1⟩)) s).map (fun t => t.counter .portFrameErrors) =
        some 1 := by decide

/-- 10.7: the list SUPPLY_CHANGED and SALES_STATE empties the set; the body is the set before. -/
theorem test_read_notices :
    (run (.readNotices .terminal (.fields ⟨0x000C⟩))
        (setPort .terminal { openPort with notices := [.supplyChanged, .salesState] } station)).map
        (fun t => (t.ports.terminal.notices, t.ports.terminal.slot)) =
      some ([], some ⟨⟨0x55, .ok, ⟨false, false, false, false⟩, [0x0C, 0x00]⟩, 0⟩) := by decide

/-- 10.7: a request over an unread reply carries OVERRUN and counts PORT_FRAME_ERRORS once. -/
theorem test_overrun :
    (run (.readNotices .terminal (.fields ⟨0⟩))
        (setPort .terminal
          { openPort with
            slot := some ⟨⟨0x11, .salesClosed, ⟨false, true, false, false⟩, [16]⟩, 0⟩ } station)).map
        (fun t => (t.ports.terminal.slot.map (fun x => x.reply.flags.overrun),
          t.counter .portFrameErrors)) = some (some true, 1) := by decide

theorem test_unknown_request :
    (run (.unknownRequest .link 0x06 [1]) station).bind
        (fun t => t.ports.link.slot.map (fun x => x.reply.bytes)) = some [3, 0x06, 1, 0] := by decide

theorem test_frame_cut :
    (run (.frameCut .link [3, 0x31]) station).map
        (fun t => (t.counter .portFrameErrors, t.ports.link.slot, t.ports.link.dataOut)) =
      some (1, none, [0xFF, 0xFF]) := by decide

/-- A reply read short keeps the reply whole, one read to its last byte empties the slot. -/
theorem test_reply_read :
    let s := setPort .link
      { openPort with slot := some ⟨⟨0x33, .ok, ⟨false, false, false, false⟩, [0, 0]⟩, 0⟩ } station
    (run (.replyRead .link 5) s).map (fun t => (t.ports.link.slot.isSome, t.ports.link.dataOut)) =
        some (true, [5, 0x33, 0, 0, 0]) ∧
      (run (.replyRead .link 7) s).map (fun t => (t.ports.link.slot.isSome, t.ports.link.dataOut)) =
        some (false, [5, 0x33, 0, 0, 0, 0, 0xFF]) ∧
      (run (.replyRead .link 2) station).map (fun t => t.ports.link.dataOut) = some [0, 0xFF] := by decide

/-! ## Starts, the queue -/

theorem test_cold_start :
    (run .coldStart quoted).map (fun t => (t.sales.reasons, t.clock.valid, t.journal.entries.length)) =
      some ([.noTime, .noFares, .stockEmpty], false, 1) := by decide

/-- A warm start: clock and tables kept, ECONOMY, RESTARTED, a START(WARM) entry, quotes gone. -/
theorem test_warm_start :
    (run (.warmStart .released) quoted).map
        (fun t => (t.clock.valid, t.supply.state, t.ports.terminal.notices,
          t.journal.entries.map Entry.kind, t.sales.ports.terminal.slot.isSome)) =
      some (true, .economy, [.restarted], [.start .cold, .start .warm], false) := by decide

theorem test_core_supply_dip :
    (run .coreSupplyDip quoted).map (fun t => (t.core, t.clock.second, t.sales.blocks.length)) =
      some (.down, 56400, 1) := by decide

/-- A step carries out the front of the queue and keeps the rest. -/
theorem test_step_takes_front :
    (match step { station with pending := [.frameCut .link [1], .coldStart] } with
      | .next t => some (t.counter .portFrameErrors, t.pending)
      | .fault _ => none
      | .refused _ => none) = some (1, [.coldStart]) := by decide

theorem test_fetch_word_spells_none : (station.withFetchWord 8 0).pending = [] := by decide

/-! ## Witnesses: for each obligation with hypotheses, a state and operands that meet them, clause by
clause, at the ends of the ranges -/

theorem witness_step_idles : station.pending = [] := by decide

theorem witness_every_command_while_down :
    ({ station with core := .down } : State).core = .down ∧
      Instr.passageClose.actsWhileDown = false := by decide

/-- Each timer with a second left, the closing timer with two, and not running. -/
theorem witness_expiry_not_due :
    station.core = .up ∧ (∀ g, (setStaging (some { staged with idle := 1 }) minute940).store.staging =
        some g → g.idle ≠ 0) ∧
      ({ treadles with passage := some ⟨0, 4, 0, 0, 0, 2⟩ } : Detector).passage.map
        Passage.closing = some 2 ∧ station.detector.passage = none ∧
      (quoted.sales.ports.get .terminal).slot.map Quote.timer = some 120 ∧
      (station.sales.ports.get .link).lastSale = none ∧ station.sales.silence ≠ some 0 ∧
      (uploading .link).journal.batch.map Batch.timer = some 300 ∧
      station.scheduler.wait ≠ some 0 ∧ station.bus.probes[(0 : Fin 8)] ≠ some 0 ∧
      station.bus.frameTimer ≠ some 0 ∧ station.supply.sampleTimer ≠ 0 ∧ station.supply.load = none :=
  ⟨by decide, (by intro g h; cases h; decide), by decide⟩

/-- An undefined code; a right not held; a body of a wrong length; a HELD port; the two bodies of the right
length that fit no row. -/
theorem witness_port_checks :
    (Instr.unknownRequest .link 0x06 [] |>.wf) = true ∧
      encodeFrame (.unknownRequest .link 0x06 []) = some ⟨.link, 0x06, []⟩ ∧
      station.receives .link = true ∧ ReqCode.ofByte 0x06 = none ∧
      (Instr.issue .link (.raw [1, 2])).wf = true ∧
      encodeFrame (.issue .link (.raw [1, 2])) = some ⟨.link, 0x11, [1, 2]⟩ ∧
      ReqCode.ofByte 0x11 = some .issue ∧ reqClass .issue ∈ (station.ports.get .link).rights ∧
      ReqCode.fits .issue [1, 2] = false ∧
      (setPort .link { openPort with rights := [.read] } station).receives .link = true ∧
      reqClass .issue ∉
        ((setPort .link { openPort with rights := [.read] } station).ports.get .link).rights ∧
      State.reset.core = .up ∧ (State.reset.ports.get .link).condition = .held ∧
      station.admits .link .svcUpdate ∧ station.admits .link .displayControl ∧
      (Instr.svcUpdateDelay .link (.raw [0, 1, 0, 4, 0, 0, 0])).wf = true ∧
      (Instr.displayAutoRecovery .link (.raw [6, 0, 0, 0])).wf = true := by decide

/-- An EMPTY slot; a slot read one byte short, and read whole; a cut frame of one byte. -/
theorem witness_reply_read_and_cut_frame :
    let s := setPort .link
      { openPort with slot := some ⟨⟨0x33, .ok, ⟨false, false, false, false⟩, [0, 0]⟩, 0⟩ } station
    station.receives .link = true ∧ (station.ports.get .link).slot = none ∧
      s.receives .link = true ∧
      (s.ports.get .link).slot.map (fun x => (decide (5 < x.reply.bytes.length),
        decide (x.reply.bytes.length ≤ 6))) = some (true, true) ∧ [(9 : Byte)] ≠ [] := by decide

theorem witness_decode_frame :
    let i := Instr.ttCalls .link (.fields ⟨84, List.replicate 12 ⟨9999, 1, 1439, 255⟩⟩)
    i.wf = true ∧ i.findsLines .low .low ∧ (encodeFrame i).map (fun f => f.body.length) = some 74 :=
  ⟨by decide, trivial, by decide⟩

/-- R6 at second 86,399; the refusals at 86,400; an earlier day, the same day, on a VALID clock. -/
theorem witness_time_set :
    station.admits .link .timeSet ∧ dayKindOf 2 = some .sundayHoliday ∧ (86399#24).toNat ≤ 86399 ∧
      station.clock.valid = false ∧ station.store.today = none ∧ station.store.tomorrow = none ∧
      dayKindOf 3 = none ∧ 86399 < (86400#24).toNat ∧
      minute940.admits .link .timeSet ∧ minute940.clock.valid = true ∧
      (811#16).toNat < minute940.clock.day ∧ (812#16).toNat = minute940.clock.day ∧
      minute940.clock.second / 60 < (56460#24).toNat / 60 := by decide

theorem witness_later_day :
    minute940.admits .link .timeSet ∧ dayKindOf 0 = some .weekday ∧ (0#24).toNat ≤ 86399 ∧
      minute940.clock.valid = true ∧ minute940.clock.day < (813#16).toNat ∧
      (∀ t, minute940.store.tomorrow = some t → t.day ≠ minute940.clock.day) ∧
      ({ minute940 with
          clock := { minute940.clock with day := 813 }
          store := { minute940.store with
            tomorrow := some ⟨813, .saturday, 1, evening⟩ } } : State).store.tomorrow.map
        (fun t => decide (t.day = 813)) = some true ∧
      (quoted.sales.ports.get .terminal).slot = some quote17 ∧
      quote17.request.target = some ⟨.today, 2047⟩ ∧
      (withSales .link ⟨none, .expired { quote17 with
          request := { family with target := some ⟨.tomorrow, 2047⟩ } }, 18, none⟩
        quoted).sales.ports.link.mark =
        .expired { quote17 with request := { family with target := some ⟨.tomorrow, 2047⟩ } } :=
  ⟨by decide, by decide, by decide, by decide, by decide, (by intro t h; cases h), by decide⟩

/-- Two due calls with room for both, for one and for none; a tick with none due; the last minute before 23:00
and 23:00 itself; a group awake and asleep. -/
theorem witness_minute_tick :
    let calls := [call 2051 .down 882, call 2052 .up 883]
    let s := day812 56700 calls
    s.store.today = some ⟨812, .weekday, 3, calls⟩ ∧ (calls.map Call.service).Nodup ∧
      calls.filter (fun c => decide (c.state = .scheduled ∧ c.expected + 60 ≤ 945)) = calls ∧
      s.clock.second / 60 = 945 ∧ calls ≠ [] ∧
      (let room := fun (next : Nat) =>
        let j := { s.journal with nextSequence := next }
        min calls.length (min (j.free - 2) (lastSequence + 1 - j.nextSequence))
       room 2 = 2 ∧ room lastSequence = 1 ∧ room (lastSequence + 1) = 0) ∧
      (day812 72000 calls).clock.second / 60 = 1200 ∧ (day812 71999 calls).clock.second / 60 = 1199 ∧
      s.store.tomorrow = none ∧ s.store.neededMark = false ∧ s.compositor.group = .awake ∧
      s.compositor.idle = some 600 ∧ (minuteTick s).store.today.map DayTable.calls =
        some (calls.map (fun c => { c with state := .lapsed, removed := true })) ∧
      calls.filter (fun c => decide (c.state = .scheduled ∧ c.expected + 60 ≤ 941)) = [] := by decide

theorem witness_clock_second :
    station.core = .up ∧ station.clock.valid = false ∧
      (day812 86398 []).clock.valid = true ∧ (day812 86398 []).clock.second < 86399 ∧
      (day812 86399 []).clock.second = 86399 ∧ (day812 86399 []).clock.day < 65535 ∧
      (let s : State := { day812 86399 [] with clock := ⟨true, 65535, .weekday, 86399⟩ }
       s.core = .up ∧ s.clock.valid = true ∧ s.clock.second = 86399 ∧ s.clock.day = 65535) ∧
      ({ day812 86399 [] with core := .down } : State).core = .down := by decide

/-- 96 calls with no staging, the holder's own, and another port's; the four field refusals. -/
theorem witness_tt_begin :
    let mine := setStaging (some staged) minute940
    minute940.admits .link .ttBegin ∧ dayKindOf 0 = some .weekday ∧ (1#16).toNat ≠ 0 ∧
      1 ≤ (96#8).toNat ∧ (96#8).toNat ≤ 96 ∧ minute940.store.staging = none ∧
      mine.admits .link .ttBegin ∧ mine.admits .service .ttBegin ∧ mine.store.staging = some staged ∧
      staged.holder = .link ∧ staged.holder ≠ .service ∧
      dayKindOf 3 = none ∧ (0#16).toNat = 0 ∧ (0#8).toNat = 0 ∧ 96 < (97#8).toNat ∧
      (let due := setStaging (some { staged with idle := 0 }) minute940
       due.core = .up ∧ due.store.staging = some { staged with idle := 0 }) := by decide

/-- 12 records; no staging; another holder; a wrong index; past the count; a bad record; accepted. -/
theorem witness_tt_calls :
    let g := { staged with count := 96, next := 84, calls := List.replicate 84 ⟨1, .up, 0, 0⟩ }
    let s := setStaging (some g) minute940
    let records := List.replicate 12 (⟨9999, 1, 1439, 255⟩ : CallRecord)
    s.admits .link .ttCalls ∧ s.admits .service .ttCalls ∧ s.store.staging = some g ∧
      g.holder = .link ∧ 1 ≤ records.length ∧ records.length ≤ 12 ∧ (83#8).toNat ≠ g.next ∧
      (84#8).toNat = g.next ∧ (84#8).toNat + records.length ≤ g.count ∧
      { g with count := 95 }.count < (84#8).toNat + records.length ∧
      (stagedCallsOf records).isSome = true ∧
      stagedCallsOf [⟨10000, 1, 1439, 255⟩] = none ∧ minute940.store.staging = none ∧
      minute940.admits .link .ttCalls := by decide +kernel

/-- Every stop of R18 and the accepted load, of TODAY and with 2 free entries. -/
theorem witness_tt_end :
    let with_ := fun (g : Staging) => setStaging (some g) minute940
    minute940.admits .link .ttEnd ∧ minute940.store.staging = none ∧
      (with_ staged).admits .link .ttEnd ∧ (with_ staged).admits .service .ttEnd ∧
      (with_ staged).store.staging = some staged ∧ staged.holder ≠ .service ∧
      staged.holder = .link ∧ { staged with next := 3 }.next ≠ staged.count ∧
      staged.next = staged.count ∧ stagedOrdered staged.calls = true ∧
      stagedOrdered (staged.calls ++ staged.calls) = false ∧
      minute940.clock.target 811 = none ∧ minute940.clock.target 812 = some .today ∧
      minute940.clock.target 813 = some .tomorrow ∧
      (minute940.store.table .today).map DayTable.version = some 3 ∧
      { staged with version := 3 }.version ≤ 3 ∧ 3 < staged.version ∧
      minute940.store.table .tomorrow = none ∧ 3 ≤ minute940.journal.free ∧
      quote17.request.target = some ⟨.today, 2047⟩ ∧
      2047 ∈ (callsOf (minute940.store.table .today)).map Call.service ∧
      (quoted.sales.ports.get .terminal).slot = some quote17 ∧
      ({ minute940 with journal := { minute940.journal with
          nextSequence := lastSequence + 1 } } : State).journal.free < 3 := by decide +kernel

/-- A service id out of range, an absent call, and calls in each state that R24 to R26 tell apart. -/
theorem witness_svc_update :
    minute940.admits .link .svcUpdate ∧ callRefOf 0 0 = none ∧ callRefOf 0 10000 = none ∧
      callRefOf 0 9999 = some ⟨.today, 9999⟩ ∧ minute940.store.call ⟨.today, 9999⟩ = none ∧
      callRefOf 0 2047 = some ⟨.today, 2047⟩ ∧
      (minute940.store.call ⟨.today, 2047⟩).map Call.state = some .scheduled ∧
      (minute940.store.call ⟨.today, 2045⟩).map Call.state = some .cancelled ∧
      (minute940.store.call ⟨.today, 2037⟩).map Call.state = some .departed ∧
      (day812 0 [{ call 1 .up 0 with state := .lapsed }]).store.call ⟨.today, 1⟩ =
        some { call 1 .up 0 with state := .lapsed } := by decide

/-- Levels equal to the accepted one; a rise alone and an axle; each falling edge. -/
theorem witness_treadle_edges :
    let pressed := { treadles.ta with pressed := true, pulse := some false }
    let at_ := fun (m : TreadleMode) (x : Treadle) =>
      ({ station with detector := { treadles with mode := m, ta := x } } : State)
    (at_ .paired pressed).core = .up ∧ station.detector.ta.seen = false ∧
      (at_ .paired pressed).detector.ta.seen = true ∧ (at_ .paired pressed).detector.ta.pressed = true ∧
      (at_ .paired pressed).detector.tb.pressed = false ∧ (at_ .paired pressed).detector.tb.seen = true ∧
      (at_ .paired pressed).detector.mode = .paired ∧
      ((at_ .paired pressed).detector.treadle (otherTreadle .tb)).pulse.isSome = true ∧
      (at_ .separate pressed).detector.mode = .separate ∧
      (at_ .separate pressed).detector.ta.pulse.isSome = true ∧
      (at_ .paired { pressed with pulse := none }).detector.ta.pulse = none ∧
      (at_ .paired { pressed with pulse := some true }).detector.ta.pulse = some true ∧
      (at_ .paired { pressed with run := 19 }).detector.ta.run = 19 ∧
      pressed.pulse = some false := by decide

theorem witness_core_up : State.reset.core = .up ∧ station.core = .up := by decide

theorem witness_treadle_mode :
    station.admits .service .treadleMode ∧ station.admits .link .treadleMode ∧
      treadleModeOf 2 = none ∧ treadleModeOf 1 = some .separate ∧ treadleModeOf 0 = some .paired ∧
      .paired = station.detector.mode ∧ .separate ≠ station.detector.mode ∧
      Port.link ≠ .service := by decide

/-- No passage; 3 axles; 4 axles at the ends of R42's window; no candidate, with and without room. -/
theorem witness_passage_close :
    let calls := [{ call 2043 .down 915 with report := some ⟨6, 2⟩ }, call 2047 .down 965]
    let x : Passage := ⟨0, 4, 54300, 54300, 812, 0⟩
    let candidate := fun (m : Nat) (c : Call) => decide (c.state = .scheduled ∧
      (x.up < x.down → c.direction = .down) ∧ (x.down < x.up → c.direction = .up) ∧
      c.scheduled ≤ m + 10 ∧ m ≤ c.expected + 60)
    let s : State := { day812 54300 calls with detector := { treadles with passage := some x } }
    s.core = .up ∧ station.detector.passage = none ∧ s.detector.passage = some x ∧ x.closing ≤ 1 ∧
      ({ x with closing := 1 } : Passage).closing ≤ 1 ∧
      0 + 3 < 4 ∧ 4 ≤ x.up + x.down ∧ s.store.today = some ⟨812, .weekday, 3, calls⟩ ∧
      (calls.map Call.service).Nodup ∧ x.lastDay = s.store.storeDay ∧ x.last / 60 = 905 ∧
      calls.find? (candidate 905) = calls.head? ∧ calls.find? (candidate 904) = none ∧
      (calls.find? (candidate 979)).isSome = true ∧ 3 ≤ s.journal.free ∧
      ({ s with journal := { s.journal with nextSequence := lastSequence + 1 } } : State).journal.free <
        3 := by decide

/-- The refusals and the stores at the ends of their ranges. -/
theorem witness_fare_writes :
    station.admits .link .fareRangeWrite ∧ 31 < (32#8).toNat ∧ flagOf 2 = none ∧ (31#8).toNat ≤ 31 ∧
      flagOf 0 = some false ∧ flagOf 1 = some true ∧ (0#8).toNat = 0 ∧ 1 ≤ (255#8).toNat ∧
      min ((1095#16).toNat / 4 * 4 + 3) 4095 < (1100#16).toNat / 4 * 4 ∧
      (65535#16).toNat / 4 * 4 > 4095 ∧ (0#16).toNat / 4 * 4 ≤ min ((65535#16).toNat / 4 * 4 + 3) 4095 ∧
      station.admits .link .fareParamWrite ∧ station.admits .link .fareConcessionWrite ∧
      7 < (8#8).toNat ∧ appliesToOf 2 = none ∧ 1 ≤ (7#8).toNat ∧ (7#8).toNat ≤ 7 ∧
      appliesToOf 1 = some .all ∧ station.admits .link .farePeakWrite ∧ 3 < (4#8).toNat ∧
      1439 < (1440#16).toNat ∧ 1440 < (1441#16).toNat ∧ (3#8).toNat ≤ 3 ∧ (1439#16).toNat ≤ 1439 ∧
      (1440#16).toNat ≤ 1440 := by decide

theorem witness_fare_prices :
    station.admits .link .farePriceWrite ∧ 1 ≤ (List.replicate 15 (0#24)).length ∧
      (List.replicate 15 (0#24)).length ≤ 15 ∧ (0#8).toNat = 0 ∧ 15 < (2#8).toNat + 15 - 1 ∧
      1 ≤ (1#8).toNat ∧ (1#8).toNat + 15 - 1 ≤ 15 ∧
      (.noFares ∈ station.sales.reasons ↔ station.fares.loaded = false) := by decide

/-- STATUS on the terminal port with the terminal SILENT; runs that end at the last index. -/
theorem witness_reads :
    let silent : State := { station with sales := { station.sales with silent := true } }
    silent.admits .terminal .status ∧ statusSectionOf 6 = some .ports ∧
      station.sales.silent = false ∧ station.admits .link .listCalls ∧ tableOf 1 = some .tomorrow ∧
      (95#8).toNat ≤ 95 ∧ 1 ≤ (96#8).toNat ∧ (96#8).toNat ≤ 96 ∧ station.admits .link .fareRead ∧
      fareTableOf 0 = some .ranges ∧ (31#8).toNat ≤ 31 ∧ 1 ≤ (1#8).toNat ∧
      (31#8).toNat + (1#8).toNat ≤ 32 ∧ station.admits .link .rvlRead ∧ (63#8).toNat ≤ 63 ∧
      (63#8).toNat + (1#8).toNat ≤ 64 ∧ (0#8).toNat + (64#8).toNat ≤ 64 ∧
      station.admits .link .status ∧ statusSectionOf 7 = none ∧ tableOf 2 = none ∧ 95 < (96#8).toNat ∧
      (0#8).toNat = 0 ∧ 96 < (97#8).toNat ∧ fareTableOf 5 = none ∧ 31 < (32#8).toNat ∧
      32 < (31#8).toNat + (2#8).toNat ∧ 63 < (64#8).toNat ∧ 64 < (63#8).toNat + (2#8).toNat := by decide

theorem witness_rounding : 0 < (5 : Nat) ∧ 0 < (10000 : Nat) := by decide

/-- The tables of 3.5 are in range, and the party of 3.5 has its fare. A code below, at the end of and past a range;
the price at a distance, and none; a target held and one that is not; minutes 329, 330, 419 and 420 at the ends of
a window; a class of either applies-to, and none. -/
theorem witness_fare_total :
    (familyFares.returnPercent ≤ 250 ∧ familyFares.step = 10 ∧ familyFares.capMultiple = 3) ∧
      1 ≤ family.adults + family.children ∧ family.adults + family.children ≤ 9 ∧
      minute940.computeFare family = .fare familyFare ∧
      familyFares.ranges[(0 : Fin 32)] = some ⟨1040, 1055, 3⟩ ∧ 1040 ≤ family.destination ∧
      family.destination ≤ 1055 ∧ familyFares.prices[(2 : Fin 15)] = 470 ∧
      familyFares.prices[(0 : Fin 15)] = 0 ∧
      (∀ i : Fin 32, State.reset.fares.ranges[i] = none) ∧
      minute940.store.call ⟨.today, 2047⟩ = some (call 2047 .down 965) ∧
      minute940.store.call ⟨.tomorrow, 2047⟩ = none ∧ minute940.clock.second / 60 = 940 ∧
      familyFares.isPeak 329 = false ∧ familyFares.isPeak 330 = true ∧ familyFares.isPeak 419 = true ∧
      familyFares.isPeak 420 = false ∧ (familyFares.concessions[(2 : Fin 8)]).appliesTo = .adults ∧
      (familyFares.concessions[(3 : Fin 8)]).appliesTo = .all := by decide +kernel

/-- R57: a plain and a carded QUOTE, with a target and without, at the ends of the ranges; and one past each. -/
theorem witness_fare_request :
    fareRequestOf ⟨4095, 0, 9, 0, 0, 0, 0, 0, 0xFF, 0⟩ = some ⟨4095, .single, 9, 0, none, none⟩ ∧
      fareRequestOf ⟨0, 1, 0, 1, 7, 1, 5, 1, 1, 9999⟩ =
        some ⟨0, .ret, 0, 1, some ⟨7, 5⟩, some ⟨.tomorrow, 9999⟩⟩ ∧
      fareRequestOf ⟨4096, 0, 9, 0, 0, 0, 0, 0, 0, 0⟩ = none ∧
      fareRequestOf ⟨0, 2, 9, 0, 0, 0, 0, 0, 0, 0⟩ = none ∧
      fareRequestOf ⟨0, 0, 5, 5, 0, 0, 0, 0, 0, 0⟩ = none ∧
      fareRequestOf ⟨0, 0, 0, 0, 0, 0, 0, 0, 0, 0⟩ = none ∧
      fareRequestOf ⟨0, 0, 1, 0, 8, 1, 0, 0, 0, 0⟩ = none ∧
      fareRequestOf ⟨0, 0, 1, 0, 7, 0, 0, 0, 0, 0⟩ = none ∧
      fareRequestOf ⟨0, 0, 1, 0, 0, 1, 0, 0, 0, 0⟩ = none ∧
      fareRequestOf ⟨0, 0, 1, 0, 0, 0, 0, 1, 2, 1⟩ = none ∧
      fareRequestOf ⟨0, 0, 1, 0, 0, 0, 0, 1, 0, 10000⟩ = none ∧
      fareRequestOf ⟨0, 0, 1, 0, 0, 0, 0, 2, 0, 1⟩ = none := by decide

theorem witness_fare_tables_ok : familyFares.ok where
  ranges := by
    have h : familyFares.ranges.toList.all (fun e => match e with
        | none => true
        | some e => decide (e.first ≤ e.last ∧ e.last ≤ 4095 ∧ 1 ≤ e.distance ∧ e.distance ≤ 15)) =
        true := by decide
    intro e he
    simpa using List.all_eq_true.mp h _ he
  prices := by decide
  percents := by decide
  step := by decide
  cap := by decide
  concessions := by decide
  peaks := by decide

/-- Every check of R75 passed at minute 940; and each check failing with those before it passed. -/
theorem witness_quote :
    minute940.admits .terminal .quote ∧ minute940.sales.reasons = [] ∧
      fareRequestOf familyBody = some family ∧ minute940.computeFare family = .fare familyFare ∧
      minute940.targetOnSale family = true ∧ minute940.cardRevoked family = false ∧
      minute940.sales.remaining ≠ 0 ∧ station.admits .terminal .quote ∧ station.sales.reasons ≠ [] ∧
      fareRequestOf { familyBody with adults := 10 } = none ∧
      minute940.computeFare { family with target := some ⟨.today, 9999⟩ } = .noSuch ∧
      ({ minute940 with fares := State.reset.fares } : State).computeFare family = .noFare ∧
      (day812 57840 evening).targetOnSale family = false ∧
      (day812 57840 evening).computeFare family = .fare familyFare ∧
      ({ minute940 with revoked := minute940.revoked.set 0 (some ⟨0x00A1B2C3D4, 0⟩) } : State).cardRevoked
        family = true ∧
      ({ minute940 with sales := { minute940.sales with blocks := [] } } : State).sales.remaining = 0 := by
  decide +kernel

/-- A HELD quote and an EXPIRED one, both issuable, with the last serial and 2 free entries. -/
theorem witness_issue :
    let last := fun (s : State) => ({ s with sales := { s.sales with
      blocks := [⟨1000100, 1100099, 1100099⟩] } } : State)
    let held := last quoted
    let expired := last (withSales .terminal ⟨none, .expired quote17, 18, none⟩ (day812 56580 evening))
    held.admits .terminal .issue ∧ (17#8).toNat = quote17.number ∧ quote17.number ≠ 0 ∧
      held.sales.reasons = [] ∧ held.targetOnSale family = true ∧ held.cardRevoked family = false ∧
      held.sales.remaining = 1 ∧ held.sales.blocks = [⟨1000100, 1100099, 1100099⟩] ∧
      2 ≤ held.journal.free ∧
      minute940.store.table .today = some ⟨812, .weekday, 3, evening⟩ ∧
      (held.store.call ⟨.today, 2047⟩).map Call.scheduled = some 965 ∧
      (held.sales.ports.get .terminal).slot = some quote17 ∧ expired.admits .terminal .issue ∧
      expired.sales.reasons = [] ∧ expired.targetOnSale family = true ∧
      (expired.sales.ports.get .terminal).slot = none ∧
      (expired.sales.ports.get .terminal).mark = .expired quote17 ∧
      expired.computeFare family = .fare familyFare ∧ familyFare.total = quote17.fare.total := by
  decide +kernel

/-- Number 0; no quote; an INVALIDATED mark; a HELD quote and an EXPIRED one, while sales are CLOSED and with each
later check failing. -/
theorem witness_issue_refused :
    let closed := fun (x : PortSales) => withSales .terminal x
      { minute940 with sales := { minute940.sales with reasons := [.suspended] } }
    quoted.admits .terminal .issue ∧ (0#8).toNat = 0 ∧ (255#8).toNat ≠ 0 ∧
      quote17.number ≠ (255#8).toNat ∧ (quoted.sales.ports.get .terminal).slot = some quote17 ∧
      ((closed ⟨none, .invalidated 17, 18, none⟩).sales.ports.get .terminal).mark = .invalidated 17 ∧
      (closed ⟨some quote17, .none, 18, none⟩).sales.reasons ≠ [] ∧
      ((closed ⟨none, .expired quote17, 18, none⟩).sales.ports.get .terminal).mark = .expired quote17 ∧
      quoted.sales.reasons = [] ∧ quoted.targetOnSale family = true ∧
      (day812 57840 evening).targetOnSale family = false ∧
      ({ quoted with revoked := quoted.revoked.set 0 (some ⟨0x00A1B2C3D4, 0⟩) } : State).cardRevoked
        family = true ∧ quoted.cardRevoked family = false ∧
      ({ quoted with sales := { quoted.sales with blocks := [] } } : State).sales.remaining = 0 ∧
      ({ quoted with journal := { quoted.journal with nextSequence := lastSequence + 1 } } :
        State).journal.free < 2 ∧ quoted.sales.remaining ≠ 0 ∧
      quoted.computeFare { family with target := some ⟨.today, 9999⟩ } = .noSuch ∧
      ({ quoted with fares := State.reset.fares } : State).computeFare family = .noFare ∧
      quoted.computeFare family = .fare familyFare ∧ familyFare.total = quote17.fare.total ∧
      ({ familyFare with total := 2250 } : Fare).total ≠ familyFare.total := by decide +kernel

/-- The port's own last sale, with a free entry and with none; another serial. -/
theorem witness_void :
    let s := withSales .terminal ⟨none, .none, 18, some ⟨1000100, 1⟩⟩ minute940
    s.admits .terminal .void ∧ (s.sales.ports.get .terminal).lastSale = some ⟨1000100, 1⟩ ∧
      1000100 = (1000100#32).toNat ∧ 1 ≤ s.journal.free ∧ 1000100 ≠ (1000101#32).toNat ∧
      ({ s with journal := { s.journal with nextSequence := lastSequence + 1 } } : State).journal.free =
        0 := by decide

theorem witness_load_periods :
    let open_ : State := { station with supply := { station.supply with load := some ⟨0, 3, 7⟩ } }
    station.admits .terminal .loadBegin ∧ station.supply.load = none ∧
      open_.admits .terminal .loadBegin ∧ open_.supply.load = some ⟨0, 3, 7⟩ ∧
      open_.admits .terminal .loadEnd ∧ open_.core = .up ∧
      open_.admits .terminal .status ∧ statusSectionOf 5 = some .supply ∧
      (let ended : State :=
        { station with supply := { station.supply with load := some ⟨0, 0, 0⟩ } }
       ended.admits .terminal .loadBegin ∧ ended.supply.load = some ⟨0, 0, 0⟩ ∧
        ended.core = .up) := by decide

/-- Serial 0 and 100,000,000; an empty range; an overlap at the horizon; four blocks; a first block. -/
theorem witness_stock_add :
    let full : State := { station with sales := { station.sales with
      blocks := List.replicate 4 ⟨1, 1, 1⟩ } }
    station.admits .link .stockAdd ∧ (0#32).toNat = 0 ∧ 99999999 < (100000000#32).toNat ∧
      ((49#32).toNat + 1) / 100 * 100 - 1 < ((1#32).toNat + 99) / 100 * 100 ∧
      ((1#32).toNat + 99) / 100 * 100 ≤ ((99999999#32).toNat + 1) / 100 * 100 - 1 ∧
      minute940.admits .link .stockAdd ∧ ((1100000#32).toNat + 99) / 100 * 100 ≤
        minute940.sales.horizon ∧
      minute940.sales.horizon < ((1100001#32).toNat + 99) / 100 * 100 ∧ full.admits .link .stockAdd ∧
      4 ≤ full.sales.blocks.length ∧ full.sales.horizon < ((1#32).toNat + 99) / 100 * 100 ∧
      station.sales.blocks.length < 4 := by decide

theorem witness_rvl :
    station.admits .link .rvlWrite ∧ 63 < (64#8).toNat ∧ flagOf 2 = none ∧ (63#8).toNat ≤ 63 ∧
      flagOf 0 = some false ∧ flagOf 1 = some true ∧ station.admits .link .rvlClearAll := by decide

theorem witness_suspend :
    Port.link ≠ .service ∧ station.admits .link .salesSuspend ∧ station.admits .link .salesResume ∧
      minute940.admits .service .salesSuspend ∧ minute940.sales.reasons.Sublist Reason.all ∧
      .suspended ∉ minute940.sales.reasons ∧
      (let s : State := { station with sales := { station.sales with
        reasons := [.noTime, .suspended] } }
       s.admits .service .salesSuspend ∧ s.sales.reasons.Sublist Reason.all ∧
        .suspended ∈ s.sales.reasons) := by decide

theorem witness_sales_timers :
    let s := withSales .terminal ⟨some { quote17 with timer := 0 }, .none, 18, some ⟨1000100, 0⟩⟩
      minute940
    s.core = .up ∧ (s.sales.ports.get .terminal).slot = some { quote17 with timer := 0 } ∧
      (s.sales.ports.get .terminal).lastSale = some ⟨1000100, 0⟩ ∧
      ({ s with sales := { s.sales with silence := some 0 } } : State).sales.silence = some 0 := by decide

/-- Each refusal of R106 and R114, and the take at maximum 1 and 32. -/
theorem witness_batch_take :
    let s := upload 3
    station.admits .link .batchTake ∧ (0#8).toNat = 0 ∧ 32 < (33#8).toNat ∧ 1 ≤ (1#8).toNat ∧
      (32#8).toNat ≤ 32 ∧ (uploading .link).admits .link .batchTake ∧
      (uploading .link).journal.batch.isSome = true ∧ s.admits .link .batchTake ∧
      s.journal.batch = none ∧ (∃ e ∈ s.journal.entries, e.state = .unsent) ∧
      (∀ e ∈ (upload 0).journal.entries, e.state = .inFlight) ∧
      ({ s with scheduler := ⟨.held, 16, none, none⟩ } : State).scheduler.state ≠ .due ∧
      s.journal.entries.length < 1536 ∧ s.scheduler.state = .due ∧ Port.service ≠ .link := by decide

/-- A journal in order, with a batch in flight and without one. -/
theorem witness_journal_ok : (upload 3).journal.ok ∧ (uploading .link).journal.ok := by
  constructor
  · refine ⟨by decide, by decide, by decide, ?_,
      (by intro e h; revert e; decide : ∀ e ∈ (upload 3).journal.entries, e.state = .unsent),
      by decide⟩
    intro i e h
    match i, h with
    | 0, h => cases h; rfl
    | 1, h => cases h; rfl
    | 2, h => cases h; rfl
    | n + 3, h => simp [upload] at h
  · refine ⟨by decide, by decide, by decide, ?_, ?_, by decide⟩
    · intro i e h
      match i, h with
      | 0, h => cases h; rfl
      | 1, h => cases h; rfl
      | 2, h => cases h; rfl
      | n + 3, h => simp [uploading] at h
    · refine ⟨by decide, by decide, by decide, by decide, ?_⟩
      intro i e h
      match i, h with
      | 0, h => cases h; decide
      | 1, h => cases h; decide
      | 2, h => cases h; decide
      | n + 3, h => simp [uploading] at h

/-- Batch id 0, a stale id, another port, and the batch itself; JOURNAL_FULL's limit crossed. -/
theorem witness_batch_ends :
    let s := uploading .link
    s.admits .link .batchAck ∧ s.admits .link .batchFail ∧ (0#16).toNat = 0 ∧ (65535#16).toNat ≠ 0 ∧
      s.journal.batch = some ⟨311, .link, 5121, 2, 64800, 300⟩ ∧ 311 ≠ (65535#16).toNat ∧
      311 = (311#16).toNat ∧ s.admits .service .batchAck ∧ Port.link ≠ .service ∧ s.core = .up ∧
      2 ≤ s.journal.free ∧ station.admits .link .batchFail ∧ station.journal.batch = none ∧
      (overdue .link).journal.batch = some ⟨311, .link, 5121, 2, 64800, 0⟩ ∧
      (overdue .link).core = .up := by decide

theorem witness_resume_and_wait :
    let s : State := { upload 1 with scheduler := ⟨.waiting, 1, some 0, some 65130⟩ }
    s.admits .link .linkResume ∧ s.admits .service .linkResume ∧ Port.service ≠ .link ∧
      s.core = .up ∧ s.scheduler.wait = some 0 := by decide

/-- Address 0 and 9, rows 0 and 5, a configured panel and an unconfigured one. -/
theorem witness_panel_config :
    let s := display .idle []
    Port.link ≠ .service ∧ s.admits .link .panelConfig ∧ s.admits .service .panelConfig ∧
      (0#8).toNat = 0 ∧ 8 < (9#8).toNat ∧ flagOf 2 = none ∧ (1#8).toNat = (0 : Fin 8).val + 1 ∧
      (8#8).toNat = (7 : Fin 8).val + 1 ∧ flagOf 0 = some false ∧ flagOf 1 = some true ∧
      (s.panel 0).configured = true ∧ (s.panel 7).configured = false ∧ panelDirectionsOf 3 = none ∧
      4 < (5#8).toNat ∧ panelDirectionsOf 2 = some .both ∧ 1 ≤ (4#8).toNat ∧ (4#8).toNat ≤ 4 := by decide

/-- A level not seen, an equal one, a change; the idle timer with E 15 and 16 minutes ahead. -/
theorem witness_presence :
    let s := fun (minute : Nat) => ({ display .idle [] with
      compositor := { (display .idle []).compositor with presenceSeen := true, idle := some 0 }
      store := (day812 56400 [call 2071 .down minute]).store } : State)
    station.compositor.idle = some 600 ∧ 1 ≤ station.compositor.sleepAfter ∧ (s 955).core = .up ∧ station.compositor.presenceSeen = false ∧
      (s 955).compositor.presenceSeen = true ∧ (s 955).compositor.occupied = false ∧
      (s 955).compositor.idle = some 0 ∧ (s 955).compositor.group = .awake ∧
      (∃ c ∈ callsOf (s 955).store.today, c.removed = false ∧
        c.expected ≤ (s 955).clock.second / 60 + 15) ∧
      ¬ (∃ c ∈ callsOf (s 956).store.today, c.removed = false ∧
        c.expected ≤ (s 956).clock.second / 60 + 15) := by decide

/-- Every controller state, both pacings, an interval in force of 0, and a running transaction. -/
theorem witness_display_control :
    (display .stopped []).admits .service .displayControl ∧ (display .stopped []).bus.state = .stopped ∧
      (display .stopped []).bus.pacing = .interval ∧ (display .stopped []).intervalInForce ≠ 0 ∧
      (let s : State := { display .stopped [] with
          bus := { (display .stopped []).bus with interval := 0 } }
       s.bus.state = .stopped ∧ s.intervalInForce = 0) ∧
      (let s : State := { display .stopped [] with
          bus := { (display .stopped []).bus with pacing := .trigger } }
       s.bus.state = .stopped ∧ s.bus.pacing = .trigger) ∧
      (display .idle []).bus.state = .idle ∧ (display .fault []).bus.state = .fault ∧
      (display .running [⟨0, .wake⟩]).bus.state = .running ∧
      (display .running [⟨0, .wake⟩]).inProgress.isSome = true ∧
      (display .running []).inProgress = none ∧
      (display (.recovering .auto) []).bus.state = .recovering .auto ∧ Port.link ≠ .service ∧
      (display .idle []).admits .link .displayControl ∧ (display .idle []).bus.state ≠ .fault ∧
      flagOf 2 = none ∧ flagOf 1 = some true := by decide

/-- PACING: unknown settings; each old and new pacing; the interval in force to and from 0. -/
theorem witness_pacing :
    let s := fun (p : Pacing) (n : Nat) => ({ display .idle [] with
      bus := { (display .idle []).bus with pacing := p, interval := n } } : State)
    (s .interval 0).admits .service .displayControl ∧ pacingOf 2 = none ∧ polarityOf 2 = none ∧
      pacingOf 0 = some .interval ∧ pacingOf 1 = some .trigger ∧ polarityOf 0 = some .rising ∧
      (s .trigger 5).bus.pacing = .trigger ∧ (s .interval 0).intervalInForce = 0 ∧
      (s .interval 60).intervalInForce ≠ 0 ∧
      intervalFor (min (0#8).toNat 60) (s .interval 60).supply.state = 0 ∧
      intervalFor (min (255#8).toNat 60) (s .interval 60).supply.state = 60 ∧
      (s .interval 60).bus.state = .idle ∧ (display .stopped []).bus.state = .stopped ∧
      (display .running []).bus.state ≠ .idle ∧ (display .running []).bus.state ≠ .stopped := by decide

/-- The timer stopped and running; an edge of the polarity's level with the gate open and shut. -/
theorem witness_frame_starts :
    let s := fun (high : Bool) (since : Option Nat) => ({ display .idle [] with
      supply := { station.supply with state := .economy }
      bus := { (display .idle []).bus with
        pacing := .trigger, triggerHigh := high, firstEdge := false, sinceFrame := since } } : State)
    station.core = .up ∧ station.bus.frameTimer = none ∧
      (frameDueNow (display .idle [])).bus.frameTimer = some 0 ∧
      ({ station with bus := { station.bus with probes := Vector.replicate 8 (some 0) } } :
        State).bus.probes[(7 : Fin 8)] = some 0 ∧
      (display (.recovering .auto) []).bus.state = .recovering .auto ∧
      station.bus.triggerSeen = false ∧ (s false none).bus.triggerSeen = true ∧
      (s false none).bus.triggerHigh ≠ true ∧ (s false none).bus.pacing = .trigger ∧
      (true = true ↔ (s false none).bus.polarity = .rising) ∧
      (s false (some 19)).gateOpen = false ∧ (s false (some 20)).gateOpen = true ∧
      (s false none).gateOpen = true ∧ (s true none).bus.triggerHigh ≠ false := by decide

/-- A frame of two panels: auto-recovery on and off; an empty list, endless and at the last of a count; frames
back to back, of a panel, of a counted run and without an end. -/
theorem witness_frame_begins :
    let s := display .idle []
    s.buildList false ≠ [] ∧ s.bus.autoRecovery = true ∧
      ({ s with bus := { s.bus with autoRecovery := false } } : State).bus.autoRecovery = false ∧
      station.buildList false = [] ∧ station.buildList true = [] ∧ station.bus.remaining = none ∧
      ({ s with bus := { s.bus with remaining := some 1 } } : State).bus.remaining = some 1 ∧
      (backToBack .idle 0 (some 2)).bus.remaining = some 2 ∧
      (backToBack .idle 0 (some 2)).buildList false = [] ∧
      (let d := backToBack .idle 0 none
       s.messageNow = none ∧ (s.panel 0).rows = 2 ∧ (s.panel 1).rows ≤ 1 ∧
        station.messageNow = some .timeUnknown ∧
       d.core = .up ∧ d.bus.state = .idle ∧ d.bus.startDue = true ∧ d.bus.pacing = .interval ∧
        d.intervalInForce = 0 ∧ d.buildList true = [] ∧ d.buildList false = [] ∧
        (setPanel 7 (shown 1 7 .both) d).buildList false ≠ []) ∧
      (backToBack .idle 0 (some 0)).bus.remaining.isSome = true := by decide

/-- A transaction of each kind in progress; the stop mark, the end of the list, a next one, and one passed over
because its panel waits to sleep. -/
theorem witness_transaction_ends :
    let s := fun (k : TransactionKind) => display .running [⟨0, k⟩, ⟨1, .readStatus⟩]
    (s .sleep).core = .up ∧ (s .sleep).inProgress = some ⟨0, .sleep⟩ ∧
      (s .wake).inProgress = some ⟨0, .wake⟩ ∧ (s .readStatus).inProgress = some ⟨0, .readStatus⟩ ∧
      (s (.writeRows 7 [.blank, .blank])).inProgress = some ⟨0, .writeRows 7 [.blank, .blank]⟩ ∧
      station.inProgress = none ∧ (s .sleep).bus.stopMark = false ∧
      (s .sleep).bus.list[(s .sleep).bus.position + 1]? = some ⟨1, .readStatus⟩ ∧
      (display .running [⟨0, .wake⟩]).bus.list.length = (display .running [⟨0, .wake⟩]).bus.position + 1 ∧
      (display .running [⟨0, .wake⟩]).backToBack = false ∧ ((s .sleep).panel 0).state = .awake ∧
      (s .sleep).bus.autoRecovery = true ∧ (s .sleep).bus.tried = false ∧
      ({ s .sleep with bus := { (s .sleep).bus with tried := true } } : State).bus.tried = true ∧
      ({ s .sleep with bus := { (s .sleep).bus with stopMark := true } } : State).bus.stopMark = true ∧
      ((s .readStatus).panel 0).lastStatus = .ok ∧ ((s .readStatus).panel 0).state ≠ .unconfigured ∧
      ((setPanel 1 { shown 1 7 .down with pending := .sleep } (s .sleep)).panel 1).entitled = false ∧
      ((s .sleep).panel 0).misses ≤ 1 ∧
      2 ≤ ((setPanel 0 { shown 2 7 .both with misses := 2 } (s .sleep)).panel 0).misses := by decide

theorem witness_stuck_clock_and_recovery :
    (display .running [⟨0, .wake⟩]).core = .up ∧
      (display .running [⟨0, .wake⟩]).bus.state = .running ∧
      (display .fault []).bus.state = .fault ∧
      (let s := display (.recovering .auto) [⟨1, .wake⟩]
       s.bus.state = .recovering .auto ∧ s.bus.stopMark = false ∧
        s.bus.list[s.bus.position]? = some ⟨1, .wake⟩ ∧ s.isWithdrawn ⟨1, .wake⟩ = false) ∧
      (display (.recovering .manual) []).bus.state = .recovering .manual ∧
      (display (.recovering .manual) []).bus.stopMark = false ∧
      (display (.recovering .manual) []).backToBack = false := by decide

theorem witness_supply_levels :
    station.admits .service .supplyLevels ∧ 7 < (8#8).toNat ∧ (4#8).toNat ≤ (4#8).toNat ∧
      (7#8).toNat ≤ 7 ∧ (6#8).toNat < (7#8).toNat ∧ (0#8).toNat < (1#8).toNat := by decide

/-- A monitor in order, its runs one below their limits, in each supply state. -/
theorem witness_supply_ok :
    ({ station.supply with reserveRun := 2, economyRun := 2 } : Supply).ok ∧
      ({ station.supply with state := .economy, reserveRun := 2, upgradeRun := 29, sampleTimer := 0 } :
        Supply).ok ∧
      ({ station.supply with state := .reserve, upgradeRun := 29, load := some ⟨0, 20, 60⟩ } :
        Supply).ok ∧ station.core = .up := by
  refine ⟨⟨by decide, by decide, by decide, by decide, by decide, ?_⟩,
    ⟨by decide, by decide, by decide, by decide, by decide, ?_⟩,
    ⟨by decide, by decide, by decide, by decide, by decide, ?_⟩, by decide⟩
  · intro l h; cases h
  · intro l h; cases h
  · intro l h; cases h; decide

/-- A sample at the economy level and 1 mV below it, and the third of a run. -/
theorem witness_sample :
    let x := { station.supply with reserveRun := 2, economyRun := 2 }
    let at_ := fun (n : Nat) (b : BusState) (y : SupplyState) =>
      ({ display b [] with
        supply := { station.supply with state := y }
        bus := { (display b []).bus with interval := n } } : State)
    (at_ 0 .idle .normal).intervalInForce = 0 ∧ (at_ 0 .idle .economy).intervalInForce = 4 ∧
      intervalFor 0 .normal = 0 ∧ intervalFor 0 .economy = 4 ∧ intervalFor 0 .reserve = 60 ∧
      (at_ 5 .stopped .normal).bus.state = .stopped ∧ (at_ 5 .idle .normal).bus.pacing = .interval ∧
      ({ station.journal with nextSequence := lastSequence + 1 } : Journal).free < 3 ∧
    ¬ (11800 < 11000 + x.economy * 200) ∧ 11799 < 11000 + x.economy * 200 ∧
      11199 < 11000 + x.reserve * 200 ∧ 3 ≤ x.reserveRun + 1 ∧ x.state = .normal ∧
      3 ≤ station.journal.free ∧ sampling.supply.sampleTimer = 0 ∧ sampling.core = .up := by decide

theorem witness_notices_and_rights :
    station.admits .link .readNotices ∧ 8192 ≤ (8192#16).toNat ∧ (8191#16).toNat < 8192 ∧
      Port.link ≠ .service ∧ station.admits .link .setRights ∧ station.admits .service .setRights ∧
      portOf 3 = none ∧ 64 ≤ (64#8).toNat ∧ portOf 2 = some .service ∧
      (0x2F#8).toNat.testBit 4 = false ∧ portOf 0 = some .terminal ∧ (63#8).toNat < 64 ∧
      (63#8).toNat.testBit 4 = true := by decide

/-- From the link port, of the service port and of a port 3; and the line's states. -/
theorem witness_port_reset :
    (uploading .link).admits .link .portReset ∧ (uploading .link).admits .service .portReset ∧
      portOf 3 = none ∧ portOf 2 = some .service ∧ portOf 1 = some .link ∧ Port.link ≠ .service ∧
      State.reset.core = .up ∧ (State.reset.ports.get .link).lineSeen = false ∧
      (station.ports.get .link).lineSeen = true ∧ (station.ports.get .link).condition = .run ∧
      ((setPort .link { openPort with condition := .held } station).ports.get .link).condition = .held ∧
      (uploading .link).journal.batch = some ⟨311, .link, 5121, 2, 64800, 300⟩ ∧
      (setStaging (some staged) station).store.staging = some staged ∧ staged.holder = .link := by decide

/-- A run past 24, a reset from the terminal port, and runs of 1 and of all 24. -/
theorem witness_read_counters :
    station.admits .link .readCounters ∧ station.admits .terminal .readCounters ∧ flagOf 2 = none ∧
      (0#8).toNat = 0 ∧ 24 < (24#8).toNat + (2#8).toNat - 1 ∧ (1#8).toNat + (24#8).toNat ≤ 25 ∧
      (24#8).toNat + (1#8).toNat ≤ 25 ∧ flagOf 1 = some true ∧ flagOf 0 = some false := by decide

/-- Room for START(WARM) and none; a clock past the store's day; the run mark in both pacings. -/
theorem witness_starts :
    3 ≤ station.journal.free ∧
      ({ station.journal with nextSequence := lastSequence + 1 } : Journal).free < 3 ∧
      ({ minute940 with clock := { minute940.clock with day := 813 } } : State).clock.day >
        minute940.store.storeDay ∧ minute940.clock.valid = true ∧
      ((display .idle []).panel 0).configured = true ∧ station.bus.runMark = false ∧
      (display .idle []).bus.runMark = true ∧ (display .idle []).bus.pacing = .interval ∧
      ({ station with core := .down } : State).core = .down ∧ station.core = .up := by decide

/-! ### The invariants hold in a working state, and a step from it answers next -/

/-- Day 812 with quote 17 HELD, a card revoked, and a second about to elapse. -/
def working : State :=
  { quoted with
    revoked := (Vector.replicate 64 none).set 63 (some ⟨2 ^ 40 - 1, 16⟩), pending := [.clockSecond] }

theorem witness_step_answers_next :
    (∃ t, step working = .next t) ∧ ∃ t, step { display .idle [] with pending := [.clockSecond] } = .next t :=
  ⟨⟨_, rfl⟩, ⟨_, rfl⟩⟩

theorem witness_working_journal_ok : working.journal.ok where
  size := by decide
  room := by decide
  next := by decide
  consecutive := by
    intro i e h
    match i, h with
    | 0, h => cases h; rfl
    | n + 1, h => simp [working, quoted, withSales, setSales, minute940, day812, station, State.reset] at h
  batch := (by intro e h; revert e; decide : ∀ e ∈ working.journal.entries, e.state = .unsent)
  batchId := by decide

theorem witness_reasons_ok : working.reasonsOk :=
  ⟨by decide, by decide, by decide, by decide, by decide, by decide⟩

/-- The calls of the evening are in order and in range. -/
theorem witness_table_ok : (⟨812, .weekday, 3, evening⟩ : DayTable).ok where
  version := by decide
  count := by decide
  ordered := by
    have h : evening.Pairwise (fun a b =>
      a.scheduled < b.scheduled ∨ (a.scheduled = b.scheduled ∧ a.service < b.service)) := by decide
    exact h
  unique := by decide
  calls := by
    intro c h
    simp only [evening, List.mem_cons, List.not_mem_nil, or_false] at h
    rcases h with rfl | rfl | rfl | rfl
    · exact ⟨by decide, by decide, by decide, (by intro r h; cases h), by decide⟩
    · exact ⟨by decide, by decide, by decide, (by intro r h; cases h; decide), by decide⟩
    · exact ⟨by decide, by decide, by decide, (by intro r h; cases h), by decide⟩
    · exact ⟨by decide, by decide, by decide, (by intro r h; cases h), by decide⟩

theorem witness_tables_ok : working.tablesOk where
  second := by decide
  today := by
    intro t h
    cases h
    exact ⟨witness_table_ok, by decide, by decide⟩
  tomorrow := by intro t h; cases h
  invalid := by intro h; cases h
  day := by decide
  notPast := by decide
  staging := by intro g h; cases h

theorem witness_quotes_ok : working.quotesOk := by
  intro p q r hq hr
  match p, hq with
  | .terminal, .inl h => cases h; cases hr; exact ⟨call 2047 .down 965, by decide, by decide⟩
  | .terminal, .inr h => cases h
  | .link, .inl h => cases h
  | .link, .inr h => cases h
  | .service, .inl h => cases h
  | .service, .inr h => cases h

theorem witness_stock_ok : working.sales.stockOk :=
  ⟨by decide, by decide, by decide, by decide, by decide, by decide⟩

theorem witness_fares_ok : working.fares.ok := witness_fare_tables_ok

theorem witness_revoked_ok : working.revokedOk := by
  intro e h
  have all : working.revoked.toList.all (fun x => match x with
      | none => true
      | some e => decide (e.card < 2 ^ 40 ∧ e.ignore ≤ 16)) = true := by decide
  simpa using List.all_eq_true.mp all _ h

theorem witness_working_supply_ok : working.supply.ok :=
  ⟨by decide, by decide, by decide, by decide, by decide, by intro l h; cases h⟩

theorem witness_ports_ok : working.portsOk :=
  ⟨by intro c; cases c <;> decide, by intro p; cases p <;> decide, by intro p; cases p <;> decide,
    by decide, by decide⟩

/-- An IDLE controller with two panels, its frame timer running. -/
theorem witness_bus_ok : ({ display .idle [] with pending := [.clockSecond] } : State).busOk where
  mark := by decide
  running := by decide
  list := by decide
  cause := by decide
  stop := by intro h; cases h
  timer := by decide
  due := by decide
  settings := by decide
  panels := by
    have h : ∀ i : Fin 8, let r := (display .idle []).panel i
        (r.configured = false ↔ r.state = .unconfigured) ∧ (1 ≤ r.rows ∧ r.rows ≤ 4) ∧
          r.brightness ≤ 7 ∧ r.misses ≤ 3 ∧
          (r.state = .unconfigured → r.pending = .none ∧ r.misses = 0) := by decide
    intro i
    obtain ⟨a, b, c, d, e⟩ := h i
    exact ⟨a, b, c, d, e⟩
  sleepAfter := by decide

end Sys2Proof.Tests
end

section
/-! PROOFS. The station clock and the timetable store (chapter 1): TIME_SET to a later day, the day boundary,
and the opening and the discarding of staging. -/

namespace Sys2Proof.Machine

/-! ## An owner that does the same before and after the hearing -/

/-- A request whose owner decides the same, and makes the same change, whether or not its frame has just been
heard is answered with what the owner does to the state before the hearing. -/
theorem request_of_hears {p : Port} {c : ReqCode} {body : List Byte} {owner : Owner} {s : State}
    (h : s.admits p c) (fit : c.fits body = true)
    (own : ∀ n, owner (hear p n s) = (hear p n (owner s).1, (owner s).2)) :
    request p c body owner s = answered p c.byte body.length (owner s).2 (owner s).1 :=
  request_answered h fit (own _)

/-! ## The timetable's operations and the hearing of a frame -/

section Hearing

variable (p : Port) (n : Nat) (s : State)

@[simp] theorem hear_needToday : needToday (hear p n s) = hear p n (needToday s) := by
  unfold needToday; simp only [hear_store]; split <;> simp

@[simp] theorem hear_tellTomorrow (moved : Bool) :
    tellTomorrow moved (hear p n s) = hear p n (tellTomorrow moved s) := by
  unfold tellTomorrow; simp only [hear_store]; (repeat' split) <;> simp

@[simp] theorem hear_dayBoundary (k : DayKind) :
    dayBoundary k (hear p n s) = hear p n (dayBoundary k s) := by
  simp [dayBoundary]

@[simp] theorem hear_lapseCall (c : Call) : lapseCall c (hear p n s) = hear p n (lapseCall c s) := by
  simp [lapseCall]

@[simp] theorem hear_lapseCalls : lapseCalls (hear p n s) = hear p n (lapseCalls s) := by
  simp only [lapseCalls, hear_store, hear_clock]
  generalize (callsOf s.store.today).filter _ = due
  induction due generalizing s with
  | nil => rfl
  | cons c due ih => simp only [List.foldl_cons, hear_lapseCall, ih]

@[simp] theorem hear_flagCalls : flagCalls (hear p n s) = hear p n (flagCalls s) := by
  simp [flagCalls]

@[simp] theorem hear_eveningTest : eveningTest (hear p n s) = hear p n (eveningTest s) := by
  unfold eveningTest; simp only [hear_store, hear_clock]; split <;> simp

@[simp] theorem hear_groupSleep : groupSleep (hear p n s) = hear p n (groupSleep s) := by
  cases p <;> rfl

@[simp] theorem hear_groupWake : groupWake (hear p n s) = hear p n (groupWake s) := by
  cases p <;> rfl

@[simp] theorem hear_horizonTest : horizonTest (hear p n s) = hear p n (horizonTest s) := by
  unfold horizonTest
  simp only [hear_store, hear_clock, hear_compositor]
  (repeat' split) <;> simp

@[simp] theorem hear_minuteTick : minuteTick (hear p n s) = hear p n (minuteTick s) := by
  simp [minuteTick]

@[simp] theorem hear_timeFirst (c : Clock) :
    timeFirst c (hear p n s) = hear p n (timeFirst c s) := by
  simp [timeFirst]

@[simp] theorem hear_timeWithin (k : DayKind) (second : Nat) :
    timeWithin k second (hear p n s) = hear p n (timeWithin k second s) := by
  have kind : (hear p n s).kindWithin k = s.kindWithin k := by
    unfold State.kindWithin; simp only [hear_store, hear_clock]
  unfold timeWithin
  simp only [kind, hear_store, hear_clock, hear_setClock, hear_setStore]
  split <;> simp

@[simp] theorem hear_timeLater (day : Nat) (k : DayKind) (second : Nat) :
    timeLater day k second (hear p n s) = hear p n (timeLater day k second s) := by
  simp [timeLater]

theorem hear_timeSet (f : TimeSetBody) :
    timeSet f (hear p n s) = (hear p n (timeSet f s).1, (timeSet f s).2) := by
  unfold timeSet
  simp only [hear_clock, hear_timeFirst, hear_timeWithin, hear_timeLater]
  (repeat' split) <;> rfl

@[simp] theorem hear_touchStaging (q : Port) :
    touchStaging q (hear p n s) = hear p n (touchStaging q s) := by
  unfold touchStaging; simp only [hear_store, hear_setStaging]; (repeat' split) <;> rfl

theorem hear_ttBegin (q : Port) (f : TtBeginBody) :
    ttBegin q f (hear p n s) = (hear p n (ttBegin q f s).1, (ttBegin q f s).2) := by
  unfold ttBegin
  simp only [hear_touchStaging, hear_store, hear_setStaging]
  (repeat' split) <;> rfl

end Hearing

/-! ## The two requests whole -/

variable {s : State} {p : Port}

/-- An admitted TIME_SET is answered with what its owner decides. -/
theorem exec_timeSet_of_admits (h : s.admits p .timeSet) (f : TimeSetBody) :
    exec (.timeSet p (.fields f)) s =
      .next (settle (answered p ReqCode.timeSet.byte 6 (timeSet f s).2 (timeSet f s).1)) :=
  congrArg (fun t => Host.Outcome.next (settle t))
    (request_of_hears (body := writeTimeSet f) (owner := timeSet f) h rfl
      (fun n => hear_timeSet p n s f))

/-- An admitted TT_BEGIN is answered with what its owner decides. -/
theorem exec_ttBegin_of_admits (h : s.admits p .ttBegin) (f : TtBeginBody) :
    exec (.ttBegin p (.fields f)) s =
      .next (settle (answered p ReqCode.ttBegin.byte 6 (ttBegin p f s).2 (ttBegin p f s).1)) :=
  congrArg (fun t => Host.Outcome.next (settle t))
    (request_of_hears (body := writeTtBegin f) (owner := ttBegin p f) h rfl
      (fun n => hear_ttBegin p n s p f))

/-- TIME_SET to a later day on a VALID clock (R8). -/
theorem timeSet_of_later {f : TimeSetBody} {k : DayKind} (kind : dayKindOf f.kind = some k)
    (second : f.second.toNat ≤ 86399) (valid : s.clock.valid = true) (day : s.clock.day < f.day.toNat) :
    timeSet f s = (timeLater f.day.toNat k f.second.toNat s, .done) := by
  simp only [timeSet, kind, valid]
  rw [if_neg (Nat.not_lt.mpr second), if_neg (by decide), if_neg (by omega), if_neg (by omega)]

/-! ## The day boundary (R9 to R12) -/

/-- TOMORROW whole is the next TODAY when its day is the new one (R9). -/
theorem Store.nextToday_of_day {st : Store} {t : DayTable} (h : st.tomorrow = some t) :
    st.nextToday t.day = some (t.onCalls Call.shown) := by
  simp [Store.nextToday, h]

/-- No TOMORROW of the new day leaves the next TODAY EMPTY (R9). -/
theorem Store.nextToday_eq_none {st : Store} {day : Nat}
    (h : ∀ t, st.tomorrow = some t → t.day ≠ day) : st.nextToday day = none := by
  unfold Store.nextToday
  split
  · rfl
  · exact if_neg (h _ ‹_›)

@[simp] theorem dayBoundary_store (k : DayKind) (s : State) :
    (dayBoundary k s).store =
      { s.store with
        storeDay := s.clock.day, neededMark := false
        today := s.store.nextToday s.clock.day, tomorrow := none } := by
  simp [dayBoundary]

@[simp] theorem dayBoundary_clock (k : DayKind) (s : State) :
    (dayBoundary k s).clock =
      { s.clock with kind := kindAfter (s.store.nextToday s.clock.day) k } := by
  simp [dayBoundary]

/-- The sales controller is told that TODAY was dropped, then of TOMORROW (R10). -/
theorem dayBoundary_sales (k : DayKind) (s : State) :
    (dayBoundary k s).sales =
      (tellTomorrow (s.store.nextToday s.clock.day).isSome (withdrawTable .today s)).sales := by
  simp [dayBoundary]

theorem needToday_ports (s : State) :
    (needToday s).ports = if s.store.today.isNone then (post .timetableNeeded s).ports else s.ports := by
  unfold needToday
  split <;> rfl

/-- A day boundary that leaves TODAY EMPTY notices TIMETABLE_NEEDED, one that fills it notices nothing
(R12). -/
theorem dayBoundary_ports (k : DayKind) (s : State) :
    (dayBoundary k s).ports =
      if (s.store.nextToday s.clock.day).isNone then (post .timetableNeeded s).ports else s.ports := by
  simp [dayBoundary, needToday_ports]

theorem dayBoundary_changesOnly (k : DayKind) (s : State) :
    changesOnly [.clock, .store, .sales, .ports] s (dayBoundary k s) := by
  refine ⟨by simp, fun b hb => ?_⟩
  cases b <;> simp [Block.same] at hb ⊢

/-- What the sales controller is told of TOMORROW changes its per-port records alone. -/
theorem tellTomorrow_sales_eq (moved : Bool) (s : State) :
    (tellTomorrow moved s).sales = { s.sales with ports := (tellTomorrow moved s).sales.ports } := by
  unfold tellTomorrow
  (repeat' split) <;> rfl

theorem dayBoundary_sales_eq (k : DayKind) (s : State) :
    (dayBoundary k s).sales = { s.sales with ports := (dayBoundary k s).sales.ports } := by
  rw [dayBoundary_sales, tellTomorrow_sales_eq, withdrawTable_sales]

/-! ## The quotes at a day boundary (R10, R79) -/

theorem quotesWithdrawn_withdrawTable (t : TableName) (s : State) :
    quotesWithdrawn (fun r => r.table = t) s (withdrawTable t s) := by
  have h := quotesWithdrawn_withdraw (fun r => decide (r.table = t)) s
  simp only [decide_eq_true_eq] at h
  exact h

/-- Two tests that hit the same references withdraw the same quotes. -/
theorem quotesWithdrawn_congr {a b : CallRef → Prop} {s u : State} (h : ∀ r, a r ↔ b r)
    (w : quotesWithdrawn a s u) : quotesWithdrawn b s u := by
  obtain rfl : a = b := funext fun r => propext (h r)
  exact w

/-- A quote's target lies in a table exactly when it names a service id of that table. -/
theorem Quote.target_in_table {q : Quote} {t : TableName} :
    (∃ r, q.request.target = some r ∧ r.table = t) ↔ ∃ n, q.request.target = some ⟨t, n⟩ := by
  constructor
  · rintro ⟨⟨_, n⟩, e, rfl⟩
    exact ⟨n, e⟩
  · rintro ⟨n, e⟩
    exact ⟨_, e, rfl⟩

theorem Quote.repointed_of_tomorrow {q : Quote} {n : Nat} (h : q.request.target = some ⟨.tomorrow, n⟩) :
    q.repointed = { q with request := { q.request with target := some ⟨.today, n⟩ } } := by
  simp [Quote.repointed, h]

theorem Quote.repointed_of_not_tomorrow {q : Quote}
    (h : ∀ n, q.request.target ≠ some ⟨.tomorrow, n⟩) : q.repointed = q := by
  unfold Quote.repointed
  split
  · rfl
  · rename_i r e
    obtain ⟨table, n⟩ := r
    cases table with
    | today => rfl
    | tomorrow => exact absurd e (h n)

theorem PortSales.repointed_mark_of_expired {x : PortSales} {q : Quote} (h : x.mark = .expired q) :
    x.repointed.mark = .expired q.repointed := by
  simp [PortSales.repointed, h]

theorem PortSales.repointed_mark_of_not_expired {x : PortSales} (h : ∀ q, x.mark ≠ .expired q) :
    x.repointed.mark = x.mark := by
  unfold PortSales.repointed
  cases e : x.mark with
  | none => rfl
  | invalidated n => rfl
  | expired q => exact absurd e (h q)

theorem repoint_get (s : State) (p : Port) :
    (repoint s).sales.ports.get p = (s.sales.ports.get p).repointed := by
  cases p <;> rfl

/-- On a move, the sales controller drops what targets the old TODAY and re-points the rest. -/
theorem dayBoundary_sales_of_moved (k : DayKind) {s : State} {t : DayTable}
    (h : s.store.tomorrow = some t) (day : t.day = s.clock.day) :
    (dayBoundary k s).sales = (repoint (withdrawTable .today s)).sales := by
  rw [dayBoundary_sales, ← day, Store.nextToday_of_day h]
  rfl

/-- Without a move, it drops what targets the old TODAY, and what targets a LOADED TOMORROW. -/
theorem dayBoundary_sales_of_dropped (k : DayKind) {s : State}
    (h : ∀ t, s.store.tomorrow = some t → t.day ≠ s.clock.day) :
    (dayBoundary k s).sales =
      if s.store.tomorrow.isSome then (withdrawTable .tomorrow (withdrawTable .today s)).sales
      else (withdrawTable .today s).sales := by
  rw [dayBoundary_sales, Store.nextToday_eq_none h]
  simp only [tellTomorrow, withdrawTable_store, Option.isSome_none, Bool.false_eq_true, if_false]
  exact apply_ite State.sales _ _ _

/-- What a port holds after a move: what targeted the old TODAY is invalidated, the rest is re-pointed. -/
theorem portRecord_of_moved {s : State} (p : Port) :
    let x := s.sales.ports.get p
    let y := (repoint (withdrawTable .today s)).sales.ports.get p
    let dropped := fun q : Quote => ∃ n, q.request.target = some ⟨.today, n⟩
    (∀ q, x.slot = some q → dropped q → y = { x with slot := none, mark := .invalidated q.number }) ∧
    ((∀ q, x.slot = some q → ¬ dropped q) →
      y = { x with slot := x.slot.map Quote.repointed, mark := y.mark } ∧
      (∀ q, x.mark = .expired q →
        (dropped q → y.mark = .invalidated q.number) ∧
        (¬ dropped q → y.mark = .expired q.repointed)) ∧
      ((∀ q, x.mark ≠ .expired q) → y.mark = x.mark)) := by
  intro x y dropped
  have hy : y = ((withdrawTable .today s).sales.ports.get p).repointed := repoint_get _ p
  obtain ⟨hit, stays⟩ := quotesWithdrawn_withdrawTable .today s p
  simp only [Quote.target_in_table] at hit stays
  rw [hy]
  change ∀ q, x.slot = some q → dropped q → _ at hit
  change (∀ q, x.slot = some q → ¬ dropped q) → _ at stays
  generalize (withdrawTable .today s).sales.ports.get p = z at hit stays ⊢
  refine ⟨fun q held gone => ?_, fun keeps => ?_⟩
  · rw [hit q held gone]
    rfl
  · obtain ⟨kept, invalidated, same⟩ := stays keeps
    refine ⟨?_, fun q expired => ⟨fun gone => ?_, fun stay => ?_⟩, fun none => ?_⟩
    · rw [kept]
      rfl
    · have mark : z.mark = .invalidated q.number := invalidated q expired gone
      rw [PortSales.repointed_mark_of_not_expired (by simp [mark]), mark]
    · refine PortSales.repointed_mark_of_expired ((same fun q' expired' => ?_).trans expired)
      obtain rfl : q = q' := QuoteMark.expired.inj (expired.symm.trans expired')
      exact stay
    · have mark : z.mark = x.mark := same fun q expired => absurd expired (none q)
      rw [PortSales.repointed_mark_of_not_expired (mark ▸ none), mark]

/-- A quote or record that targets TODAY after a boundary targeted the same service id in TOMORROW before
it. -/
theorem holds_of_dayBoundary {k : DayKind} {s : State} {p : Port} {q : Quote} {r : CallRef}
    (held : ((dayBoundary k s).sales.ports.get p).holds q) (target : q.request.target = some r)
    (today : r.table = .today) :
    ∃ q', (s.sales.ports.get p).holds q' ∧ q'.number = q.number ∧
      q'.request.target = some ⟨.tomorrow, r.service⟩ := by
  by_cases move : ∃ t, s.store.tomorrow = some t ∧ t.day = s.clock.day
  · obtain ⟨t, h, day⟩ := move
    rw [dayBoundary_sales_of_moved k h day] at held
    obtain ⟨q', held', rfl⟩ := holds_of_repoint held
    rw [Quote.repointed_target, Option.map_eq_some_iff] at target
    obtain ⟨⟨table, n⟩, target', rfl⟩ := target
    obtain ⟨before, other⟩ := holds_of_withdrawTable held' target'
    refine ⟨q', before, q'.repointed_number.symm, ?_⟩
    cases table with
    | today => exact absurd rfl other
    | tomorrow => exact target'
  · rw [dayBoundary_sales_of_dropped k (fun t h day => move ⟨t, h, day⟩)] at held
    have held' : ((withdrawTable .today s).sales.ports.get p).holds q := by
      split at held
      · exact (holds_of_withdraw held).1
      · exact held
    exact absurd today (holds_of_withdrawTable held' target).2

/-- A boundary without a move withdraws the quotes on the old TODAY, and on a LOADED TOMORROW. -/
theorem quotesWithdrawn_of_dropped (k : DayKind) {s : State}
    (h : ∀ t, s.store.tomorrow = some t → t.day ≠ s.clock.day) :
    quotesWithdrawn (fun r => r.table = .today ∨ s.store.tomorrow.isSome = true) s
      (dayBoundary k s) := by
  have today := quotesWithdrawn_withdrawTable .today s
  have sales := dayBoundary_sales_of_dropped k h
  split at sales
  · rename_i loaded
    have both := quotesWithdrawn_trans today (quotesWithdrawn_withdrawTable .tomorrow _)
    refine quotesWithdrawn_congr (fun r => ?_)
      (quotesWithdrawn_of_same both (congrArg Sales.ports sales))
    cases r.table <;> simp [loaded]
  · rename_i empty
    exact quotesWithdrawn_congr (fun r => (or_iff_left empty).symm)
      (quotesWithdrawn_of_same today (congrArg Sales.ports sales))

/-! ## The boundary's store, clock and notices -/

/-- A TOMORROW of the new day becomes TODAY, and nothing is noticed (R9, R11, R12). -/
theorem dayBoundary_of_moved (k : DayKind) {s : State} {t : DayTable}
    (h : s.store.tomorrow = some t) (day : t.day = s.clock.day) :
    (dayBoundary k s).store.today = some (t.onCalls Call.shown) ∧
      (dayBoundary k s).clock = { s.clock with kind := t.kind } ∧
      (dayBoundary k s).ports = s.ports := by
  have new := Store.nextToday_of_day h
  rw [day] at new
  rw [dayBoundary_store, dayBoundary_clock, dayBoundary_ports, new]
  exact ⟨rfl, rfl, rfl⟩

/-- Without a TOMORROW of the new day TODAY is EMPTY, the fallback kind stands, and TIMETABLE_NEEDED is noticed
(R9, R11, R12). -/
theorem dayBoundary_of_dropped (k : DayKind) {s : State}
    (h : ∀ t, s.store.tomorrow = some t → t.day ≠ s.clock.day) :
    (dayBoundary k s).store.today = none ∧
      (dayBoundary k s).clock = { s.clock with kind := k } ∧
      (dayBoundary k s).ports = (post .timetableNeeded s).ports := by
  rw [dayBoundary_store, dayBoundary_clock, dayBoundary_ports, Store.nextToday_eq_none h]
  exact ⟨rfl, rfl, rfl⟩

/-- The recipients of TIMETABLE_NEEDED hold it after it has been posted. -/
theorem hasNotice_timetableNeeded {s u : State} (h : u.ports = (post .timetableNeeded s).ports)
    (p : Port) (recipient : p ∈ Notice.recipients .timetableNeeded) : u.hasNotice p .timetableNeeded := by
  have posted : (post .timetableNeeded s).hasNotice p .timetableNeeded :=
    hasNotice_post.mpr (.inr ⟨recipient, rfl⟩)
  simpa only [State.hasNotice, h] using posted

/-- Settles O8: the request is the owner's by `timeSet_of_later`, and the boundary's clauses split on whether
TOMORROW moves. -/
theorem laterDayRollsTables : Obligations.LaterDayRollsTables := by
  unfold Obligations.LaterDayRollsTables
  refine ⟨fun p f k s h kind second valid day => ?_, fun k s => ⟨fun t h day => ?_, fun h => ?_, ?_⟩⟩
  · rw [exec_timeSet_of_admits h, timeSet_of_later kind second valid day]
    rfl
  · obtain ⟨today, clock, ports⟩ := dayBoundary_of_moved k h day
    exact ⟨today, clock, portsKeptButNotices_of_eq ports,
      fun p n => by simp only [State.hasNotice, ports]⟩
  · obtain ⟨today, clock, ports⟩ := dayBoundary_of_dropped k h
    exact ⟨today, clock, hasNotice_timetableNeeded ports .link (by decide),
      hasNotice_timetableNeeded ports .service (by decide)⟩
  · refine ⟨by simp, by simp, by simp, by simp,
      fun p q held r target today => holds_of_dayBoundary held target today,
      fun t h day p => ?_, fun h => quotesWithdrawn_of_dropped k h, dayBoundary_sales_eq k s,
      dayBoundary_changesOnly k s⟩
    intro x y dropped moved
    have repointed : moved = Quote.repointed := by
      funext q
      dsimp only [moved]
      split
      · rename_i n e
        exact (Quote.repointed_of_tomorrow e).symm
      · rename_i other
        exact (Quote.repointed_of_not_tomorrow other).symm
    have record := portRecord_of_moved (s := s) p
    rw [← dayBoundary_sales_of_moved k h day, ← repointed] at record
    exact record

/-! ## Staging opened, refused and left alone (R16) -/

/-- Valid fields give the staging that TT_BEGIN would open (R16). -/
theorem stagingOf_of_valid {f : TtBeginBody} {k : DayKind} (kind : dayKindOf f.kind = some k)
    (version : f.version.toNat ≠ 0) (low : 1 ≤ f.count.toNat) (high : f.count.toNat ≤ 96) :
    stagingOf p f =
      some
        { holder := p, day := f.day.toNat, kind := k, version := f.version.toNat
          count := f.count.toNat, next := 0, calls := [], idle := 60 } := by
  simp only [stagingOf, kind]
  exact if_neg (by omega)

/-- A wrong field gives none (R16). -/
theorem stagingOf_eq_none {f : TtBeginBody}
    (wrong : dayKindOf f.kind = none ∨ f.version.toNat = 0 ∨ f.count.toNat = 0 ∨ 96 < f.count.toNat) :
    stagingOf p f = none := by
  unfold stagingOf
  split
  · rfl
  · rename_i k kind
    exact if_pos (wrong.resolve_left (by simp [kind]))

theorem Store.stagedByOther_eq_false {st : Store}
    (h : ∀ g, st.staging = some g → g.holder = p) : st.stagedByOther p = false := by
  unfold Store.stagedByOther
  split
  · rfl
  · simpa using h _ ‹_›

theorem Store.stagedByOther_eq_true {st : Store} {g : Staging} (h : st.staging = some g)
    (other : g.holder ≠ p) : st.stagedByOther p = true := by
  simp [Store.stagedByOther, h, other]

/-- The holder's idle timer restarts. -/
theorem touchStaging_of_holder {g : Staging} (h : s.store.staging = some g) (own : g.holder = p) :
    touchStaging p s = setStaging (some { g with idle := 60 }) s := by
  simp [touchStaging, h, own]

/-- A staging that another port holds, or none, is left alone. -/
theorem touchStaging_of_not_holder (h : ∀ g, s.store.staging = some g → g.holder ≠ p) :
    touchStaging p s = s := by
  unfold touchStaging
  split
  · rfl
  · exact if_neg (h _ ‹_›)

/-- TT_BEGIN with a wrong field (R16). -/
theorem ttBegin_of_invalid {f : TtBeginBody} (wrong : stagingOf p f = none) :
    ttBegin p f s = (touchStaging p s, .refuse .badRequest) := by
  simp [ttBegin, wrong]

/-- TT_BEGIN with valid fields (R16). -/
theorem ttBegin_of_valid {f : TtBeginBody} {g : Staging} (valid : stagingOf p f = some g) :
    ttBegin p f s =
      if s.store.stagedByOther p then (s, .refuse .busy) else (setStaging (some g) s, .done) := by
  simp [ttBegin, valid]

/-! ## The staging idle timer's expiry (R21) -/

/-- An idle timer that has run out discards the staging and tells its holder. -/
theorem stagingExpired_of_out {g : Staging} (h : s.store.staging = some g) (out : g.idle = 0) :
    stagingExpired s = postTo .stagingDiscarded [g.holder] (setStaging none s) := by
  simp [stagingExpired, h, out]

theorem postTo_setStaging_changesOnly (n : Notice) (l : List Port) (g : Option Staging) (s : State) :
    changesOnly [.store, .ports] s (postTo n l (setStaging g s)) := by
  refine ⟨by simp, fun b hb => ?_⟩
  cases b <;> simp [Block.same] at hb ⊢

/-- Settles O11: the request by the field check and the holder, the expiry by `stagingExpired_of_out`. -/
theorem ttBeginOpensStaging : Obligations.TtBeginOpensStaging := by
  unfold Obligations.TtBeginOpensStaging
  refine ⟨fun p f s h => ⟨fun k kind version low high => ?_, fun wrong => ?_⟩, fun s g up h out => ?_⟩
  · have valid := ttBegin_of_valid (s := s) (stagingOf_of_valid (p := p) kind version low high)
    rw [exec_ttBegin_of_admits h, valid]
    refine ⟨fun own => ?_, fun g staged other => ?_⟩
    · rw [Store.stagedByOther_eq_false own]
      rfl
    · rw [Store.stagedByOther_eq_true staged other]
      rfl
  · rw [exec_ttBegin_of_admits h, ttBegin_of_invalid (stagingOf_eq_none wrong)]
    refine ⟨fun g staged own => ?_, fun other => ?_⟩
    · rw [touchStaging_of_holder staged own]
    · rw [touchStaging_of_not_holder other]
  · refine ⟨_, congrArg (fun t => Host.Outcome.next (settle t))
      ((whenUp_of_up up).trans (stagingExpired_of_out h out)), by simp, fun p n => ?_, ?_,
      postTo_setStaging_changesOnly _ _ _ s⟩
    · rw [hasNotice_postTo, List.mem_singleton]
      exact Iff.rfl
    · exact (portsKeptButNotices_of_eq rfl).trans (portsKeptButNotices_postTo _ _ _)

end Sys2Proof.Machine
end

section
/-! PROOFS. The treadle pair (chapter 2): TREADLE_MODE refused, without effect, and with a change of mode. -/

namespace Sys2Proof.Machine

/-! ## The change of mode and the hearing of a frame -/

section Hearing

variable (p : Port) (n : Nat) (s : State)

@[simp] theorem hear_changeMode (m : TreadleMode) :
    changeMode m (hear p n s) = hear p n (changeMode m s) := by
  simp [changeMode]

theorem hear_treadleMode (q : Port) (f : TreadleModeBody) :
    treadleMode q f (hear p n s) = (hear p n (treadleMode q f s).1, (treadleMode q f s).2) := by
  unfold treadleMode
  simp only [hear_detector, hear_changeMode]
  (repeat' split) <;> rfl

end Hearing

variable {s : State} {p : Port} {f : TreadleModeBody} {m : TreadleMode}

/-- An admitted TREADLE_MODE is answered with what its owner decides. -/
theorem exec_treadleMode_of_admits (h : s.admits p .treadleMode) (f : TreadleModeBody) :
    exec (.treadleMode p (.fields f)) s =
      .next (settle
        (answered p ReqCode.treadleMode.byte 1 (treadleMode p f s).2 (treadleMode p f s).1)) :=
  congrArg (fun t => Host.Outcome.next (settle t))
    (request_of_hears (body := writeTreadleMode f) (owner := treadleMode p f) h rfl
      (fun n => hear_treadleMode p n s p f))

/-! ## What the owner decides (R34) -/

theorem treadleMode_of_unknown (h : treadleModeOf f.mode = none) :
    treadleMode p f s = (s, .refuse .badRequest) := by
  simp [treadleMode, h]

theorem treadleMode_of_separate_elsewhere (h : treadleModeOf f.mode = some .separate)
    (other : p ≠ .service) : treadleMode p f s = (s, .refuse .notPermitted) := by
  simp [treadleMode, h, other]

/-- A known mode that the port may ask for is taken, and changes nothing when it is in force. -/
theorem treadleMode_of_permitted (h : treadleModeOf f.mode = some m)
    (may : m = .separate → p = .service) :
    treadleMode p f s = (if m = s.detector.mode then s else changeMode m s, .done) := by
  have permitted : ¬(m = .separate ∧ p ≠ .service) := fun ⟨sep, other⟩ => other (may sep)
  simp only [treadleMode, h, if_neg permitted]
  split <;> rfl

/-! ## What a change of mode does (R35) -/

@[simp] theorem changeMode_mode (m : TreadleMode) (s : State) :
    (changeMode m s).detector.mode = m := rfl

@[simp] theorem changeMode_passage (m : TreadleMode) (s : State) :
    (changeMode m s).detector.passage = none := rfl

theorem Treadle.remoded_eq (m : TreadleMode) (x : Treadle) :
    x.remoded m =
      { x with pulse := none, fault := false, run := 0, test := if m = .separate then 0 else x.test } := by
  cases m <;> rfl

@[simp] theorem changeMode_treadle (m : TreadleMode) (s : State) (t : TreadleId) :
    (changeMode m s).detector.treadle t = (s.detector.treadle t).remoded m := by
  cases t <;> rfl

theorem setDetector_changesOnly (d : Detector) (s : State) :
    changesOnly [.detector] s (setDetector d s) := by
  refine ⟨setDetector_pending s d, fun b hb => ?_⟩
  cases b <;> simp [Block.same] at hb ⊢

/-- Settles O18: the owner's decision by the mode asked for, then the detector after the change, treadle by
treadle. -/
theorem treadleModeChanges : Obligations.TreadleModeChanges := by
  unfold Obligations.TreadleModeChanges
  intro p f s h
  refine ⟨fun unknown => ?_, fun separate other => ?_, fun m mode may => ⟨fun same => ?_, fun change => ?_⟩⟩
  · rw [exec_treadleMode_of_admits h, treadleMode_of_unknown unknown]
  · rw [exec_treadleMode_of_admits h, treadleMode_of_separate_elsewhere separate other]
  · rw [exec_treadleMode_of_admits h, treadleMode_of_permitted mode may, if_pos same]
  · refine ⟨changeMode m s, ?_, changeMode_mode m s, changeMode_passage m s, fun t => ?_,
      setDetector_changesOnly _ s⟩
    · rw [exec_treadleMode_of_admits h, treadleMode_of_permitted mode may, if_neg change]
    · rw [changeMode_treadle, Treadle.remoded_eq]

end Sys2Proof.Machine
end

section
/-! PROOFS. The fare unit (chapter 3): rounding takes one of the two multiples of the step around the exact value,
and how far off that one is. -/

namespace Sys2Proof.Machine

variable {step n d : Nat}

/-! ## The two outcomes, decided by the remainder of n by d × step (R63) -/

/-- The excess over the multiple below, which `roundTo` compares with half a step, as a remainder. -/
theorem sub_quotient_eq_mod (step n d : Nat) :
    n - n / (d * step) * step * d = n % (d * step) := by
  rw [Nat.mod_eq_sub_div_mul, Nat.mul_assoc, Nat.mul_comm step d]

theorem roundTo_of_below_half (below : 2 * (n % (d * step)) < d * step) :
    roundTo step n d = n / (d * step) * step := by
  simp only [roundTo, sub_quotient_eq_mod, Nat.mul_comm step d, if_pos below]

theorem roundTo_of_half_or_above (above : d * step ≤ 2 * (n % (d * step))) :
    roundTo step n d = (n / (d * step) + 1) * step := by
  simp only [roundTo, sub_quotient_eq_mod, Nat.mul_comm step d, if_neg (Nat.not_lt.mpr above)]

/-! ## How far each outcome is from the exact value -/

theorem roundTo_mod_step (step n d : Nat) : roundTo step n d % step = 0 := by
  rcases Nat.lt_or_ge (2 * (n % (d * step))) (d * step) with below | above
  · rw [roundTo_of_below_half below, Nat.mul_mod_left]
  · rw [roundTo_of_half_or_above above, Nat.mul_mod_left]

/-- Rounded down, the value falls short of n by the remainder. -/
theorem roundTo_mul_add_mod_of_below_half (below : 2 * (n % (d * step)) < d * step) :
    roundTo step n d * d + n % (d * step) = n := by
  rw [roundTo_of_below_half below, Nat.mul_assoc, Nat.mul_comm step d, Nat.div_add_mod']

/-- Rounded up, the value passes n by what the remainder lacks of a whole step. -/
theorem roundTo_mul_add_mod_of_half_or_above (above : d * step ≤ 2 * (n % (d * step))) :
    roundTo step n d * d + n % (d * step) = n + d * step := by
  rw [roundTo_of_half_or_above above, Nat.mul_assoc, Nat.mul_comm step d, Nat.succ_mul,
    Nat.add_right_comm, Nat.div_add_mod']

/-- Settles O23: the remainder of n by d × step, against half of d × step, decides the direction, and it bounds the
distance in both; a half goes up. -/
theorem roundingIsNearest : Obligations.RoundingIsNearest := by
  unfold Obligations.RoundingIsNearest
  intro step n d hstep hd
  refine ⟨roundTo_mod_step step n d, ?_⟩
  rw [Nat.mul_comm step d]
  have remainder : n % (d * step) < d * step := Nat.mod_lt n (Nat.mul_pos hd hstep)
  rcases Nat.lt_or_ge (2 * (n % (d * step))) (d * step) with below | above
  · have value := roundTo_mul_add_mod_of_below_half below
    omega
  · have value := roundTo_mul_add_mod_of_half_or_above above
    omega

end Sys2Proof.Machine
end

section
/-! PROOFS. The sales journal and the upload scheduler (chapter 5): BATCH_TAKE's refusals and the batch it takes, and
the scheduler set to DUE by LINK_RESUME and by the wait timer. -/

namespace Sys2Proof.Machine

/-! ## The journal's operations and the hearing of a frame -/

section Hearing

variable (p : Port) (n : Nat) (s : State)

/-- UPLOAD_DUE compares against the same readiness before and after the hearing. -/
@[simp] theorem uploadDue_before_hear (t : State) : uploadDue (hear p n s) t = uploadDue s t := by
  simp only [uploadDue, hear_linkReady]

theorem hear_takeBatch (q : Port) (most : Nat) :
    takeBatch q most (hear p n s) = (hear p n (takeBatch q most s).1, (takeBatch q most s).2) := by
  cases p <;> rfl

theorem hear_batchTake (q : Port) (f : BatchTakeBody) :
    batchTake q f (hear p n s) = (hear p n (batchTake q f s).1, (batchTake q f s).2) := by
  unfold batchTake
  simp only [hear_journal, hear_takePermitted, hear_takeBatch]
  (repeat' split) <;> rfl

theorem hear_linkResume (q : Port) (f : NoFields) :
    linkResume q f (hear p n s) = (hear p n (linkResume q f s).1, (linkResume q f s).2) := by
  cases q with
  | terminal => rfl
  | service => rfl
  | link =>
    simp only [linkResume, hear_schedulerSuccess, uploadDue_before_hear, hear_uploadDue, hear_scheduler]

end Hearing

variable {s : State} {p : Port} {f : BatchTakeBody}

/-- An admitted BATCH_TAKE is answered with what its owner decides. -/
theorem exec_batchTake_of_admits (h : s.admits p .batchTake) (f : BatchTakeBody) :
    exec (.batchTake p (.fields f)) s =
      .next (settle (answered p ReqCode.batchTake.byte 1 (batchTake p f s).2 (batchTake p f s).1)) :=
  congrArg (fun t => Host.Outcome.next (settle t))
    (request_of_hears (body := writeBatchTake f) (owner := batchTake p f) h rfl
      (fun n => hear_batchTake p n s p f))

/-- An admitted LINK_RESUME is answered with what its owner decides. -/
theorem exec_linkResume_of_admits (h : s.admits p .linkResume) (f : NoFields) :
    exec (.linkResume p (.fields f)) s =
      .next (settle (answered p ReqCode.linkResume.byte 0 (linkResume p f s).2 (linkResume p f s).1)) :=
  congrArg (fun t => Host.Outcome.next (settle t))
    (request_of_hears (body := writeNoFields f) (owner := linkResume p f) h rfl
      (fun n => hear_linkResume p n s p f))

/-! ## The size of an entry (11.2) -/

@[simp] theorem length_num (k v : Nat) : (num k v).length = k := by
  induction k generalizing v with
  | zero => rfl
  | succ k ih => exact congrArg Nat.succ (ih _)

@[simp] theorem length_num1 (v : Nat) : (num1 v).length = 1 := length_num 1 v

/-- A SALE's fields are the longest. -/
theorem EntryKind.length_bytes_le (k : EntryKind) : k.bytes.length ≤ 24 := by
  cases k with
  | sale serial port r band total =>
    simp only [EntryKind.bytes, List.length_append, length_num, length_num1]
    cases r.concession <;> cases r.target <;> simp
  | void => simp [EntryKind.bytes]
  | unmatchedPassage => simp [EntryKind.bytes]
  | lapsedCall => simp [EntryKind.bytes]
  | timetable => simp [EntryKind.bytes]
  | supply => simp [EntryKind.bytes]
  | start k => cases k <;> simp [EntryKind.bytes]

/-- Any one entry has room in a reply. -/
theorem Entry.length_bytes_le (e : Entry) : e.bytes.length ≤ batchRoom := by
  have fields := e.kind.length_bytes_le
  simp only [Entry.bytes, List.length_append, length_num, length_num1, batchRoom]
  omega

/-! ## How many entries fit (R107) -/

/-- The bytes of the oldest `n` entries together. -/
def entryBytes (n : Nat) (es : List Entry) : List Byte := (es.take n).flatMap Entry.bytes

@[simp] theorem length_entryBytes_succ (n : Nat) (e : Entry) (es : List Entry) :
    (entryBytes (n + 1) (e :: es)).length = e.bytes.length + (entryBytes n es).length := by
  simp [entryBytes]

/-- The count is within the maximum and the list, its entries fit, and where it stops short of both one entry more
does not fit. -/
structure IsFit (room most : Nat) (es : List Entry) (n : Nat) : Prop where
  le_most : n ≤ most
  le_length : n ≤ es.length
  fits : (entryBytes n es).length ≤ room
  greatest : n < most → n < es.length → room < (entryBytes (n + 1) es).length

/-- `fitCount` counts an entry that fits, and goes on with the room it leaves. -/
theorem fitCount_cons {room most : Nat} {e : Entry} {es : List Entry} (fits : e.bytes.length ≤ room) :
    fitCount room (most + 1) (e :: es) = fitCount (room - e.bytes.length) most es + 1 := by
  rw [fitCount, if_pos fits, Nat.add_comm]

theorem fitCount_cons_of_too_long {room most : Nat} {e : Entry} {es : List Entry}
    (long : room < e.bytes.length) : fitCount room (most + 1) (e :: es) = 0 := by
  rw [fitCount, if_neg (Nat.not_le.mpr long)]

/-- `fitCount` is the greatest count that meets the three limits (R107). -/
theorem isFit_fitCount (room most : Nat) (es : List Entry) :
    IsFit room most es (fitCount room most es) := by
  induction room, most, es using fitCount.induct with
  | case1 room es =>
    exact ⟨Nat.le_refl 0, Nat.zero_le _, Nat.zero_le room, fun short => absurd short (by simp [fitCount])⟩
  | case2 room most =>
    exact ⟨Nat.zero_le _, Nat.le_refl 0, Nat.zero_le room,
      fun _ short => absurd short (by simp [fitCount])⟩
  | case3 room most e es fits ih =>
    obtain ⟨leMost, leLength, fitsRest, greatest⟩ := ih
    rw [fitCount_cons fits]
    refine ⟨Nat.succ_le_succ leMost, Nat.succ_le_succ leLength, ?_, fun short within => ?_⟩
    · rw [length_entryBytes_succ]
      omega
    · have next := greatest (Nat.lt_of_succ_lt_succ short) (Nat.lt_of_succ_lt_succ within)
      rw [length_entryBytes_succ]
      omega
  | case4 room most e es long =>
    have long := Nat.not_le.mp long
    rw [fitCount_cons_of_too_long long]
    exact ⟨Nat.zero_le _, Nat.zero_le _, Nat.zero_le room,
      fun _ _ => by rw [length_entryBytes_succ]; omega⟩

/-- At least one entry is taken (R107). -/
theorem one_le_fitCount {most : Nat} {es : List Entry} (low : 1 ≤ most) (held : es ≠ []) :
    1 ≤ fitCount batchRoom most es := by
  obtain ⟨e, es, rfl⟩ := List.exists_cons_of_ne_nil held
  obtain ⟨most, rfl⟩ := Nat.exists_eq_add_of_le' low
  rw [fitCount_cons e.length_bytes_le]
  exact Nat.le_add_left 1 _

/-! ## What BATCH_TAKE's owner decides (R106, R114) -/

theorem Journal.unsent_isEmpty_iff {j : Journal} :
    j.unsent.isEmpty = true ↔ ∀ e ∈ j.entries, e.state = .inFlight := by
  have other : ∀ st : EntryState, st ≠ .unsent ↔ st = .inFlight := fun st => by cases st <;> decide
  simp [Journal.unsent, other]

theorem takePermitted_eq_true : s.takePermitted = true ↔
    s.scheduler.state = .due ∨ 1536 ≤ s.journal.entries.length := by
  simp [State.takePermitted]

theorem batchTake_of_bad_maximum (bad : f.maximum.toNat = 0 ∨ 32 < f.maximum.toNat) :
    batchTake p f s = (s, .refuse .badRequest) := if_pos bad

section GoodMaximum

variable (low : 1 ≤ f.maximum.toNat) (high : f.maximum.toNat ≤ 32)

include low high

/-- With a maximum in 1..32 the checks that follow it decide. -/
theorem batchTake_of_maximum :
    batchTake p f s =
      if s.journal.batch.isSome then (s, .refuse .busy)
      else if s.journal.unsent.isEmpty then (s, .refuse .nothingToSend)
      else if p = .link ∧ s.takePermitted = false then (s, .refuse .notDue)
      else takeBatch p f.maximum.toNat s := if_neg (by omega)

theorem batchTake_of_batch (busy : s.journal.batch.isSome = true) :
    batchTake p f s = (s, .refuse .busy) := by
  rw [batchTake_of_maximum low high, if_pos busy]

/-- With no batch in flight the entries and the scheduler decide. -/
theorem batchTake_of_no_batch (free : s.journal.batch = none) :
    batchTake p f s =
      if s.journal.unsent.isEmpty then (s, .refuse .nothingToSend)
      else if p = .link ∧ s.takePermitted = false then (s, .refuse .notDue)
      else takeBatch p f.maximum.toNat s := by
  rw [batchTake_of_maximum low high, if_neg (by simp [free])]

theorem batchTake_of_none_unsent (free : s.journal.batch = none)
    (sent : ∀ e ∈ s.journal.entries, e.state = .inFlight) :
    batchTake p f s = (s, .refuse .nothingToSend) := by
  rw [batchTake_of_no_batch low high free, if_pos (Journal.unsent_isEmpty_iff.mpr sent)]

/-- With an entry UNSENT the scheduler decides for the link port, and no other port asks it (R114). -/
theorem batchTake_of_unsent (free : s.journal.batch = none)
    (unsent : ∃ e ∈ s.journal.entries, e.state = .unsent) :
    batchTake p f s =
      if p = .link ∧ s.takePermitted = false then (s, .refuse .notDue)
      else takeBatch p f.maximum.toNat s := by
  obtain ⟨e, held, state⟩ := unsent
  rw [batchTake_of_no_batch low high free, if_neg]
  exact fun sent => absurd (Journal.unsent_isEmpty_iff.mp sent e held) (by simp [state])

theorem batchTake_of_not_due (free : s.journal.batch = none)
    (unsent : ∃ e ∈ s.journal.entries, e.state = .unsent) (link : p = .link)
    (waiting : s.scheduler.state ≠ .due) (below : s.journal.entries.length < 1536) :
    batchTake p f s = (s, .refuse .notDue) := by
  have forbidden : s.takePermitted = false :=
    Bool.eq_false_iff.mpr fun may => (takePermitted_eq_true.mp may).elim waiting (by omega)
  rw [batchTake_of_unsent low high free unsent, if_pos ⟨link, forbidden⟩]

theorem batchTake_of_permitted (free : s.journal.batch = none)
    (unsent : ∃ e ∈ s.journal.entries, e.state = .unsent)
    (may : p ≠ .link ∨ s.scheduler.state = .due ∨ 1536 ≤ s.journal.entries.length) :
    batchTake p f s = takeBatch p f.maximum.toNat s := by
  rw [batchTake_of_unsent low high free unsent, if_neg]
  rintro ⟨link, forbidden⟩
  have permitted := takePermitted_eq_true.mpr (may.resolve_left (not_not_intro link))
  exact absurd (permitted.symm.trans forbidden) (by decide)

end GoodMaximum

/-! ## The take carried out (R107) -/

theorem takeBatch_changesOnly (p : Port) (most : Nat) (s : State) :
    changesOnly [.journal] s (takeBatch p most s).1 := by
  refine ⟨rfl, fun b hb => ?_⟩
  cases b with
  | journal => exact absurd hb (by decide)
  | _ => rfl

/-- The journal after a take: its oldest entries marked, and the batch's record of the first of them. -/
theorem takeBatch_journal {e : Entry} (oldest : s.journal.entries.head? = some e) (most : Nat) :
    (takeBatch p most s).1.journal =
      let n := fitCount batchRoom most s.journal.entries
      { s.journal with
        entries := (s.journal.entries.take n).map (Entry.as .inFlight) ++ s.journal.entries.drop n
        nextBatch := if s.journal.nextBatch = 65535 then 1 else s.journal.nextBatch + 1
        batch := some ⟨s.journal.nextBatch, p, e.sequence, n, s.clock.second, 300⟩ } := by
  simp [takeBatch, oldest, markInFlight, nextBatchId]

/-- The reply to a take: the id, the first sequence, the count and the entries as they were (11.2). -/
theorem takeBatch_answer {e : Entry} (oldest : s.journal.entries.head? = some e) (most : Nat) :
    (takeBatch p most s).2 =
      let n := fitCount batchRoom most s.journal.entries
      .okWith (num 2 s.journal.nextBatch ++ num 4 e.sequence ++ num1 n ++
        (s.journal.entries.take n).flatMap Entry.bytes) := by
  have held := (isFit_fitCount batchRoom most s.journal.entries).le_length
  simp [takeBatch, oldest, batchBytes, List.length_take, Nat.min_eq_left held]

/-- Settles O34: the owner's refusals check by check, and the take by `isFit_fitCount`. -/
theorem batchTakeMarksOldest : Obligations.BatchTakeMarksOldest := by
  unfold Obligations.BatchTakeMarksOldest
  intro p f s h
  rw [exec_batchTake_of_admits h]
  refine ⟨fun bad => ?_, fun low high => ⟨fun busy => ?_, fun free => ⟨fun sent => ?_, fun unsent =>
    ⟨fun link waiting below => ?_, fun may _ => ?_⟩⟩⟩⟩
  · rw [batchTake_of_bad_maximum bad]
  · rw [batchTake_of_batch low high busy]
  · rw [batchTake_of_none_unsent low high free sent]
  · rw [batchTake_of_not_due low high free unsent link waiting below]
  · have held : s.journal.entries ≠ [] := by
      obtain ⟨e, mem, -⟩ := unsent
      exact List.ne_nil_of_mem mem
    have oldest := List.head?_eq_some_head held
    obtain ⟨leMost, leLength, fits, greatest⟩ := isFit_fitCount batchRoom f.maximum.toNat s.journal.entries
    rw [batchTake_of_permitted low high free unsent may, takeBatch_answer oldest]
    exact ⟨_, _, _, oldest, rfl, one_le_fitCount low held, leMost, leLength, fits, greatest,
      takeBatch_journal oldest _, takeBatch_changesOnly p _ s⟩

/-! ## The scheduler set to DUE (R116, R119) -/

/-- The scheduler alone replaced, then UPLOAD_DUE on readiness: what LINK_RESUME and the wait timer do. -/
theorem uploadDue_scheduler_frame (s : State) (x : Scheduler) :
    let u := uploadDue s { s with scheduler := x }
    u.scheduler = x ∧
      (∀ q k, u.hasNotice q k ↔ s.hasNotice q k ∨
        (q = .link ∧ k = .uploadDue ∧ s.linkReady = false ∧ u.linkReady = true)) ∧
      portsKeptButNotices s u ∧ changesOnly [.scheduler, .ports] s u := by
  have ready : (uploadDue s { s with scheduler := x }).linkReady = { s with scheduler := x }.linkReady := by
    simp only [State.linkReady, State.takePermitted, uploadDue_scheduler, uploadDue_journal]
  refine ⟨uploadDue_scheduler _ s, fun q k => ?_, portsKeptButNotices_uploadDue s _,
    uploadDue_pending _ s, fun b hb => ?_⟩
  · rw [hasNotice_uploadDue, ready]
    exact Iff.rfl
  · cases b <;> simp [Block.same] at hb ⊢

theorem linkResume_elsewhere (other : p ≠ .link) (f : NoFields) :
    linkResume p f s = (s, .refuse .notPermitted) := by
  cases p with
  | link => exact absurd rfl other
  | _ => rfl

theorem linkResume_on_link (f : NoFields) (s : State) :
    linkResume .link f s = (uploadDue s (schedulerSuccess s), .okWith [0, 0]) := by
  simp only [linkResume, uploadDue_scheduler]
  rfl

/-- Settles O37: the resume by its port, the wait timer by its seconds, both by `uploadDue_scheduler_frame`. -/
theorem resumeAndWaitSetDue : Obligations.ResumeAndWaitSetDue := by
  unfold Obligations.ResumeAndWaitSetDue
  refine ⟨fun p s h => ⟨fun other => ?_, fun link => ?_⟩, fun s up out => ?_⟩
  · rw [exec_linkResume_of_admits h, linkResume_elsewhere other]
  · subst link
    rw [exec_linkResume_of_admits h, linkResume_on_link]
    exact ⟨_, rfl, uploadDue_scheduler_frame s _⟩
  · exact ⟨_, congrArg (fun t => Host.Outcome.next (settle t)) ((whenUp_of_up up).trans (if_pos out)),
      uploadDue_scheduler_frame s _⟩

end Sys2Proof.Machine
end

section
/-! PROOFS. What each command is made of: a request's owner between the hearing of its frame and its reply, an
event's operation in a running core domain, or a transition of its own; then the frames that follow. What every
such step keeps, said once (`step_keeps`), and the blocks each command's own part can change (`Instr.blocks`). -/

namespace Sys2Proof.Machine

/-! ## The parts of a command -/

/-- What a command carries out before the frames that follow it. -/
inductive Act where
  | request (p : Port) (c : ReqCode) (body : List Byte) (owner : Owner)
  | event (f : State → State)
  | whole (f : State → State)

/-- The act carried out. -/
def Act.run : Act → State → State
  | .request p c body owner => Machine.request p c body owner
  | .event f => whenUp f
  | .whole f => f

/-- The act of each command. -/
def actOf : Instr → Act
  | .timeSet p b => .request p .timeSet (b.bytes writeTimeSet) (onFields b timeSet)
  | .ttBegin p b => .request p .ttBegin (b.bytes writeTtBegin) (onFields b (ttBegin p))
  | .ttCalls p b => .request p .ttCalls (b.bytes writeTtCalls) (onFields b (ttCalls p))
  | .ttEnd p b => .request p .ttEnd (b.bytes writeNoFields) (onFields b (ttEnd p))
  | .svcUpdateDelay p b => .request p .svcUpdate (b.bytes writeSvcDelay) (onFields b svcDelay)
  | .svcUpdateClearDelay p f => .request p .svcUpdate (writeSvcClearDelay f) (svcClearDelay f)
  | .svcUpdateCancel p f => .request p .svcUpdate (writeSvcCancel f) (svcCancel f)
  | .svcUpdateReinstate p f => .request p .svcUpdate (writeSvcReinstate f) (svcReinstate f)
  | .quote p b => .request p .quote (b.bytes writeQuote) (quote p b)
  | .issue p b => .request p .issue (b.bytes writeIssue) (onFields b (issue p))
  | .void p b => .request p .void (b.bytes writeVoid) (onFields b (voidSale p))
  | .loadBegin p b => .request p .loadBegin (b.bytes writeNoFields) (onFields b loadBegin)
  | .loadEnd p b => .request p .loadEnd (b.bytes writeNoFields) (onFields b loadEnd)
  | .fareRangeWrite p b => .request p .fareRangeWrite (b.bytes writeFareRange) (onFields b
      fareRangeWrite)
  | .farePriceWrite p b => .request p .farePriceWrite (b.bytes writeFarePrice) (onFields b
      farePriceWrite)
  | .fareParamWrite p b => .request p .fareParamWrite (b.bytes writeFareParam) (onFields b
      fareParamWrite)
  | .fareConcessionWrite p b => .request p .fareConcessionWrite (b.bytes writeFareConcession)
      (onFields b fareConcessionWrite)
  | .farePeakWrite p b => .request p .farePeakWrite (b.bytes writeFarePeak) (onFields b
      farePeakWrite)
  | .rvlWrite p b => .request p .rvlWrite (b.bytes writeRvlWrite) (onFields b rvlWrite)
  | .rvlClearAll p b => .request p .rvlClearAll (b.bytes writeNoFields) (onFields b rvlClearAll)
  | .stockAdd p b => .request p .stockAdd (b.bytes writeStockAdd) (onFields b stockAdd)
  | .batchTake p b => .request p .batchTake (b.bytes writeBatchTake) (onFields b (batchTake p))
  | .batchAck p b => .request p .batchAck (b.bytes writeBatchId) (onFields b (batchAck p))
  | .batchFail p b => .request p .batchFail (b.bytes writeBatchId) (onFields b (batchFail p))
  | .linkResume p b => .request p .linkResume (b.bytes writeNoFields) (onFields b (linkResume p))
  | .panelConfig p b => .request p .panelConfig (b.bytes writePanelConfig) (onFields b
      (panelConfig p))
  | .panelConfigGroup p f => .request p .panelConfig (writePanelGroup f) (panelConfigGroup p f)
  | .displayStart p line => .request p .displayControl writeDisplayStart (displayStart line)
  | .displayStop p => .request p .displayControl writeDisplayStop displayStop
  | .displayRecover p line => .request p .displayControl writeDisplayRecover (displayRecover p line)
  | .displayPacing p f line => .request p .displayControl (writeDisplayPacing f) (displayPacing f
      line)
  | .displayFrameCount p f => .request p .displayControl (writeFrameCount f) (displayFrameCount p f)
  | .displayAutoRecovery p b => .request p .displayControl (b.bytes writeAutoRecovery)
      (displayAutoRecovery b)
  | .supplyLevels p b => .request p .supplyLevels (b.bytes writeSupplyLevels) (onFields b
      supplyLevels)
  | .treadleMode p b => .request p .treadleMode (b.bytes writeTreadleMode) (onFields b
      (treadleMode p))
  | .salesSuspend p b => .request p .salesSuspend (b.bytes writeNoFields) (onFields b
      (salesSuspend p))
  | .salesResume p b => .request p .salesResume (b.bytes writeNoFields) (onFields b (salesResume p))
  | .setRights p b => .request p .setRights (b.bytes writeSetRights) (onFields b (setRights p))
  | .portReset p b => .request p .portReset (b.bytes writePortReset) (onFields b (portReset p))
  | .status p b => .request p .status (b.bytes writeStatus) (onFields b status)
  | .listCalls p b => .request p .listCalls (b.bytes writeTableRun) (onFields b listCalls)
  | .fareRead p b => .request p .fareRead (b.bytes writeTableRun) (onFields b fareRead)
  | .rvlRead p b => .request p .rvlRead (b.bytes writeRun) (onFields b rvlRead)
  | .readCounters p b => .request p .readCounters (b.bytes writeReadCounters) (onFields b
      (readCounters p))
  | .readNotices p b => .request p .readNotices (b.bytes writeReadNotices) (onFields b
      (readNotices p))
  | .unknownRequest p code body => .whole (unknownFrame p code body)
  | .frameCut p received => .whole (cutFrame p received)
  | .replyRead p clocked => .whole (readReply p clocked)
  | .portResetLineActive p => .event (resetLineActive p)
  | .portResetLineInactive p => .event (resetLineInactive p)
  | .portResetLineFirstAcceptance p active => .event (resetLineFirst p active)
  | .clockSecond => .whole secondElapses
  | .stagingIdleTimeout => .event stagingExpired
  | .passageClose => .event passageClosed
  | .quoteExpiry p => .event (quoteExpired p)
  | .voidWindowExpiry p => .event (voidWindowExpired p)
  | .terminalSilenceExpiry => .event silenceExpired
  | .batchTimeout => .event batchTimedOut
  | .waitExpiry => .event waitExpired
  | .presenceIdleExpiry => .event presenceIdleExpired
  | .frameTimerExpiry line => .event (frameTimerExpired line)
  | .probeTimerExpiry panel => .event (probeTimerExpired panel)
  | .sample millivolts line => .event (sampleTaken millivolts line)
  | .loadPeriodTimeout => .event loadTimedOut
  | .treadleRisingEdge t => .event (treadleRises t)
  | .treadleFallingEdge t => .event (treadleFalls t)
  | .treadleFirstAcceptance t pressed => .event (treadleFirst t pressed)
  | .presenceEdge occupied => .event (presenceEdge occupied)
  | .presenceFirstAcceptance occupied => .event (presenceFirst occupied)
  | .triggerEdge high line => .event (triggerEdge high line)
  | .triggerFirstAcceptance high => .event (triggerFirst high)
  | .transactionEnd e line => .event (transactionEnded e line)
  | .busDisturbed line => .event (busDisturbed line)
  | .stuckClock => .event stuckClock
  | .recoveryEndAuto r line => .event (recoveryEndedAuto r line)
  | .recoveryEndManual r _ => .event (recoveryEndedManual r)
  | .coldStart => .whole coldStarted
  | .warmStart line => .whole (warmStarted line)
  | .coreSupplyDip => .whole dip

/-- What follows each command's act: the frames that are due (R149), and nothing after a start or a dip. -/
def settled : Instr → State → State
  | .displayStart _ line => settleAt line
  | .displayPacing _ _ line => settleAt line
  | .frameTimerExpiry line => settleAt line
  | .sample _ line => settleAt line
  | .triggerEdge _ line => settleAt line
  | .transactionEnd _ line => settleAt line
  | .busDisturbed line => settleAt line
  | .recoveryEndAuto _ line => settleAt line
  | .recoveryEndManual _ line => settleAt line
  | .coldStart => id
  | .warmStart _ => id
  | .coreSupplyDip => id
  | _ => settle

/-- `exec` is the command's act and what follows it. -/
theorem exec_eq (i : Instr) (s : State) : exec i s = .next (settled i ((actOf i).run s)) := by
  cases i <;> rfl

/-! ## What every step keeps -/

/-- A property that the ports' transfers, the counters, the notices and the frames that follow a command keep: the
part of every step that is not the command's own. -/
structure Ambient (P : State → Prop) : Prop where
  queue : ∀ (s : State) (q : List Instr), P s → P { s with pending := q }
  port : ∀ (p : Port) (c : PortControl) (s : State), c.notices = (s.ports.get p).notices →
    c.rights = (s.ports.get p).rights → P s → P (setPort p c s)
  silence : ∀ (s : State) (t : Option Nat) (b : Bool), P s →
    P { s with sales := { s.sales with silence := t, silent := b } }
  counted : ∀ (c : Counter) (n : Nat) (s : State), P s → P (countBy c n s)
  drawn : ∀ (s : State) (d : Nat), P s → P { s with draws := d }
  cycled : ∀ (s : State) (k : Nat), P s → P (setBus { s.bus with cycle := (s.bus.cycle + k) % 30 } s)
  frame : ∀ (l : DataLine) (s : State), s.frameDue = true → P s → P (beginFrame l s)

/-- The act's own part keeps a property, while the core domain runs where it is a request or an event. -/
def Act.Keeps (P : State → Prop) : Act → Prop
  | .request _ _ _ owner => ∀ s : State, s.core = .up → P s → P (owner s).1
  | .event f => ∀ s : State, s.core = .up → P s → P (f s)
  | .whole f => ∀ s : State, P s → P (f s)

section Keeping

variable {P : State → Prop} (ambient : Ambient P)

include ambient

theorem Ambient.hear (p : Port) (n : Nat) {s : State} (h : P s) : P (hear p n s) := by
  have heard := ambient.port p { s.ports.get p with dataOut := List.replicate n filler } s rfl rfl h
  cases p with
  | terminal => exact ambient.silence _ (some 300) false heard
  | link => exact heard
  | service => exact heard

theorem Ambient.makeReply (p : Port) (code : Byte) (a : Answer) {s : State} (h : P s) :
    P (makeReply p code a s) := by
  have discarded : P (discardUnread p s) := by
    rcases discardUnread_eq p s with ⟨-, e⟩ | ⟨-, e⟩ <;> rw [e]
    · exact ambient.counted _ _ _ (ambient.port p _ s rfl rfl h)
    · exact h
  exact ambient.port p _ _ rfl rfl discarded

theorem Ambient.unheard (p : Port) (n : Nat) {s : State} (h : P s) : P (unheard p n s) := by
  unfold Machine.unheard
  split
  · exact ambient.port p _ s rfl rfl h
  · exact h

theorem Ambient.settleAt (l : DataLine) {s : State} (h : P s) : P (settleAt l s) :=
  settleAt_keeps (ambient.frame l)
    (fun t k d ht => ambient.cycled _ k (ambient.drawn _ d (ambient.counted _ k t ht))) h

theorem Ambient.settle {s : State} (h : P s) : P (settle s) :=
  settle_keeps ambient.frame
    (fun t k d ht => ambient.cycled _ k (ambient.drawn _ d (ambient.counted _ k t ht))) ambient.drawn h

theorem Ambient.settled (i : Instr) {s : State} (h : P s) : P (settled i s) := by
  unfold Machine.settled
  split
  all_goals first | exact ambient.settleAt _ h | exact h | exact ambient.settle h

theorem Ambient.request {p : Port} {c : ReqCode} {body : List Byte} {owner : Owner}
    (own : ∀ s : State, s.core = .up → P s → P (owner s).1) {s : State} (h : P s) :
    P (request p c body owner s) := by
  unfold Machine.request
  split
  · rename_i receives
    have up : s.core = .up := by
      simp only [State.receives, State.running, Bool.and_eq_true, decide_eq_true_eq] at receives
      exact receives.1
    have heard := ambient.hear p (body.length + 2) h
    refine ambient.makeReply _ _ _ ?_
    unfold decideRequest
    split
    · split
      · exact own _ ((hear_core _ _ _).trans up) heard
      · exact heard
    · exact heard
  · exact ambient.unheard _ _ h

/-- What the act's own part keeps, the whole act keeps. -/
theorem Ambient.run {a : Act} (own : a.Keeps P) {s : State} (h : P s) : P (a.run s) := by
  cases a with
  | request p c body owner => exact ambient.request own h
  | event f =>
    show P (whenUp f s)
    cases up : s.core with
    | up => rw [whenUp_of_up up]; exact own s up h
    | down => rw [whenUp_of_down up]; exact h
  | whole f => exact own s h

/-- A property that every command's own part keeps is kept by every step. -/
theorem step_keeps (own : ∀ i, (actOf i).Keeps P) {s t : State} (h : P s) (e : step s = .next t) : P t := by
  unfold step at e
  split at e
  · cases e
    exact h
  · rw [exec_eq] at e
    cases e
    exact ambient.settled _ (ambient.run (own _) (ambient.queue _ _ h))

theorem keeps_unknownFrame (p : Port) (code : Byte) (body : List Byte) :
    Act.Keeps P (.whole (unknownFrame p code body)) := by
  intro s h
  show P (unknownFrame p code body s)
  unfold unknownFrame
  split
  · exact ambient.makeReply _ _ _ (ambient.hear _ _ h)
  · exact ambient.unheard _ _ h

theorem keeps_cutFrame (p : Port) (received : List Byte) : Act.Keeps P (.whole (cutFrame p received)) := by
  intro s h
  show P (cutFrame p received s)
  unfold cutFrame
  split
  · exact h
  · split
    · exact ambient.counted _ _ _ (ambient.port _ _ _ rfl rfl h)
    · exact ambient.unheard _ _ h

theorem keeps_readReply (p : Port) (n : Nat) : Act.Keeps P (.whole (readReply p n)) := by
  intro s h
  show P (readReply p n s)
  unfold readReply
  split
  · exact ambient.port _ _ _ rfl rfl h
  · exact ambient.unheard _ _ h

theorem keeps_resetLineInactive (p : Port) : Act.Keeps P (.event (resetLineInactive p)) := by
  intro s _ h
  show P (resetLineInactive p s)
  unfold resetLineInactive
  split
  · exact ambient.port _ _ _ rfl rfl h
  · exact h

theorem keeps_resetLineFirst (p : Port) (active : Bool) : Act.Keeps P (.event (resetLineFirst p active)) := by
  intro s _ h
  show P (resetLineFirst p active s)
  unfold resetLineFirst
  split
  · exact h
  · exact ambient.port _ _ _ rfl rfl h

end Keeping

/-- A body that is not laid out as its row's fields is refused with nothing changed. -/
theorem keeps_onFields {P : State → Prop} {p : Port} {c : ReqCode} {body : List Byte} {α : Type}
    {f : α → Owner} (own : ∀ x (s : State), s.core = .up → P s → P (f x s).1) (b : Body α) :
    Act.Keeps P (.request p c body (onFields b f)) := by
  cases b with
  | fields x => exact own x
  | raw bytes => exact fun s _ h => h

/-! ## Changes of named blocks alone -/

theorem changesOnly_refl (l : List Block) (s : State) : changesOnly l s s :=
  ⟨rfl, fun b _ => by cases b <;> rfl⟩

theorem changesOnly.trans {l : List Block} {s t u : State} (a : changesOnly l s t) (b : changesOnly l t u) :
    changesOnly l s u := by
  obtain ⟨qa, sa⟩ := a
  obtain ⟨qb, sb⟩ := b
  refine ⟨qb.trans qa, fun x hx => ?_⟩
  have ha := sa x hx
  have hb := sb x hx
  cases x <;> exact hb.trans ha

theorem changesOnly.mono {l m : List Block} {s t : State} (a : changesOnly l s t) (sub : l ⊆ m) :
    changesOnly m s t :=
  ⟨a.1, fun b hb => a.2 b (fun inside => hb (sub inside))⟩

/-- The blocks that a command's own part can change, before the frames that follow. -/
def blocksOf : Instr → List Block
  | .timeSet _ _ => [.clock, .store, .sales, .journal, .compositor, .counters, .ports]
  | .ttBegin _ _ => [.store]
  | .ttCalls _ _ => [.store]
  | .ttEnd _ _ => [.clock, .store, .sales, .journal, .counters, .ports]
  | .svcUpdateDelay _ _ => [.store]
  | .svcUpdateClearDelay _ _ => [.store]
  | .svcUpdateCancel _ _ => [.store, .sales]
  | .svcUpdateReinstate _ _ => [.store]
  | .quote _ _ => [.sales, .counters]
  | .issue _ _ => [.sales, .journal, .counters, .ports]
  | .void _ _ => [.sales, .journal, .counters, .ports]
  | .loadBegin _ _ => [.supply, .counters]
  | .loadEnd _ _ => [.supply]
  | .fareRangeWrite _ _ => [.fares]
  | .farePriceWrite _ _ => [.fares, .sales, .ports]
  | .fareParamWrite _ _ => [.fares]
  | .fareConcessionWrite _ _ => [.fares]
  | .farePeakWrite _ _ => [.fares]
  | .rvlWrite _ _ => [.revoked]
  | .rvlClearAll _ _ => [.revoked]
  | .stockAdd _ _ => [.sales, .ports]
  | .batchTake _ _ => [.journal]
  | .batchAck _ _ => [.sales, .journal, .scheduler, .counters, .ports]
  | .batchFail _ _ => [.journal, .scheduler, .counters, .ports, .draws]
  | .linkResume _ _ => [.scheduler, .ports]
  | .panelConfig _ _ => [.compositor]
  | .panelConfigGroup _ _ => [.compositor]
  | .displayStart _ _ => [.compositor, .bus, .counters, .ports, .draws]
  | .displayStop _ => [.bus]
  | .displayRecover _ _ => [.bus, .counters]
  | .displayPacing _ _ _ => [.compositor, .bus, .counters, .ports, .draws]
  | .displayFrameCount _ _ => [.bus]
  | .displayAutoRecovery _ _ => [.bus]
  | .supplyLevels _ _ => [.supply]
  | .treadleMode _ _ => [.detector]
  | .salesSuspend _ _ => [.sales, .ports]
  | .salesResume _ _ => [.sales, .ports]
  | .setRights _ _ => [.ports]
  | .portReset _ _ => [.store, .sales, .journal, .supply, .ports]
  | .status _ _ => []
  | .listCalls _ _ => []
  | .fareRead _ _ => []
  | .rvlRead _ _ => []
  | .readCounters _ _ => [.counters]
  | .readNotices _ _ => [.ports]
  | .unknownRequest _ _ _ => [.sales, .counters, .ports]
  | .frameCut _ _ => [.counters, .ports]
  | .replyRead _ _ => [.ports]
  | .portResetLineActive _ => [.store, .sales, .journal, .supply, .ports]
  | .portResetLineInactive _ => [.ports]
  | .portResetLineFirstAcceptance _ _ => [.ports]
  | .clockSecond => [.clock, .store, .detector, .sales, .journal, .scheduler, .compositor, .bus,
      .supply, .counters, .ports]
  | .stagingIdleTimeout => [.store, .ports]
  | .passageClose => [.store, .detector, .sales, .journal, .counters, .ports]
  | .quoteExpiry _ => [.sales]
  | .voidWindowExpiry _ => [.sales]
  | .terminalSilenceExpiry => [.sales]
  | .batchTimeout => [.journal, .scheduler, .counters, .ports, .draws]
  | .waitExpiry => [.scheduler, .ports]
  | .presenceIdleExpiry => [.compositor]
  | .frameTimerExpiry _ => [.compositor, .bus, .counters, .ports]
  | .probeTimerExpiry _ => [.bus]
  | .sample _ _ => [.sales, .journal, .compositor, .bus, .supply, .counters, .ports]
  | .loadPeriodTimeout => [.supply, .counters]
  | .treadleRisingEdge _ => [.detector]
  | .treadleFallingEdge _ => [.detector, .counters, .ports]
  | .treadleFirstAcceptance _ _ => [.detector]
  | .presenceEdge _ => [.compositor]
  | .presenceFirstAcceptance _ => [.compositor]
  | .triggerEdge _ _ => [.compositor, .bus, .counters, .ports]
  | .triggerFirstAcceptance _ => [.bus]
  | .transactionEnd _ _ => [.compositor, .bus, .counters, .ports]
  | .busDisturbed _ => [.compositor, .bus, .counters, .ports]
  | .stuckClock => [.bus, .ports]
  | .recoveryEndAuto _ _ => [.bus, .counters, .ports]
  | .recoveryEndManual _ _ => [.bus, .ports]
  | .coldStart => [.core, .clock, .store, .detector, .fares, .revoked, .sales, .journal,
      .scheduler, .compositor, .bus, .supply, .counters, .ports]
  | .warmStart _ => [.core, .clock, .store, .detector, .sales, .journal, .scheduler, .compositor,
      .bus, .supply, .counters, .ports]
  | .coreSupplyDip => [.core, .store, .detector, .sales, .journal, .scheduler, .compositor, .bus,
      .supply, .ports]

end Sys2Proof.Machine
end

section
/-! PROOFS. The blocks that each shared operation and each command's own part can change. -/

namespace Sys2Proof.Machine

/-- The blocks of a change, one by one. -/
theorem changesOnly_iff {l : List Block} {s t : State} : changesOnly l s t ↔
    t.pending = s.pending ∧
      (.core ∈ l ∨ t.core = s.core) ∧
      (.clock ∈ l ∨ t.clock = s.clock) ∧
      (.store ∈ l ∨ t.store = s.store) ∧
      (.detector ∈ l ∨ t.detector = s.detector) ∧
      (.fares ∈ l ∨ t.fares = s.fares) ∧
      (.revoked ∈ l ∨ t.revoked = s.revoked) ∧
      (.sales ∈ l ∨ t.sales = s.sales) ∧
      (.journal ∈ l ∨ t.journal = s.journal) ∧
      (.scheduler ∈ l ∨ t.scheduler = s.scheduler) ∧
      (.compositor ∈ l ∨ t.compositor = s.compositor) ∧
      (.bus ∈ l ∨ t.bus = s.bus) ∧
      (.supply ∈ l ∨ t.supply = s.supply) ∧
      (.counters ∈ l ∨ t.counters = s.counters) ∧
      (.ports ∈ l ∨ t.ports = s.ports) ∧
      (.draws ∈ l ∨ t.draws = s.draws) := by
  refine ⟨fun ⟨queue, same⟩ => ⟨queue, ?_⟩, fun ⟨queue, each⟩ => ⟨queue, fun b hb => ?_⟩⟩
  · refine ⟨?_, ?_, ?_, ?_, ?_, ?_, ?_, ?_, ?_, ?_, ?_, ?_, ?_, ?_, ?_⟩
    all_goals exact Decidable.or_iff_not_imp_left.mpr (same _)
  · obtain ⟨core, clock, store, detector, fares, revoked, sales, journal, scheduler, compositor, bus, supply, counters,
      ports, draws⟩ := each
    cases b
    · exact core.resolve_left hb
    · exact clock.resolve_left hb
    · exact store.resolve_left hb
    · exact detector.resolve_left hb
    · exact fares.resolve_left hb
    · exact revoked.resolve_left hb
    · exact sales.resolve_left hb
    · exact journal.resolve_left hb
    · exact scheduler.resolve_left hb
    · exact compositor.resolve_left hb
    · exact bus.resolve_left hb
    · exact supply.resolve_left hb
    · exact counters.resolve_left hb
    · exact ports.resolve_left hb
    · exact draws.resolve_left hb

/-! ## The shared operations -/

theorem countBy_changesOnly (c : Counter) (n : Nat) (s : State) :
    changesOnly [.counters] s (countBy c n s) :=
  changesOnly_iff.mpr (by simp)

theorem count_changesOnly (c : Counter) (s : State) :
    changesOnly [.counters] s (count c s) :=
  changesOnly_iff.mpr (by simp)

theorem postTo_changesOnly (k : Notice) (l : List Port) (s : State) :
    changesOnly [.ports] s (postTo k l s) :=
  changesOnly_iff.mpr (by simp)

theorem post_changesOnly (k : Notice) (s : State) :
    changesOnly [.ports] s (post k s) :=
  changesOnly_iff.mpr (by simp)

theorem setPort_changesOnly (p : Port) (c : PortControl) (s : State) :
    changesOnly [.ports] s (setPort p c s) :=
  changesOnly_iff.mpr (by simp)

theorem setBus_changesOnly (x : DisplayBus) (s : State) :
    changesOnly [.bus] s (setBus x s) :=
  changesOnly_iff.mpr (by simp)

theorem setStore_changesOnly (x : Store) (s : State) :
    changesOnly [.store] s (setStore x s) :=
  changesOnly_iff.mpr (by simp)

theorem setSales_changesOnly (p : Port) (x : PortSales) (s : State) :
    changesOnly [.sales] s (setSales p x s) :=
  changesOnly_iff.mpr (by simp)

theorem endLoad_changesOnly (s : State) :
    changesOnly [.supply] s (endLoad s) :=
  changesOnly_iff.mpr (by simp)

theorem setSupply_changesOnly (x : Supply) (s : State) :
    changesOnly [.supply] s (setSupply x s) :=
  changesOnly_iff.mpr (by simp)

theorem changeReasons_changesOnly (rs : List Reason) (s : State) :
    changesOnly [.sales, .ports] s (changeReasons rs s) :=
  changesOnly_iff.mpr (by simp)

theorem freeMessage_changesOnly (j : Journal) (s : State) :
    changesOnly [.sales, .ports] s (freeMessage j s) :=
  changesOnly_iff.mpr (by simp)

theorem uploadDue_changesOnly (before : State) (s : State) :
    changesOnly [.ports] s (uploadDue before s) :=
  changesOnly_iff.mpr (by simp)

theorem append_changesOnly (k : EntryKind) (s : State) :
    changesOnly [.sales, .journal, .counters, .ports] s (append k s) :=
  changesOnly_iff.mpr (by simp)

theorem withdraw_changesOnly (hit : CallRef → Bool) (s : State) :
    changesOnly [.sales] s (withdraw hit s) :=
  changesOnly_iff.mpr (by simp)

theorem hear_changesOnly (p : Port) (n : Nat) (s : State) :
    changesOnly [.sales, .ports] s (hear p n s) :=
  changesOnly_iff.mpr (by simp)

theorem makeReply_changesOnly (p : Port) (code : Byte) (a : Answer) (s : State) :
    changesOnly [.counters, .ports] s (makeReply p code a s) :=
  changesOnly_iff.mpr (by simp)

theorem minuteTick_changesOnly (s : State) :
    changesOnly [.store, .sales, .journal, .compositor, .counters, .ports] s (minuteTick s) :=
  changesOnly_iff.mpr (by simp)

theorem startNext_changesOnly (l : DataLine) (s : State) :
    changesOnly [.bus, .counters, .ports] s (startNext l s) :=
  changesOnly_iff.mpr (by simp)

theorem beginFrame_changesOnly (l : DataLine) (s : State) :
    changesOnly [.compositor, .bus, .counters, .ports] s (beginFrame l s) :=
  changesOnly_iff.mpr (by simp)

theorem frameStart_changesOnly (l : DataLine) (s : State) :
    changesOnly [.compositor, .bus, .counters, .ports] s (frameStart l s) :=
  changesOnly_iff.mpr (by simp)

theorem settleAt_changesOnly (l : DataLine) (s : State) :
    changesOnly [.compositor, .bus, .counters, .ports, .draws] s (settleAt l s) :=
  changesOnly_iff.mpr (by simp)

theorem settle_changesOnly (s : State) :
    changesOnly [.compositor, .bus, .counters, .ports, .draws] s (settle s) :=
  changesOnly_iff.mpr (by simp)

theorem changeSupply_changesOnly (x : SupplyState) (l : DataLine) (s : State) :
    changesOnly [.sales, .journal, .compositor, .bus, .supply, .counters, .ports] s (changeSupply x l s) :=
  changesOnly_iff.mpr (by simp)

theorem resetPort_changesOnly (p : Port) (s : State) :
    changesOnly [.store, .sales, .journal, .supply, .ports] s (resetPort p s) :=
  changesOnly_iff.mpr (by simp)

theorem failBatch_changesOnly (p : Port) (s : State) :
    changesOnly [.journal, .scheduler, .counters, .draws] s (failBatch p s) :=
  changesOnly_iff.mpr (by simp)

theorem reportOutcome_changesOnly (t : Transaction) (o : OutcomeReport) (s : State) :
    changesOnly [.compositor, .counters, .ports] s (reportOutcome t o s) :=
  changesOnly_iff.mpr (by simp)

theorem stopDisplay_changesOnly (s : State) :
    changesOnly [.bus] s (stopDisplay s) :=
  changesOnly_iff.mpr (by simp)

theorem enterFault_changesOnly (c : FaultCause) (s : State) :
    changesOnly [.bus, .ports] s (enterFault c s) :=
  changesOnly_iff.mpr (by simp)

theorem enterIdle_changesOnly (s : State) :
    changesOnly [.bus] s (enterIdle s) :=
  changesOnly_iff.mpr (by simp)

theorem afterTransaction_changesOnly (l : DataLine) (s : State) :
    changesOnly [.bus, .counters, .ports] s (afterTransaction l s) := by
  unfold afterTransaction
  split
  · exact (stopDisplay_changesOnly s).mono (by simp)
  · exact ((setBus_changesOnly _ s).mono (by simp)).trans (startNext_changesOnly l _)

/-! ## Each command's own part -/

/-- The act's own part changes the listed blocks alone. -/
def Act.ChangesOnly (l : List Block) : Act → Prop
  | .request _ _ _ owner => ∀ s, changesOnly l s (owner s).1
  | .event f => ∀ s, changesOnly l s (f s)
  | .whole f => ∀ s, changesOnly l s (f s)

/-- A body that is not laid out as its row's fields is refused with nothing changed. -/
theorem onFields_changesOnly {α : Type} {l : List Block} {f : α → Owner}
    (own : ∀ x s, changesOnly l s (f x s).1) (b : Body α) (s : State) : changesOnly l s (onFields b f
        s).1 := by
  cases b with
  | fields x => exact own x s
  | raw bytes => exact changesOnly_refl l s

theorem timeSet_changesOnly (f : TimeSetBody) (s : State) :
    changesOnly [.clock, .store, .sales, .journal, .compositor, .counters, .ports] s ((timeSet f s).1) :=
  by
  unfold timeSet timeFirst timeWithin timeLater
  (repeat' split) <;> dsimp only <;> (repeat' split) <;> exact changesOnly_iff.mpr (by simp)

theorem ttBegin_changesOnly (p : Port) (f : TtBeginBody) (s : State) :
    changesOnly [.store] s ((ttBegin p f s).1) :=
  by
  dsimp only [ttBegin]
  (repeat' split) <;> exact changesOnly_iff.mpr (by simp)

theorem onStaging_changesOnly {l : List Block} (held : .store ∈ l) (p : Port) {act : Staging → Owner}
    (own : ∀ g s, changesOnly l s (act g s).1) (s : State) : changesOnly l s (onStaging p act s).1 := by
  unfold onStaging
  split
  · exact changesOnly_refl l s
  · split
    · exact changesOnly_refl l s
    · exact ((setStore_changesOnly _ s).mono (by simpa using held)).trans (own _ _)

theorem ttCalls_changesOnly (p : Port) (f : TtCallsBody) (s : State) :
    changesOnly [.store] s ((ttCalls p f s).1) :=
  onStaging_changesOnly (by simp) p (fun g s => by
    (repeat' split) <;> exact changesOnly_iff.mpr (by simp)) s

theorem placeStaging_changesOnly (g : Staging) (t : TableName) (s : State) :
    changesOnly [.clock, .store, .sales, .journal, .counters, .ports] s (placeStaging g t s) :=
  changesOnly_iff.mpr (by simp)

theorem ttEnd_changesOnly (p : Port) (f : NoFields) (s : State) :
    changesOnly [.clock, .store, .sales, .journal, .counters, .ports] s ((ttEnd p f s).1) :=
  onStaging_changesOnly (by simp) p (fun g s => by
    (repeat' split)
    all_goals first | exact placeStaging_changesOnly _ _ _ | exact changesOnly_iff.mpr (by simp)) s

theorem svcUpdate_changesOnly {l : List Block} (table : Byte) (service : BitVec 16) {act : CallRef → Call
    → Owner}
    (own : ∀ r c s, changesOnly l s (act r c s).1) (s : State) :
    changesOnly l s (svcUpdate table service act s).1 := by
  unfold svcUpdate
  (repeat' split) <;> first | exact changesOnly_refl l s | exact own _ _ s

theorem svcDelay_changesOnly (f : SvcDelayBody) (s : State) :
    changesOnly [.store] s ((svcDelay f s).1) :=
  svcUpdate_changesOnly _ _ (fun _ _ s => setStore_changesOnly _ s) s

theorem svcClearDelay_changesOnly (f : SvcCallBody) (s : State) :
    changesOnly [.store] s ((svcClearDelay f s).1) :=
  svcUpdate_changesOnly _ _ (fun _ _ s => setStore_changesOnly _ s) s

theorem svcCancel_changesOnly (f : SvcCallBody) (s : State) :
    changesOnly [.store, .sales] s ((svcCancel f s).1) :=
  svcUpdate_changesOnly _ _ (fun _ _ s => by
    split <;> exact changesOnly_iff.mpr (by simp)) s

theorem svcReinstate_changesOnly (f : SvcCallBody) (s : State) :
    changesOnly [.store] s ((svcReinstate f s).1) :=
  svcUpdate_changesOnly _ _ (fun _ _ s => by
    split
    · exact setStore_changesOnly _ s
    all_goals exact changesOnly_refl _ s) s

theorem quote_changesOnly (p : Port) (b : Body QuoteBody) (s : State) :
    changesOnly [.sales, .counters] s ((quote p b s).1) :=
  by
  dsimp only [quote]
  (repeat' split) <;> exact changesOnly_iff.mpr (by simp)

theorem refuseIssue_changesOnly (p : Port) (a : Answer) (s : State) :
    changesOnly [.sales, .counters] s ((refuseIssue p a s).1) :=
  by
  unfold refuseIssue
  exact changesOnly_iff.mpr (by simp)

theorem stockTests_changesOnly (s : State) :
    changesOnly [.sales, .ports] s (stockTests s) :=
  changesOnly_iff.mpr (by simp)

theorem countIssue_changesOnly (x : TicketType) (band : Band) (n : Nat) (s : State) :
    changesOnly [.counters] s (countIssue x band n s) :=
  changesOnly_iff.mpr (by simp)

theorem issueTicket_changesOnly (p : Port) (r : FareRequest) (x : Fare) (requoted : Bool) (s : State) :
    changesOnly [.sales, .journal, .counters, .ports] s ((issueTicket p r x requoted s).1) :=
  by
  unfold issueTicket
  dsimp only
  refine .trans ?_ ((stockTests_changesOnly _).mono (by simp))
  refine .trans ?_ ((setSales_changesOnly p _ _).mono (by simp))
  have issued (u : State) (h : changesOnly [.sales] s u) :
      changesOnly [.sales, .journal, .counters, .ports] s
        (countIssue r.ticket x.band x.total (append (.sale (nextSerial s.sales.blocks) p r x.band
            x.total) u)) :=
    ((h.mono (by simp)).trans (append_changesOnly _ u)).trans ((countIssue_changesOnly _ _ _ _).mono (by
        simp))
  have drawn : changesOnly [.sales] s
      { s with sales := { s.sales with blocks := takeSerial s.sales.blocks } } :=
    changesOnly_iff.mpr (by simp)
  split
  · exact (issued _ drawn).trans ((count_changesOnly _ _).mono (by simp))
  · exact issued _ drawn

theorem issue_changesOnly (p : Port) (f : IssueBody) (s : State) :
    changesOnly [.sales, .journal, .counters, .ports] s ((issue p f s).1) :=
  by
  have refused (a : Answer) : changesOnly [.sales, .journal, .counters, .ports] s (refuseIssue p a s).1 :=
    (refuseIssue_changesOnly p a s).mono (by simp)
  unfold issue
  split
  · exact (count_changesOnly _ s).mono (by simp)
  · cases (s.sales.ports.get p).issueCase f.number.toNat with
    | noQuote => exact refused _
    | invalidated => exact refused _
    | held q =>
      dsimp only
      cases s.heldChecks q with
      | error a => exact refused a
      | ok x => exact issueTicket_changesOnly p _ _ _ s
    | requote q =>
      dsimp only
      cases s.requoteChecks q with
      | error a => exact refused a
      | ok x => exact issueTicket_changesOnly p _ _ _ s

theorem voidSale_changesOnly (p : Port) (f : VoidBody) (s : State) :
    changesOnly [.sales, .journal, .counters, .ports] s ((voidSale p f s).1) :=
  by
  dsimp only [voidSale]
  (repeat' split) <;> exact changesOnly_iff.mpr (by simp)

theorem loadBegin_changesOnly (f : NoFields) (s : State) :
    changesOnly [.supply, .counters] s ((loadBegin f s).1) :=
  by
  unfold loadBegin endLoadAtLimit overrunLoad
  dsimp only
  (repeat' split) <;> exact changesOnly_iff.mpr (by simp)

theorem loadEnd_changesOnly (f : NoFields) (s : State) :
    changesOnly [.supply] s ((loadEnd f s).1) :=
  endLoad_changesOnly s

theorem fareRangeWrite_changesOnly (f : FareRangeBody) (s : State) :
    changesOnly [.fares] s ((fareRangeWrite f s).1) :=
  by
  dsimp only [fareRangeWrite]
  (repeat' split) <;> exact changesOnly_iff.mpr (by simp)

theorem farePriceWrite_changesOnly (f : FarePriceBody) (s : State) :
    changesOnly [.fares, .sales, .ports] s ((farePriceWrite f s).1) :=
  by
  dsimp only [farePriceWrite]
  (repeat' split) <;> exact changesOnly_iff.mpr (by simp)

theorem fareParamWrite_changesOnly (f : FareParamBody) (s : State) :
    changesOnly [.fares] s ((fareParamWrite f s).1) :=
  by
  unfold fareParamWrite
  exact changesOnly_iff.mpr (by simp)

theorem fareConcessionWrite_changesOnly (f : FareConcessionBody) (s : State) :
    changesOnly [.fares] s ((fareConcessionWrite f s).1) :=
  by
  dsimp only [fareConcessionWrite]
  (repeat' split) <;> exact changesOnly_iff.mpr (by simp)

theorem farePeakWrite_changesOnly (f : FarePeakBody) (s : State) :
    changesOnly [.fares] s ((farePeakWrite f s).1) :=
  by
  dsimp only [farePeakWrite]
  (repeat' split) <;> exact changesOnly_iff.mpr (by simp)

theorem rvlWrite_changesOnly (f : RvlWriteBody) (s : State) :
    changesOnly [.revoked] s ((rvlWrite f s).1) :=
  by
  dsimp only [rvlWrite]
  (repeat' split) <;> exact changesOnly_iff.mpr (by simp)

theorem rvlClearAll_changesOnly (f : NoFields) (s : State) :
    changesOnly [.revoked] s ((rvlClearAll f s).1) :=
  by
  unfold rvlClearAll
  exact changesOnly_iff.mpr (by simp)

theorem stockAdd_changesOnly (f : StockAddBody) (s : State) :
    changesOnly [.sales, .ports] s ((stockAdd f s).1) :=
  by
  unfold stockAdd
  split
  · exact changesOnly_refl _ s
  · dsimp only
    split <;> exact changesOnly_iff.mpr (by simp)

theorem batchTake_changesOnly (p : Port) (f : BatchTakeBody) (s : State) :
    changesOnly [.journal] s ((batchTake p f s).1) :=
  by
  unfold batchTake
  (repeat' split)
  all_goals first | exact changesOnly_refl _ s | exact takeBatch_changesOnly p _ s

theorem batchAck_changesOnly (p : Port) (f : BatchIdBody) (s : State) :
    changesOnly [.sales, .journal, .scheduler, .counters, .ports] s ((batchAck p f s).1) :=
  by
  cases p <;> dsimp only [batchAck, ifLink] <;> (repeat' split) <;> exact changesOnly_iff.mpr (by simp)

theorem batchFail_changesOnly (p : Port) (f : BatchIdBody) (s : State) :
    changesOnly [.journal, .scheduler, .counters, .ports, .draws] s ((batchFail p f s).1) :=
  by
  dsimp only [batchFail]
  (repeat' split) <;> exact changesOnly_iff.mpr (by simp)

theorem linkResume_changesOnly (p : Port) (f : NoFields) (s : State) :
    changesOnly [.scheduler, .ports] s ((linkResume p f s).1) :=
  by
  cases p <;> dsimp only [linkResume] <;> exact changesOnly_iff.mpr (by simp)

theorem panelConfig_changesOnly (p : Port) (f : PanelConfigBody) (s : State) :
    changesOnly [.compositor] s ((panelConfig p f s).1) :=
  by
  dsimp only [panelConfig]
  (repeat' split) <;> exact changesOnly_iff.mpr (by simp)

theorem panelConfigGroup_changesOnly (p : Port) (f : PanelGroupBody) (s : State) :
    changesOnly [.compositor] s ((panelConfigGroup p f s).1) :=
  by
  dsimp only [panelConfigGroup]
  (repeat' split) <;> exact changesOnly_iff.mpr (by simp)

theorem startFrames_changesOnly (l : DataLine) (s : State) :
    changesOnly [.compositor, .bus, .counters, .ports] s (startFrames l s) :=
  changesOnly_iff.mpr (by simp)

theorem displayStart_changesOnly (l : DataLine) (s : State) :
    changesOnly [.compositor, .bus, .counters, .ports, .draws] s ((displayStart l s).1) :=
  by
  unfold displayStart displayAnswer
  dsimp only
  split
  · exact (((setBus_changesOnly _ s).mono (by simp)).trans
      ((startFrames_changesOnly l _).mono (by simp))).trans (settleAt_changesOnly l _)
  all_goals exact changesOnly_iff.mpr (by simp)

theorem displayStop_changesOnly (s : State) :
    changesOnly [.bus] s ((displayStop s).1) :=
  by
  unfold displayStop displayAnswer
  dsimp only
  (repeat' split) <;> exact changesOnly_iff.mpr (by simp)

theorem displayRecover_changesOnly (p : Port) (l : ClockLine) (s : State) :
    changesOnly [.bus, .counters] s ((displayRecover p l s).1) :=
  by
  unfold displayRecover displayAnswer
  (repeat' split) <;> exact changesOnly_iff.mpr (by simp)

theorem intervalPacingTaken_changesOnly (l : DataLine) (s : State) :
    changesOnly [.compositor, .bus, .counters, .ports] s (intervalPacingTaken l s) :=
  changesOnly_iff.mpr (by simp)

theorem intervalChanged_changesOnly (old : Nat) (l : DataLine) (s : State) :
    changesOnly [.compositor, .bus, .counters, .ports] s (intervalChanged old l s) :=
  changesOnly_iff.mpr (by simp)

theorem displayPacing_changesOnly (f : DisplayPacingBody) (l : DataLine) (s : State) :
    changesOnly [.compositor, .bus, .counters, .ports, .draws] s ((displayPacing f l s).1) :=
  by
  unfold displayPacing displayAnswer
  split
  · dsimp only
    split
    · exact changesOnly_iff.mpr (by simp)
    · exact (((setBus_changesOnly _ s).mono (by simp)).trans
        ((intervalPacingTaken_changesOnly l _).mono (by simp))).trans (settleAt_changesOnly l _)
    · exact (((setBus_changesOnly _ s).mono (by simp)).trans
        ((intervalChanged_changesOnly _ l _).mono (by simp))).trans (settleAt_changesOnly l _)
    · exact changesOnly_iff.mpr (by simp)
  · exact changesOnly_refl _ s

theorem displayFrameCount_changesOnly (p : Port) (f : FrameCountBody) (s : State) :
    changesOnly [.bus] s ((displayFrameCount p f s).1) :=
  by
  unfold displayFrameCount displayAnswer
  split <;> exact changesOnly_iff.mpr (by simp)

theorem displayAutoRecovery_changesOnly (b : Body AutoRecoveryBody) (s : State) :
    changesOnly [.bus] s ((displayAutoRecovery b s).1) :=
  by
  unfold displayAutoRecovery displayAnswer
  (repeat' split) <;> exact changesOnly_iff.mpr (by simp)

theorem supplyLevels_changesOnly (f : SupplyLevelsBody) (s : State) :
    changesOnly [.supply] s ((supplyLevels f s).1) :=
  by
  dsimp only [supplyLevels]
  (repeat' split) <;> exact changesOnly_iff.mpr (by simp)

theorem treadleMode_changesOnly (p : Port) (f : TreadleModeBody) (s : State) :
    changesOnly [.detector] s ((treadleMode p f s).1) :=
  by
  dsimp only [treadleMode, changeMode]
  (repeat' split) <;> exact changesOnly_iff.mpr (by simp)

theorem salesSuspend_changesOnly (p : Port) (f : NoFields) (s : State) :
    changesOnly [.sales, .ports] s ((salesSuspend p f s).1) :=
  by
  cases p <;> dsimp only [salesSuspend] <;> exact changesOnly_iff.mpr (by simp)

theorem salesResume_changesOnly (p : Port) (f : NoFields) (s : State) :
    changesOnly [.sales, .ports] s ((salesResume p f s).1) :=
  by
  cases p <;> dsimp only [salesResume] <;> exact changesOnly_iff.mpr (by simp)

theorem setRights_changesOnly (p : Port) (f : SetRightsBody) (s : State) :
    changesOnly [.ports] s ((setRights p f s).1) :=
  by
  dsimp only [setRights]
  (repeat' split) <;> exact changesOnly_iff.mpr (by simp)

theorem portReset_changesOnly (p : Port) (f : PortResetBody) (s : State) :
    changesOnly [.store, .sales, .journal, .supply, .ports] s ((portReset p f s).1) :=
  by
  dsimp only [portReset]
  (repeat' split) <;> exact changesOnly_iff.mpr (by simp)

theorem status_changesOnly (f : StatusBody) (s : State) :
    changesOnly [] s ((status f s).1) :=
  by
  unfold status
  (repeat' split) <;> exact changesOnly_refl _ s

theorem listCalls_changesOnly (f : TableRunBody) (s : State) :
    changesOnly [] s ((listCalls f s).1) :=
  by
  unfold listCalls
  (repeat' split) <;> exact changesOnly_refl _ s

theorem fareRead_changesOnly (f : TableRunBody) (s : State) :
    changesOnly [] s ((fareRead f s).1) :=
  by
  unfold fareRead
  (repeat' split) <;> exact changesOnly_refl _ s

theorem rvlRead_changesOnly (f : RunBody) (s : State) :
    changesOnly [] s ((rvlRead f s).1) :=
  by
  unfold rvlRead
  (repeat' split) <;> exact changesOnly_refl _ s

theorem readCounters_changesOnly (p : Port) (f : ReadCountersBody) (s : State) :
    changesOnly [.counters] s ((readCounters p f s).1) :=
  by
  dsimp only [readCounters]
  (repeat' split)
  · exact changesOnly_refl _ s
  · exact changesOnly_refl _ s
  · exact changesOnly_refl _ s
  · exact changesOnly_iff.mpr (by simp)
  · exact changesOnly_refl _ s

theorem readNotices_changesOnly (p : Port) (f : ReadNoticesBody) (s : State) :
    changesOnly [.ports] s ((readNotices p f s).1) :=
  by
  dsimp only [readNotices]
  (repeat' split) <;> exact changesOnly_iff.mpr (by simp)

theorem unheard_changesOnly (p : Port) (n : Nat) (s : State) :
    changesOnly [.ports] s (unheard p n s) :=
  by
  dsimp only [unheard]
  (repeat' split) <;> exact changesOnly_iff.mpr (by simp)

theorem unknownFrame_changesOnly (p : Port) (code : Byte) (body : List Byte) (s : State) :
    changesOnly [.sales, .counters, .ports] s (unknownFrame p code body s) :=
  by
  unfold unknownFrame
  split
  · exact ((hear_changesOnly p _ s).mono (by simp)).trans ((makeReply_changesOnly p _ _ _).mono (by simp))
  · exact (unheard_changesOnly p _ s).mono (by simp)

theorem cutFrame_changesOnly (p : Port) (received : List Byte) (s : State) :
    changesOnly [.counters, .ports] s (cutFrame p received s) :=
  by
  unfold cutFrame
  (repeat' split)
  · exact changesOnly_refl _ s
  · exact changesOnly_iff.mpr (by simp)
  · exact (unheard_changesOnly p _ s).mono (by simp)

theorem readReply_changesOnly (p : Port) (n : Nat) (s : State) :
    changesOnly [.ports] s (readReply p n s) :=
  by
  unfold readReply
  split
  · exact setPort_changesOnly _ _ s
  · exact unheard_changesOnly p _ s

theorem resetLineActive_changesOnly (p : Port) (s : State) :
    changesOnly [.store, .sales, .journal, .supply, .ports] s (resetLineActive p s) :=
  by
  dsimp only [resetLineActive]
  (repeat' split) <;> exact changesOnly_iff.mpr (by simp)

theorem resetLineInactive_changesOnly (p : Port) (s : State) :
    changesOnly [.ports] s (resetLineInactive p s) :=
  by
  dsimp only [resetLineInactive]
  (repeat' split) <;> exact changesOnly_iff.mpr (by simp)

theorem resetLineFirst_changesOnly (p : Port) (active : Bool) (s : State) :
    changesOnly [.ports] s (resetLineFirst p active s) :=
  by
  dsimp only [resetLineFirst]
  (repeat' split) <;> exact changesOnly_iff.mpr (by simp)

theorem elapse_changesOnly (s : State) :
    changesOnly [.store, .detector, .sales, .journal, .scheduler, .compositor, .bus, .supply] s (elapse
        s) :=
  changesOnly_iff.mpr (by simp [elapse])

theorem advanceClock_changesOnly (s : State) :
    changesOnly [.clock, .store, .sales, .journal, .compositor, .counters, .ports] s (advanceClock s) :=
  by
  dsimp only [advanceClock]
  (repeat' split) <;> exact changesOnly_iff.mpr (by simp)

theorem secondElapses_changesOnly (s : State) :
    changesOnly [.clock, .store, .detector, .sales, .journal, .scheduler, .compositor, .bus, .supply,
        .counters, .ports] s (secondElapses s) :=
  by
  unfold secondElapses
  split
  · exact ((elapse_changesOnly s).mono (by simp)).trans ((advanceClock_changesOnly _).mono (by simp))
  · exact changesOnly_iff.mpr (by simp)

theorem stagingExpired_changesOnly (s : State) :
    changesOnly [.store, .ports] s (stagingExpired s) :=
  by
  dsimp only [stagingExpired]
  (repeat' split) <;> exact changesOnly_iff.mpr (by simp)

theorem passageClosed_changesOnly (s : State) :
    changesOnly [.store, .detector, .sales, .journal, .counters, .ports] s (passageClosed s) :=
  by
  dsimp only [passageClosed, closePassage]
  (repeat' split) <;> exact changesOnly_iff.mpr (by simp)

theorem quoteExpired_changesOnly (p : Port) (s : State) :
    changesOnly [.sales] s (quoteExpired p s) :=
  by
  unfold quoteExpired
  dsimp only
  (repeat' split) <;> exact changesOnly_iff.mpr (by simp)

theorem voidWindowExpired_changesOnly (p : Port) (s : State) :
    changesOnly [.sales] s (voidWindowExpired p s) :=
  by
  unfold voidWindowExpired
  dsimp only
  (repeat' split) <;> exact changesOnly_iff.mpr (by simp)

theorem silenceExpired_changesOnly (s : State) :
    changesOnly [.sales] s (silenceExpired s) :=
  by
  dsimp only [silenceExpired]
  (repeat' split) <;> exact changesOnly_iff.mpr (by simp)

theorem batchTimedOut_changesOnly (s : State) :
    changesOnly [.journal, .scheduler, .counters, .ports, .draws] s (batchTimedOut s) :=
  by
  dsimp only [batchTimedOut]
  (repeat' split) <;> exact changesOnly_iff.mpr (by simp)

theorem waitExpired_changesOnly (s : State) :
    changesOnly [.scheduler, .ports] s (waitExpired s) :=
  by
  dsimp only [waitExpired]
  (repeat' split) <;> exact changesOnly_iff.mpr (by simp)

theorem presenceIdleExpired_changesOnly (s : State) :
    changesOnly [.compositor] s (presenceIdleExpired s) :=
  by
  unfold presenceIdleExpired
  dsimp only
  (repeat' split) <;> exact changesOnly_iff.mpr (by simp)

theorem frameTimerExpired_changesOnly (l : DataLine) (s : State) :
    changesOnly [.compositor, .bus, .counters, .ports] s (frameTimerExpired l s) :=
  by
  unfold frameTimerExpired
  split
  · exact ((setBus_changesOnly _ s).mono (by simp)).trans (frameStart_changesOnly l _)
  · exact changesOnly_refl _ s

theorem probeTimerExpired_changesOnly (i : Fin 8) (s : State) :
    changesOnly [.bus] s (probeTimerExpired i s) :=
  by
  dsimp only [probeTimerExpired]
  (repeat' split) <;> exact changesOnly_iff.mpr (by simp)

theorem sampleTaken_changesOnly (mv : Nat) (l : DataLine) (s : State) :
    changesOnly [.sales, .journal, .compositor, .bus, .supply, .counters, .ports] s (sampleTaken mv l s) :=
  by
  unfold sampleTaken applySample
  split
  · dsimp only
    split
    · exact (setSupply_changesOnly _ s).mono (by simp)
    · exact ((setSupply_changesOnly _ s).mono (by simp)).trans (changeSupply_changesOnly _ l _)
  · exact changesOnly_refl _ s

theorem loadTimedOut_changesOnly (s : State) :
    changesOnly [.supply, .counters] s (loadTimedOut s) :=
  by
  unfold loadTimedOut overrunLoad
  (repeat' split) <;> exact changesOnly_iff.mpr (by simp)

theorem treadleRises_changesOnly (t : TreadleId) (s : State) :
    changesOnly [.detector] s (treadleRises t s) :=
  by
  unfold treadleRises rise
  dsimp only
  (repeat' split) <;> exact changesOnly_iff.mpr (by simp)

theorem treadleFalls_changesOnly (t : TreadleId) (s : State) :
    changesOnly [.detector, .counters, .ports] s (treadleFalls t s) :=
  by
  unfold treadleFalls fall unpaired
  dsimp only
  (repeat' split) <;> exact changesOnly_iff.mpr (by simp)

theorem treadleFirst_changesOnly (t : TreadleId) (pressed : Bool) (s : State) :
    changesOnly [.detector] s (treadleFirst t pressed s) :=
  by
  unfold treadleFirst
  dsimp only
  split <;> exact changesOnly_iff.mpr (by simp)

theorem presenceEdge_changesOnly (o : Bool) (s : State) :
    changesOnly [.compositor] s (presenceEdge o s) :=
  by
  unfold presenceEdge
  dsimp only
  (repeat' split) <;> exact changesOnly_iff.mpr (by simp)

theorem presenceFirst_changesOnly (o : Bool) (s : State) :
    changesOnly [.compositor] s (presenceFirst o s) :=
  by
  dsimp only [presenceFirst]
  (repeat' split) <;> exact changesOnly_iff.mpr (by simp)

theorem triggerEdge_changesOnly (high : Bool) (l : DataLine) (s : State) :
    changesOnly [.compositor, .bus, .counters, .ports] s (triggerEdge high l s) :=
  by
  unfold triggerEdge
  dsimp only
  (repeat' split)
  · exact ((setBus_changesOnly _ s).mono (by simp)).trans
      (((setBus_changesOnly _ _).mono (by simp)).trans (frameStart_changesOnly l _))
  all_goals exact changesOnly_iff.mpr (by simp)

theorem triggerFirst_changesOnly (high : Bool) (s : State) :
    changesOnly [.bus] s (triggerFirst high s) :=
  by
  dsimp only [triggerFirst]
  (repeat' split) <;> exact changesOnly_iff.mpr (by simp)

theorem transactionEnded_changesOnly (e : TransactionEnd) (l : DataLine) (s : State) :
    changesOnly [.compositor, .bus, .counters, .ports] s (transactionEnded e l s) :=
  by
  unfold transactionEnded
  (repeat' split)
  · exact changesOnly_refl _ s
  · exact ((reportOutcome_changesOnly _ _ s).mono (by simp)).trans
      ((afterTransaction_changesOnly l _).mono (by simp))
  · exact (((reportOutcome_changesOnly _ _ s).mono (by simp)).trans ((setBus_changesOnly _ _).mono (by
      simp))).trans
      ((afterTransaction_changesOnly l _).mono (by simp))

theorem busDisturbed_changesOnly (l : DataLine) (s : State) :
    changesOnly [.compositor, .bus, .counters, .ports] s (busDisturbed l s) :=
  by
  unfold busDisturbed
  split
  · exact changesOnly_refl _ s
  · exact ((reportOutcome_changesOnly _ _ s).mono (by simp)).trans
      ((afterTransaction_changesOnly l _).mono (by simp))

theorem stuckClock_changesOnly (s : State) :
    changesOnly [.bus, .ports] s (stuckClock s) :=
  by
  dsimp only [stuckClock]
  (repeat' split) <;> exact changesOnly_iff.mpr (by simp)

theorem recoveryEndedAuto_changesOnly (r : RecoveryResult) (l : DataLine) (s : State) :
    changesOnly [.bus, .counters, .ports] s (recoveryEndedAuto r l s) :=
  by
  unfold recoveryEndedAuto
  (repeat' split)
  · exact (enterFault_changesOnly _ s).mono (by simp)
  · exact (stopDisplay_changesOnly s).mono (by simp)
  · exact startNext_changesOnly l s
  · exact changesOnly_refl _ s

theorem recoveryEndedManual_changesOnly (r : RecoveryResult) (s : State) :
    changesOnly [.bus, .ports] s (recoveryEndedManual r s) :=
  by
  dsimp only [recoveryEndedManual]
  (repeat' split) <;> exact changesOnly_iff.mpr (by simp)

theorem coldStarted_changesOnly (s : State) :
    changesOnly [.core, .clock, .store, .detector, .fares, .revoked, .sales, .journal, .scheduler,
        .compositor, .bus, .supply, .counters, .ports] s (coldStarted s) :=
  changesOnly_iff.mpr (by simp [coldStarted])

theorem coreLost_changesOnly (s : State) :
    changesOnly [.store, .detector, .sales, .journal, .scheduler, .compositor, .bus, .supply, .ports] s
        (coreLost s) :=
  changesOnly_iff.mpr (by simp [coreLost, startIdle])

theorem resumeFrames_changesOnly (l : DataLine) (s : State) :
    changesOnly [.compositor, .bus, .counters, .ports] s (resumeFrames l s) :=
  by
  dsimp only [resumeFrames]
  (repeat' split) <;> exact changesOnly_iff.mpr (by simp)

theorem startUpload_changesOnly (s : State) :
    changesOnly [.ports] s (startUpload s) :=
  by
  dsimp only [startUpload]
  (repeat' split) <;> exact changesOnly_iff.mpr (by simp)

theorem startBoundary_changesOnly (s : State) :
    changesOnly [.clock, .store, .sales, .ports] s (startBoundary s) :=
  by
  dsimp only [startBoundary]
  (repeat' split) <;> exact changesOnly_iff.mpr (by simp)

theorem startTick_changesOnly (s : State) :
    changesOnly [.store, .sales, .journal, .compositor, .counters, .ports] s (startTick s) :=
  by
  dsimp only [startTick]
  (repeat' split) <;> exact changesOnly_iff.mpr (by simp)

theorem restarted_changesOnly (s : State) :
    changesOnly [.ports] s (restarted s) :=
  changesOnly_iff.mpr (by simp)

theorem rebuildReasons_changesOnly (s : State) :
    changesOnly [.sales] s (rebuildReasons s) :=
  changesOnly_iff.mpr (by simp)

theorem warmStarted_changesOnly (l : DataLine) (s : State) :
    changesOnly [.core, .clock, .store, .detector, .sales, .journal, .scheduler, .compositor, .bus,
        .supply, .counters, .ports] s (warmStarted l s) :=
  by
  have up : changesOnly [.core] s { s with core := .up } := changesOnly_iff.mpr (by simp)
  refine .trans ?_ ((resumeFrames_changesOnly l _).mono (by simp))
  refine .trans ?_ ((startTick_changesOnly _).mono (by simp))
  refine .trans ?_ ((startBoundary_changesOnly _).mono (by simp))
  refine .trans ?_ ((startUpload_changesOnly _).mono (by simp))
  refine .trans ?_ ((restarted_changesOnly _).mono (by simp))
  refine .trans ?_ ((rebuildReasons_changesOnly _).mono (by simp))
  refine .trans ?_ ((append_changesOnly _ _).mono (by simp))
  exact (up.mono (by simp)).trans ((coreLost_changesOnly _).mono (by simp))

theorem dip_changesOnly (s : State) :
    changesOnly [.core, .store, .detector, .sales, .journal, .scheduler, .compositor, .bus, .supply,
        .ports] s (dip s) :=
  by
  have down : changesOnly [.core] s { s with core := .down } := changesOnly_iff.mpr (by simp)
  unfold dip
  split
  · exact (down.mono (by simp)).trans ((coreLost_changesOnly _).mono (by simp))
  · exact changesOnly_refl _ s

/-- Each command's own part changes its blocks alone. -/
theorem actOf_changesOnly (i : Instr) : (actOf i).ChangesOnly (blocksOf i) := by
  cases i with
  | timeSet p b => exact onFields_changesOnly timeSet_changesOnly b
  | ttBegin p b => exact onFields_changesOnly (ttBegin_changesOnly p) b
  | ttCalls p b => exact onFields_changesOnly (ttCalls_changesOnly p) b
  | ttEnd p b => exact onFields_changesOnly (ttEnd_changesOnly p) b
  | svcUpdateDelay p b => exact onFields_changesOnly svcDelay_changesOnly b
  | svcUpdateClearDelay p f => exact svcClearDelay_changesOnly f
  | svcUpdateCancel p f => exact svcCancel_changesOnly f
  | svcUpdateReinstate p f => exact svcReinstate_changesOnly f
  | quote p b => exact quote_changesOnly p b
  | issue p b => exact onFields_changesOnly (issue_changesOnly p) b
  | void p b => exact onFields_changesOnly (voidSale_changesOnly p) b
  | loadBegin p b => exact onFields_changesOnly loadBegin_changesOnly b
  | loadEnd p b => exact onFields_changesOnly loadEnd_changesOnly b
  | fareRangeWrite p b => exact onFields_changesOnly fareRangeWrite_changesOnly b
  | farePriceWrite p b => exact onFields_changesOnly farePriceWrite_changesOnly b
  | fareParamWrite p b => exact onFields_changesOnly fareParamWrite_changesOnly b
  | fareConcessionWrite p b => exact onFields_changesOnly fareConcessionWrite_changesOnly b
  | farePeakWrite p b => exact onFields_changesOnly farePeakWrite_changesOnly b
  | rvlWrite p b => exact onFields_changesOnly rvlWrite_changesOnly b
  | rvlClearAll p b => exact onFields_changesOnly rvlClearAll_changesOnly b
  | stockAdd p b => exact onFields_changesOnly stockAdd_changesOnly b
  | batchTake p b => exact onFields_changesOnly (batchTake_changesOnly p) b
  | batchAck p b => exact onFields_changesOnly (batchAck_changesOnly p) b
  | batchFail p b => exact onFields_changesOnly (batchFail_changesOnly p) b
  | linkResume p b => exact onFields_changesOnly (linkResume_changesOnly p) b
  | panelConfig p b => exact onFields_changesOnly (panelConfig_changesOnly p) b
  | panelConfigGroup p f => exact panelConfigGroup_changesOnly p f
  | displayStart p line => exact displayStart_changesOnly line
  | displayStop p => exact displayStop_changesOnly
  | displayRecover p line => exact displayRecover_changesOnly p line
  | displayPacing p f line => exact displayPacing_changesOnly f line
  | displayFrameCount p f => exact displayFrameCount_changesOnly p f
  | displayAutoRecovery p b => exact displayAutoRecovery_changesOnly b
  | supplyLevels p b => exact onFields_changesOnly supplyLevels_changesOnly b
  | treadleMode p b => exact onFields_changesOnly (treadleMode_changesOnly p) b
  | salesSuspend p b => exact onFields_changesOnly (salesSuspend_changesOnly p) b
  | salesResume p b => exact onFields_changesOnly (salesResume_changesOnly p) b
  | setRights p b => exact onFields_changesOnly (setRights_changesOnly p) b
  | portReset p b => exact onFields_changesOnly (portReset_changesOnly p) b
  | status p b => exact onFields_changesOnly status_changesOnly b
  | listCalls p b => exact onFields_changesOnly listCalls_changesOnly b
  | fareRead p b => exact onFields_changesOnly fareRead_changesOnly b
  | rvlRead p b => exact onFields_changesOnly rvlRead_changesOnly b
  | readCounters p b => exact onFields_changesOnly (readCounters_changesOnly p) b
  | readNotices p b => exact onFields_changesOnly (readNotices_changesOnly p) b
  | unknownRequest p code body => exact unknownFrame_changesOnly p code body
  | frameCut p received => exact cutFrame_changesOnly p received
  | replyRead p clocked => exact readReply_changesOnly p clocked
  | portResetLineActive p => exact resetLineActive_changesOnly p
  | portResetLineInactive p => exact resetLineInactive_changesOnly p
  | portResetLineFirstAcceptance p active => exact resetLineFirst_changesOnly p active
  | clockSecond => exact secondElapses_changesOnly
  | stagingIdleTimeout => exact stagingExpired_changesOnly
  | passageClose => exact passageClosed_changesOnly
  | quoteExpiry p => exact quoteExpired_changesOnly p
  | voidWindowExpiry p => exact voidWindowExpired_changesOnly p
  | terminalSilenceExpiry => exact silenceExpired_changesOnly
  | batchTimeout => exact batchTimedOut_changesOnly
  | waitExpiry => exact waitExpired_changesOnly
  | presenceIdleExpiry => exact presenceIdleExpired_changesOnly
  | frameTimerExpiry line => exact frameTimerExpired_changesOnly line
  | probeTimerExpiry panel => exact probeTimerExpired_changesOnly panel
  | sample millivolts line => exact sampleTaken_changesOnly millivolts line
  | loadPeriodTimeout => exact loadTimedOut_changesOnly
  | treadleRisingEdge t => exact treadleRises_changesOnly t
  | treadleFallingEdge t => exact treadleFalls_changesOnly t
  | treadleFirstAcceptance t pressed => exact treadleFirst_changesOnly t pressed
  | presenceEdge occupied => exact presenceEdge_changesOnly occupied
  | presenceFirstAcceptance occupied => exact presenceFirst_changesOnly occupied
  | triggerEdge high line => exact triggerEdge_changesOnly high line
  | triggerFirstAcceptance high => exact triggerFirst_changesOnly high
  | transactionEnd e line => exact transactionEnded_changesOnly e line
  | busDisturbed line => exact busDisturbed_changesOnly line
  | stuckClock => exact stuckClock_changesOnly
  | recoveryEndAuto r line => exact recoveryEndedAuto_changesOnly r line
  | recoveryEndManual r _ => exact recoveryEndedManual_changesOnly r
  | coldStart => exact coldStarted_changesOnly
  | warmStart line => exact warmStarted_changesOnly line
  | coreSupplyDip => exact dip_changesOnly

/-- A property of blocks that a command's own part leaves alone is kept by it. -/
theorem keeps_of_untouched {P : State → Prop} (deps : List Block)
    (depends : ∀ s t : State, (∀ b ∈ deps, b.same s t) → P s → P t) {i : Instr}
    (untouched : ∀ b ∈ deps, b ∉ blocksOf i) : (actOf i).Keeps P := by
  have changes := actOf_changesOnly i
  revert changes
  generalize actOf i = a
  intro changes
  cases a with
  | request p c body owner =>
    exact fun s _ h => depends s _ (fun b hb => (changes s).2 b (untouched b hb)) h
  | event f => exact fun s _ h => depends s _ (fun b hb => (changes s).2 b (untouched b hb)) h
  | whole f => exact fun s h => depends s _ (fun b hb => (changes s).2 b (untouched b hb)) h

/-! ## What an elapsed second and a warm start come to -/

/-- The clock stands, counts a second, ticks a minute, or runs over into a day boundary and its tick (R1 to R3). -/
theorem advanceClock_cases (s : State) :
    advanceClock s = s ∨
    (s.clock.valid = true ∧ s.clock.second < lastSecond ∧
      (advanceClock s = setClock { s.clock with second := s.clock.second + 1 } s ∨
        advanceClock s = minuteTick (setClock { s.clock with second := s.clock.second + 1 } s))) ∨
    (s.clock.valid = true ∧ advanceClock s =
      minuteTick (dayBoundary .weekday (setClock { s.clock with day := s.clock.day + 1, second := 0 } s))) := by
  cases valid : s.clock.valid with
  | false => exact .inl (by simp [advanceClock, valid])
  | true =>
    dsimp only [advanceClock]
    rw [if_neg (by simp [valid])]
    split
    · refine .inr (.inl ⟨rfl, ‹_›, ?_⟩)
      split
      · exact .inl rfl
      · exact .inr rfl
    · split
      · exact .inr (.inr ⟨rfl, rfl⟩)
      · exact .inl rfl

/-- A second of a running core domain counts the timers and advances the clock; with the core supply down it
advances the clock alone (R4). -/
theorem secondElapses_keeps {P : State → Prop} {s : State}
    (down : s.core = .down → P (setClock s.clock.dipSecond s))
    (elapsed : s.core = .up → P (elapse s))
    (second : ∀ t : State, t.clock.valid = true → t.clock.second < lastSecond → P t →
      P (setClock { t.clock with second := t.clock.second + 1 } t))
    (tick : ∀ t : State, P t → P (minuteTick t))
    (boundary : ∀ t : State, t.core = .up → t.clock.valid = true → P t →
      P (dayBoundary .weekday (setClock { t.clock with day := t.clock.day + 1, second := 0 } t))) :
    P (secondElapses s) := by
  unfold secondElapses
  split
  · have begun := elapsed ‹_›
    rcases advanceClock_cases (elapse s) with e | ⟨valid, below, e | e⟩ | ⟨valid, e⟩ <;> rw [e]
    · exact begun
    · exact second _ valid below begun
    · exact tick _ (second _ valid below begun)
    · exact tick _ (boundary _ ‹s.core = .up› valid begun)
  · exact down ‹_›

/-- A warm start up to its notices: the core domain lost and begun again, the START entry, the reasons rebuilt. -/
def warmBegun (s : State) : State :=
  startUpload (restarted (rebuildReasons (append (.start .warm) (coreLost { s with core := .up }))))

theorem warmStarted_eq (l : DataLine) (s : State) :
    warmStarted l s = resumeFrames l (startTick (startBoundary (warmBegun s))) := rfl

/-- What a warm start keeps: what its beginning brings about, and the day boundary (whose day is past the store's),
the minute tick and the resumed frames keep. -/
theorem warmStarted_keeps {P : State → Prop} {l : DataLine} {s : State} (begun : P (warmBegun s))
    (boundary : ∀ t : State, t.store.storeDay < t.clock.day → P t → P (dayBoundary .weekday t))
    (tick : ∀ t : State, P t → P (minuteTick t)) (resume : ∀ t : State, P t → P (resumeFrames l t)) :
    P (warmStarted l s) := by
  rw [warmStarted_eq]
  have bounded : P (startBoundary (warmBegun s)) := by
    unfold startBoundary
    split
    · exact boundary _ ‹_› begun
    · exact begun
  refine resume _ ?_
  unfold startTick
  split
  · exact tick _ bounded
  · exact bounded

end Sys2Proof.Machine
end

section
/-! PROOFS. The journal's order (O53): what an append, a take, an acknowledgement and a return do to it, and the
commands that carry them out. -/

namespace Sys2Proof.Machine

variable {s : State} {j : Journal}

/-! ## The journal after an append -/

/-- An append adds an entry where its kind finds room, and else leaves the journal alone (R100, R102). -/
@[simp] theorem append_journal (k : EntryKind) (s : State) :
    (append k s).journal = if s.journal.free < k.room then s.journal else (pushEntry k s).journal := by
  rcases append_eq k s with ⟨full, e⟩ | ⟨room, e⟩ <;> rw [e]
  · rw [if_pos full]
    simp
  · rw [if_neg (Nat.not_lt.mpr room)]
    simp

theorem EntryKind.one_le_room (k : EntryKind) : 1 ≤ k.room := by cases k <;> simp [EntryKind.room]

/-- A free entry means that neither the size nor the sequence numbers have run out (R99, R101). -/
theorem Journal.free_pos_iff : 1 ≤ j.free ↔ j.entries.length < journalSize ∧ j.nextSequence ≤ lastSequence := by
  unfold Journal.free
  split <;> omega

theorem Journal.ok.pushEntry (h : s.journal.ok) (room : 1 ≤ s.journal.free) (k : EntryKind) :
    (pushEntry k s).journal.ok := by
  obtain ⟨size, below, -, consecutive, batch, batchId⟩ := h
  obtain ⟨more, left⟩ := Journal.free_pos_iff.mp room
  have old {i : Nat} {e : Entry} (he : (s.journal.entries ++ [newEntry k s])[i]? = some e) :
      s.journal.entries[i]? = some e ∨ i = s.journal.entries.length ∧ e = newEntry k s := by
    rw [List.getElem?_append] at he
    split at he
    · exact .inl he
    · rw [List.getElem?_singleton] at he
      split at he
      · exact .inr ⟨by omega, (Option.some.inj he).symm⟩
      · cases he
  refine ⟨by simp only [Machine.pushEntry, List.length_append, List.length_singleton]; omega,
    by simpa [Machine.pushEntry] using below, Nat.succ_le_succ left, fun i e he => ?_, ?_, batchId⟩
  · rcases old he with he | ⟨rfl, rfl⟩
    · have := consecutive i e he
      have := (List.getElem?_eq_some_iff.mp he).1
      simp only [Machine.pushEntry, List.length_append, List.length_singleton]
      omega
    · simp only [Machine.pushEntry, newEntry, List.length_append, List.length_singleton]
      omega
  · unfold Journal.batchFits at batch ⊢
    cases hb : s.journal.batch with
    | none =>
      simp only [hb, Machine.pushEntry] at batch ⊢
      intro e he
      rcases List.mem_append.mp he with he | he
      · exact batch e he
      · rw [List.mem_singleton.mp he]
        rfl
    | some b =>
      simp only [hb, Machine.pushEntry, List.length_append, List.length_singleton] at batch ⊢
      obtain ⟨low, high, held, first, states⟩ := batch
      refine ⟨low, high, by omega, by omega, fun i e he => ?_⟩
      rcases old he with he | ⟨rfl, rfl⟩
      · exact states i e he
      · simp only [newEntry, reduceCtorEq, false_iff]
        omega

theorem Journal.ok.append (h : s.journal.ok) (k : EntryKind) : (append k s).journal.ok := by
  rw [append_journal]
  split
  · exact h
  · exact h.pushEntry (Nat.le_trans k.one_le_room (Nat.le_of_not_lt ‹_›)) k

/-! ## Batches taken, acknowledged and returned -/

/-- Every entry takes at least 11 bytes, so that at most 22 fit in a batch (11.2). -/
theorem Entry.le_length_bytes (e : Entry) : 11 ≤ e.bytes.length := by
  have fields : 1 ≤ e.kind.bytes.length := by
    cases e.kind with
    | start k => cases k <;> simp [EntryKind.bytes]
    | sale => simp [EntryKind.bytes]; omega
    | _ => simp [EntryKind.bytes]
  simp only [Entry.bytes, List.length_append, length_num, length_num1]
  omega

theorem length_flatMap_bytes_ge (es : List Entry) : 11 * es.length ≤ (es.flatMap Entry.bytes).length := by
  induction es with
  | nil => exact Nat.le_refl 0
  | cons e es ih =>
    have := e.le_length_bytes
    simp only [List.flatMap_cons, List.length_append, List.length_cons]
    omega

theorem fitCount_le (most : Nat) (es : List Entry) : fitCount batchRoom most es ≤ 22 := by
  obtain ⟨-, held, fits, -⟩ := isFit_fitCount batchRoom most es
  have bytes := length_flatMap_bytes_ge (es.take (fitCount batchRoom most es))
  rw [List.length_take, Nat.min_eq_left held] at bytes
  unfold entryBytes at fits
  simp only [batchRoom] at fits bytes ⊢
  omega

@[simp] theorem Entry.as_sequence (st : EntryState) (e : Entry) : (e.as st).sequence = e.sequence := rfl

@[simp] theorem Entry.as_state (st : EntryState) (e : Entry) : (e.as st).state = st := rfl

/-- Marking changes the states of the oldest entries alone. -/
theorem getElem?_markInFlight {n i : Nat} {es : List Entry} {e : Entry}
    (h : (markInFlight n es)[i]? = some e) :
    ∃ o, es[i]? = some o ∧ e = if i < n then o.as .inFlight else o := by
  unfold markInFlight at h
  rw [List.getElem?_append, List.length_map, List.length_take, List.getElem?_map, List.getElem?_take] at h
  split at h
  · rw [if_pos (by omega)] at h
    obtain ⟨o, ho, rfl⟩ := Option.map_eq_some_iff.mp h
    exact ⟨o, ho, by rw [if_pos (by omega)]⟩
  · rw [List.getElem?_drop] at h
    have inside := (List.getElem?_eq_some_iff.mp h).1
    have index : n + (i - min n es.length) = i := by omega
    exact ⟨e, index ▸ h, by rw [if_neg (by omega)]⟩

@[simp] theorem length_markInFlight (n : Nat) (es : List Entry) : (markInFlight n es).length = es.length := by
  simp only [markInFlight, List.length_append, List.length_map, List.length_take, List.length_drop]
  omega

/-- The take of a permitted request keeps the journal in order (R107). -/
theorem Journal.ok.takeBatch (h : s.journal.ok) (p : Port) {most : Nat} (low : 1 ≤ most)
    (free : s.journal.batch = none) (held : s.journal.entries ≠ []) : (takeBatch p most s).1.journal.ok := by
  obtain ⟨size, below, next, consecutive, batch, idLow, idHigh⟩ := h
  have unsent : ∀ e ∈ s.journal.entries, e.state = .unsent := by simpa [Journal.batchFits, free] using batch
  have oldest := List.head?_eq_some_head held
  have count := (isFit_fitCount batchRoom most s.journal.entries).le_length
  refine ⟨by simpa [Machine.takeBatch] using size, by simpa [Machine.takeBatch] using below, next,
    fun i e he => ?_, ⟨one_le_fitCount low held, fitCount_le most _, ?_, ?_, fun i e he => ?_⟩, ?_⟩
  · obtain ⟨o, ho, rfl⟩ := getElem?_markInFlight he
    have := consecutive i o ho
    simp only [Machine.takeBatch, length_markInFlight]
    split <;> simpa using this
  · simpa [Machine.takeBatch] using count
  · have := consecutive 0 _ (List.head?_eq_getElem? ▸ oldest)
    simpa [Machine.takeBatch, oldest] using this
  · obtain ⟨o, ho, rfl⟩ := getElem?_markInFlight he
    have := unsent o (List.mem_of_getElem? ho)
    split <;> simp_all
  · show 1 ≤ nextBatchId _ ∧ nextBatchId _ ≤ 65535
    unfold nextBatchId
    split <;> omega

/-- An acknowledged batch leaves the entries behind it, UNSENT (R108). -/
theorem Journal.ok.acknowledged (h : j.ok) {b : Batch} (batch : j.batch = some b) : (j.acknowledged b).ok := by
  obtain ⟨size, below, next, consecutive, fits, batchId⟩ := h
  simp only [Journal.batchFits, batch] at fits
  obtain ⟨-, -, held, -, states⟩ := fits
  refine ⟨?_, ?_, next, fun i e he => ?_, fun e he => ?_, batchId⟩
  · simp only [Journal.acknowledged, List.length_drop]
    omega
  · simp only [Journal.acknowledged, List.length_drop]
    omega
  · simp only [Journal.acknowledged, List.getElem?_drop, List.length_drop] at he ⊢
    have := consecutive _ e he
    have := (List.getElem?_eq_some_iff.mp he).1
    omega
  · obtain ⟨i, hi⟩ := List.mem_iff_getElem?.mp he
    simp only [Journal.acknowledged, List.getElem?_drop] at hi
    have behind := (not_congr (states _ e hi)).mpr (by omega)
    cases state : e.state with
    | unsent => rfl
    | inFlight => exact absurd state behind

/-- A batch that ends without success leaves every entry in its place, UNSENT (R109). -/
theorem Journal.ok.returned (h : j.ok) : j.returned.ok := by
  obtain ⟨size, below, next, consecutive, -, batchId⟩ := h
  refine ⟨by simpa [Journal.returned] using size, by simpa [Journal.returned] using below, next,
    fun i e he => ?_, fun e he => ?_, batchId⟩
  · simp only [Journal.returned, List.getElem?_map, Option.map_eq_some_iff, List.length_map] at he ⊢
    obtain ⟨o, ho, rfl⟩ := he
    exact consecutive i o ho
  · obtain ⟨o, -, rfl⟩ := List.mem_map.mp he
    rfl

/-- The batch's timer has no part in the order. -/
theorem Journal.ok.timed (h : j.ok) (f : Batch → Nat) :
    Journal.ok { j with batch := j.batch.map (fun b => { b with timer := f b }) } := by
  obtain ⟨size, below, next, consecutive, fits, batchId⟩ := h
  refine ⟨size, below, next, consecutive, ?_, batchId⟩
  unfold Journal.batchFits at fits ⊢
  cases hb : j.batch with
  | none => simpa [hb] using fits
  | some b => simpa [hb] using fits

/-! ## The commands that touch the journal -/

theorem Journal.ok.lapseCalls (h : s.journal.ok) : (lapseCalls s).journal.ok := by
  unfold Machine.lapseCalls
  generalize (callsOf s.store.today).filter _ = due
  induction due generalizing s with
  | nil => exact h
  | cons c due ih =>
    refine ih (s := lapseCall c s) ?_
    simp only [lapseCall, count_journal]
    exact Journal.ok.append (by simpa using h) _

theorem Journal.ok.minuteTick (h : s.journal.ok) : (minuteTick s).journal.ok := by
  simpa [Machine.minuteTick] using h.lapseCalls

theorem Journal.ok.timeSet (h : s.journal.ok) (f : TimeSetBody) : (timeSet f s).1.journal.ok := by
  unfold Machine.timeSet timeFirst timeWithin timeLater
  (repeat' split)
  all_goals first | exact h | skip
  · exact Journal.ok.minuteTick (by simpa using h)
  · dsimp only
    split
    · exact Journal.ok.minuteTick (by simpa using h)
    · simpa using h
  · exact Journal.ok.minuteTick (by simpa using h)

theorem Journal.ok.ttEnd (h : s.journal.ok) (p : Port) (f : NoFields) : (ttEnd p f s).1.journal.ok := by
  dsimp only [Machine.ttEnd, onStaging]
  (repeat' split)
  all_goals try simpa using h
  simp only [placeStaging, setClock_journal]
  exact Journal.ok.append (by simpa [withdrawServices] using h) _

theorem Journal.ok.issue (h : s.journal.ok) (p : Port) (f : IssueBody) : (issue p f s).1.journal.ok := by
  have ticket (r : FareRequest) (x : Fare) (requoted : Bool) :
      (issueTicket p r x requoted s).1.journal.ok := by
    have sold := Journal.ok.append (s := { s with sales := { s.sales with
      blocks := takeSerial s.sales.blocks } }) h (.sale (nextSerial s.sales.blocks) p r x.band x.total)
    cases requoted <;> simpa only [issueTicket, stockTests_journal, setSales_journal, count_journal,
      countIssue_journal, if_true, Bool.false_eq_true, if_false] using sold
  have refused (a : Answer) : (refuseIssue p a s).1.journal.ok := by simpa [refuseIssue] using h
  unfold Machine.issue
  split
  · simpa using h
  · cases (s.sales.ports.get p).issueCase f.number.toNat with
    | noQuote => exact refused _
    | invalidated => exact refused _
    | held q =>
      dsimp only
      cases s.heldChecks q with
      | error a => exact refused a
      | ok x => exact ticket _ _ _
    | requote q =>
      dsimp only
      cases s.requoteChecks q with
      | error a => exact refused a
      | ok x => exact ticket _ _ _

theorem Journal.ok.voidSale (h : s.journal.ok) (p : Port) (f : VoidBody) : (voidSale p f s).1.journal.ok := by
  unfold Machine.voidSale
  (repeat' split)
  all_goals first | exact h | exact h.append _

theorem Journal.ok.batchTake (h : s.journal.ok) (p : Port) (f : BatchTakeBody) :
    (batchTake p f s).1.journal.ok := by
  unfold Machine.batchTake
  (repeat' split)
  all_goals first | exact h | skip
  rename_i maximum batch unsent _
  refine h.takeBatch p (by omega) (by simpa using batch) fun none => unsent ?_
  simp [Journal.unsent, none]

theorem Journal.heldBatch_eq_some {p : Port} {id : Nat} {b : Batch} (h : j.heldBatch p id = some b) :
    j.batch = some b ∧ b.id = id ∧ b.holder = p := by
  unfold Journal.heldBatch at h
  split at h
  · cases h
  · split at h
    · cases h
      exact ⟨‹_›, ‹_ ∧ _›⟩
    · cases h

theorem Journal.ok.batchAck (h : s.journal.ok) (p : Port) (f : BatchIdBody) : (batchAck p f s).1.journal.ok := by
  unfold Machine.batchAck
  (repeat' split)
  · exact h
  · exact h
  · have left := h.acknowledged (Journal.heldBatch_eq_some ‹_›).1
    cases p <;> simpa [ifLink] using left

theorem failBatch_journal (p : Port) (s : State) : (failBatch p s).journal = s.journal.returned := by
  cases p <;> simp [failBatch, ifLink]

theorem Journal.ok.batchFail (h : s.journal.ok) (p : Port) (f : BatchIdBody) :
    (batchFail p f s).1.journal.ok := by
  unfold Machine.batchFail
  (repeat' split)
  · exact h
  · exact h
  · simpa [failBatch_journal] using h.returned

theorem Journal.ok.batchTimedOut (h : s.journal.ok) : (batchTimedOut s).journal.ok := by
  unfold Machine.batchTimedOut
  (repeat' split)
  · exact h
  · simpa [failBatch_journal] using h.returned
  · exact h

theorem Journal.ok.resetPort (h : s.journal.ok) (p : Port) : (resetPort p s).journal.ok := by
  have released {t : State} (ht : t.journal = s.journal) : (releaseBatch p t).journal.ok := by
    unfold releaseBatch
    (repeat' split)
    · rwa [ht]
    · simpa [ht] using h.returned
    · rwa [ht]
  simp only [Machine.resetPort, releaseLoad_journal]
  exact released (by simp)

theorem Journal.ok.portReset (h : s.journal.ok) (p : Port) (f : PortResetBody) :
    (portReset p f s).1.journal.ok := by
  unfold Machine.portReset
  (repeat' split)
  all_goals first | exact h | exact h.resetPort _

theorem Journal.ok.resetLineActive (h : s.journal.ok) (p : Port) : (resetLineActive p s).journal.ok := by
  unfold Machine.resetLineActive
  split
  · simpa using h.resetPort p
  · exact h

theorem Journal.ok.secondElapses (h : s.journal.ok) : (secondElapses s).journal.ok := by
  refine secondElapses_keeps (P := fun s => s.journal.ok) (fun _ => h) (fun _ => h.timed (fun b => b.timer - 1))
    (fun t _ _ h => h) (fun t h => h.minuteTick) (fun t _ _ h => ?_)
  simpa using h

theorem Journal.ok.passageClosed (h : s.journal.ok) : (passageClosed s).journal.ok := by
  dsimp only [Machine.passageClosed, closePassage]
  (repeat' split)
  · exact h
  · exact h
  · simpa [matchPassage] using h
  · simp only [unmatchedPassage, count_journal]
    exact Journal.ok.append (by simpa using h) _
  · exact h

theorem Journal.ok.sampleTaken (h : s.journal.ok) (millivolts : Nat) (l : DataLine) :
    (sampleTaken millivolts l s).journal.ok := by
  have changed (old new : SupplyState) {t : State} (ht : t.journal.ok) :
      (Machine.append (.supply new) (tellSales old new t)).journal.ok := Journal.ok.append (by simpa using ht) _
  dsimp only [Machine.sampleTaken, applySample]
  (repeat' split)
  · exact h
  · simp only [changeSupply, intervalChanged_journal]
    split
    · exact changed _ _ h
    · exact changed _ _ h
  · exact h

theorem Journal.ok.dip (h : s.journal.ok) : (dip s).journal.ok := by
  unfold Machine.dip
  split
  · exact h.returned
  · exact h

theorem Journal.ok.warmStarted (h : s.journal.ok) (l : DataLine) : (warmStarted l s).journal.ok := by
  have started : (Machine.append (.start .warm) (coreLost { s with core := .up })).journal.ok :=
    Journal.ok.append (s := coreLost { s with core := .up }) h.returned _
  exact warmStarted_keeps (P := fun s => s.journal.ok) (by simpa [warmBegun] using started)
    (fun t _ h => by simpa using h) (fun t h => h.minuteTick) (fun t h => by simpa using h)

theorem journal_ok_reset : State.reset.journal.ok := by
  refine ⟨by decide, by decide, by decide, fun i e he => ?_, fun e he => ?_, by decide⟩
  · match i with
    | 0 => cases he; rfl
    | i + 1 => simp [State.reset] at he
  · obtain rfl := List.mem_singleton.mp he
    rfl

/-! ## Every step -/

theorem ambient_journal : Ambient (fun s => s.journal.ok) where
  queue _ _ h := h
  port _ _ _ _ _ h := h
  silence _ _ _ h := h
  counted _ _ _ h := h
  drawn _ _ h := h
  cycled _ _ h := h
  frame l s _ h := by simpa using h

/-- Each command's own part keeps the journal in order. -/
theorem keeps_journal (i : Instr) : (actOf i).Keeps (fun s => s.journal.ok) := by
  by_cases touched : .journal ∈ blocksOf i
  · cases i <;> simp only [blocksOf, List.mem_cons, List.not_mem_nil, reduceCtorEq, or_self] at touched
    case timeSet p b => exact keeps_onFields (fun f _ _ h => h.timeSet f) b
    case ttEnd p b => exact keeps_onFields (fun f _ _ h => h.ttEnd p f) b
    case issue p b => exact keeps_onFields (fun f _ _ h => h.issue p f) b
    case void p b => exact keeps_onFields (fun f _ _ h => h.voidSale p f) b
    case batchTake p b => exact keeps_onFields (fun f _ _ h => h.batchTake p f) b
    case batchAck p b => exact keeps_onFields (fun f _ _ h => h.batchAck p f) b
    case batchFail p b => exact keeps_onFields (fun f _ _ h => h.batchFail p f) b
    case portReset p b => exact keeps_onFields (fun f _ _ h => h.portReset p f) b
    case portResetLineActive p => exact fun s _ h => h.resetLineActive p
    case clockSecond => exact fun s h => h.secondElapses
    case passageClose => exact fun s _ h => h.passageClosed
    case batchTimeout => exact fun s _ h => h.batchTimedOut
    case sample mv l => exact fun s _ h => h.sampleTaken mv l
    case coldStart => exact fun s _ => journal_ok_reset
    case warmStart l => exact fun s h => h.warmStarted l
    case coreSupplyDip => exact fun s h => h.dip
  · refine keeps_of_untouched [.journal] (fun s t same h => ?_) (by simpa using touched)
    have e : t.journal = s.journal := same .journal (List.mem_singleton.mpr rfl)
    rwa [e]

/-- Settles O53: what follows a command leaves the journal alone, and each command's own part keeps its order
(`keeps_journal`). -/
theorem stepKeepsJournalOk : Obligations.StepKeepsJournalOk := by
  unfold Obligations.StepKeepsJournalOk
  exact fun s t h e => step_keeps ambient_journal keeps_journal h e

end Sys2Proof.Machine
end

section
/-! PROOFS. The closure reasons (O54): each reason agrees with its condition, reason by reason, through every
operation that changes the set or a condition. -/

namespace Sys2Proof.Machine

/-! ## A reason and its condition -/

/-- The condition that a closure reason stands for (R69 to R71); SUSPENDED stands for no other block's. -/
def State.callsFor (s : State) : Reason → Prop
  | .noTime => s.clock.valid = false
  | .noFares => s.fares.loaded = false
  | .stockEmpty => s.sales.remaining = 0
  | .journalFull => s.journal.free < 2
  | .supplyReserve => s.supply.state = .reserve
  | .suspended => .suspended ∈ s.sales.reasons

/-- A reason is in the set exactly while its condition holds. -/
def State.agrees (s : State) (r : Reason) : Prop := r ∈ s.sales.reasons ↔ s.callsFor r

theorem reasonsOk_iff {s : State} :
    s.reasonsOk ↔ (s.core = .up → ∀ r, s.agrees r) ∧ s.fares.loaded = anyPrice s.fares.prices := by
  constructor
  · rintro ⟨noTime, noFares, stockEmpty, journalFull, supplyReserve, loaded⟩
    refine ⟨fun up r => ?_, loaded⟩
    cases r with
    | noTime => exact noTime up
    | noFares => exact noFares up
    | stockEmpty => exact stockEmpty up
    | journalFull => exact journalFull up
    | supplyReserve => exact supplyReserve up
    | suspended => exact Iff.rfl
  · rintro ⟨agrees, loaded⟩
    exact ⟨fun up => agrees up .noTime, fun up => agrees up .noFares, fun up => agrees up .stockEmpty,
      fun up => agrees up .journalFull, fun up => agrees up .supplyReserve, loaded⟩

/-- Two states in which the reason set and what decides every condition are the same. -/
structure SameReasons (s t : State) : Prop where
  core : t.core = s.core
  reasons : t.sales.reasons = s.sales.reasons
  valid : t.clock.valid = s.clock.valid
  loaded : t.fares.loaded = s.fares.loaded
  prices : t.fares.prices = s.fares.prices
  remaining : t.sales.remaining = s.sales.remaining
  free : t.journal.free = s.journal.free
  supply : t.supply.state = s.supply.state

variable {s t : State}

theorem SameReasons.agrees (h : SameReasons s t) (r : Reason) : t.agrees r ↔ s.agrees r := by
  obtain ⟨-, reasons, valid, loaded, -, remaining, free, supply⟩ := h
  unfold State.agrees
  cases r <;> simp only [State.callsFor, reasons, valid, loaded, remaining, free, supply]

theorem State.reasonsOk.of_same (h : s.reasonsOk) (same : SameReasons s t) : t.reasonsOk := by
  rw [reasonsOk_iff] at h ⊢
  rw [same.core, same.loaded, same.prices]
  exact ⟨fun up r => (same.agrees r).mpr (h.1 up r), h.2⟩

/-- A change of the set alone leaves every condition as it was, but SUSPENDED's own. -/
theorem callsFor_changeReasons (rs : List Reason) (s : State) {r : Reason} (other : r ≠ .suspended) :
    (changeReasons rs s).callsFor r ↔ s.callsFor r := by
  cases r <;> simp [State.callsFor, Sales.remaining] at other ⊢

/-- A reason added agrees with a condition that holds, and the other reasons as before. -/
theorem agrees_addReason {r q : Reason} (calls : q = r → s.callsFor r) (h : q ≠ r → s.agrees q) :
    (addReason r s).agrees q := by
  unfold State.agrees at h ⊢
  by_cases own : q = .suspended
  · subst own
    exact Iff.rfl
  · rw [addReason, callsFor_changeReasons _ s own, changeReasons_sales, mem_setInsert_reason]
    by_cases e : q = r
    · subst e
      simpa using calls rfl
    · simpa [e] using h e

/-- A reason removed agrees with a condition that does not hold, and the other reasons as before. -/
theorem agrees_removeReason {r q : Reason} (calls : q = r → ¬ s.callsFor r) (h : q ≠ r → s.agrees q) :
    (removeReason r s).agrees q := by
  unfold State.agrees at h ⊢
  by_cases own : q = .suspended
  · subst own
    exact Iff.rfl
  · rw [removeReason, callsFor_changeReasons _ s own, changeReasons_sales, mem_setErase]
    by_cases e : q = r
    · subst e
      simpa using calls rfl
    · simpa [e] using h e

/-- The journal's message brings JOURNAL_FULL into agreement with the free count after it (R104). -/
theorem agrees_freeMessage {before : Journal} {q : Reason}
    (full : .journalFull ∈ s.sales.reasons ↔ before.free < 2) (h : q ≠ .journalFull → s.agrees q) :
    (freeMessage before s).agrees q := by
  rcases freeMessage_eq before s with ⟨-, now, e⟩ | ⟨-, now, e⟩ | ⟨same, e⟩ <;> rw [e]
  · exact agrees_addReason (fun _ => now) h
  · exact agrees_removeReason (fun _ => Nat.not_lt.mpr now) h
  · by_cases own : q = .journalFull
    · subst own
      exact full.trans same
    · exact h own

theorem sameReasons_uploadDue (before s : State) : SameReasons s (uploadDue before s) := by
  constructor <;> simp

/-- An append keeps every agreement, where JOURNAL_FULL's is one of them (R104). -/
theorem agrees_append {k : EntryKind} {q : Reason} (full : s.agrees .journalFull) (h : s.agrees q) :
    (append k s).agrees q := by
  rcases append_eq k s with ⟨-, e⟩ | ⟨-, e⟩ <;> rw [e]
  · exact (SameReasons.agrees (by constructor <;> simp) q).mpr h
  · refine ((sameReasons_uploadDue s _).agrees q).mpr (agrees_freeMessage full fun other => ?_)
    unfold State.agrees at h ⊢
    cases q <;> first | exact h | exact absurd rfl other

theorem State.reasonsOk.append (h : s.reasonsOk) (k : EntryKind) : (append k s).reasonsOk := by
  rw [reasonsOk_iff] at h ⊢
  rw [append_core, append_fares]
  exact ⟨fun up r => agrees_append (h.1 up _) (h.1 up r), h.2⟩

/-! ## The commands that touch the set or a condition -/

theorem State.reasonsOk.minuteTick (h : s.reasonsOk) : (minuteTick s).reasonsOk := by
  have lapsed : (lapseCalls s).reasonsOk := by
    unfold lapseCalls
    generalize (callsOf s.store.today).filter _ = due
    induction due generalizing s with
    | nil => exact h
    | cons c due ih =>
      refine ih (s := lapseCall c s) ?_
      have withdrawn : (withdrawCall ⟨.today, c.service⟩
          (setStore (s.store.onCall ⟨.today, c.service⟩ Call.lapsed) s)).reasonsOk :=
        h.of_same (by constructor <;> rfl)
      exact (withdrawn.append (.lapsedCall c.service c.scheduled)).of_same (by constructor <;> simp [lapseCall])
  exact lapsed.of_same (by constructor <;> simp [Machine.minuteTick])

theorem sameReasons_dayBoundary (k : DayKind) (s : State) : SameReasons s (dayBoundary k s) := by
  have sales (moved : Bool) (u : State) :
      (tellTomorrow moved u).sales.reasons = u.sales.reasons ∧
        (tellTomorrow moved u).sales.remaining = u.sales.remaining := by
    unfold tellTomorrow
    (repeat' split) <;> exact ⟨rfl, rfl⟩
  constructor <;> simp [dayBoundary, sales]
  rfl

theorem State.reasonsOk.timeSet (h : s.reasonsOk) (f : TimeSetBody) : (timeSet f s).1.reasonsOk := by
  dsimp only [Machine.timeSet]
  (repeat' split)
  · exact h
  · exact h
  · refine State.reasonsOk.minuteTick ?_
    refine State.reasonsOk.of_same (s := removeReason .noTime (setStore { s.store with storeDay := f.day.toNat }
      (setClock ⟨true, f.day.toNat, ‹DayKind›, f.second.toNat⟩ s))) ?_ (by constructor <;> simp)
    rw [reasonsOk_iff] at h ⊢
    refine ⟨fun up q => agrees_removeReason (fun _ => by simp [State.callsFor]) fun other => ?_, ?_⟩
    · have agrees := h.1 (by simpa using up) q
      unfold State.agrees at agrees ⊢
      cases q <;> first | exact agrees | exact absurd rfl other
    · simpa using h.2
  · exact h
  · dsimp only [timeWithin]
    split
    · exact State.reasonsOk.minuteTick (h.of_same (by constructor <;> simp))
    · exact h.of_same (by constructor <;> simp)
  · refine State.reasonsOk.minuteTick ?_
    exact State.reasonsOk.of_same (h.of_same (t := setClock _ s) (by constructor <;> simp))
      (sameReasons_dayBoundary _ _)

theorem sameReasons_setClock {c : Clock} (valid : c.valid = s.clock.valid) : SameReasons s (setClock c s) := by
  constructor <;> first | rfl | exact valid

theorem State.reasonsOk.ttEnd (h : s.reasonsOk) (p : Port) (f : NoFields) : (ttEnd p f s).1.reasonsOk := by
  dsimp only [Machine.ttEnd, onStaging]
  (repeat' split)
  · exact h
  · exact h
  · exact h.of_same (by constructor <;> rfl)
  · exact h.of_same (by constructor <;> rfl)
  · exact h.of_same (by constructor <;> rfl)
  · exact h.of_same (by constructor <;> rfl)
  · dsimp only [placeStaging]
    refine State.reasonsOk.of_same ?_ (sameReasons_setClock (by unfold kindLoaded; split <;> rfl))
    exact State.reasonsOk.append (h.of_same (by constructor <;> rfl)) _

/-- The last checks of both ISSUE tables leave a serial to draw (R81, R82). -/
theorem remaining_of_issueTail {r : FareRequest} {u : Unit} (h : s.issueTail r = .ok u) :
    s.sales.remaining ≠ 0 := by
  unfold State.issueTail at h
  split at h
  · cases h
  · split at h
    · cases h
    · assumption

theorem remaining_of_heldChecks {q : Quote} {x : Fare} (h : s.heldChecks q = .ok x) :
    s.sales.remaining ≠ 0 := by
  unfold State.heldChecks at h
  (repeat' split at h) <;> try cases h
  exact remaining_of_issueTail ‹_›

theorem remaining_of_requoteChecks {q : Quote} {x : Fare} (h : s.requoteChecks q = .ok x) :
    s.sales.remaining ≠ 0 := by
  unfold State.requoteChecks at h
  (repeat' split at h) <;> try cases h
  exact remaining_of_issueTail ‹_›

/-- The test for an empty stock after an issue (R83 step 6). -/
def stockEmptyTest (s : State) : State := if s.sales.remaining = 0 then addReason .stockEmpty s else s

/-- The test for a low stock after an issue (R92). -/
def stockLowTest (s : State) : State :=
  if s.sales.remaining < 200 ∧ s.sales.lowMark = false then
    post .stockLow { s with sales := { s.sales with lowMark := true } }
  else s

theorem stockTests_eq (s : State) : stockTests s = stockLowTest (stockEmptyTest s) := rfl

theorem sameReasons_stockLowTest (s : State) : SameReasons s (stockLowTest s) := by
  unfold stockLowTest
  split <;> constructor <;> rfl

/-- The stock tests bring STOCK_EMPTY into agreement, where it was out of the set before the serial was drawn. -/
theorem agrees_stockTests {q : Reason} (out : .stockEmpty ∉ s.sales.reasons)
    (h : q ≠ .stockEmpty → s.agrees q) : (stockTests s).agrees q := by
  rw [stockTests_eq, (sameReasons_stockLowTest _).agrees]
  unfold stockEmptyTest
  split
  · exact agrees_addReason (fun _ => ‹_›) h
  · by_cases own : q = .stockEmpty
    · subst own
      exact iff_of_false out ‹_›
    · exact h own

/-- An append changes no reason but JOURNAL_FULL. -/
theorem mem_reasons_append {r : Reason} (other : r ≠ .journalFull) (k : EntryKind) (s : State) :
    r ∈ (append k s).sales.reasons ↔ r ∈ s.sales.reasons := by
  rcases append_eq k s with ⟨-, e⟩ | ⟨-, e⟩ <;> rw [e]
  · rfl
  · rw [uploadDue_sales]
    rcases freeMessage_eq s.journal (pushEntry k s) with ⟨-, -, e⟩ | ⟨-, -, e⟩ | ⟨-, e⟩ <;> rw [e] <;>
      simp [other]

theorem State.reasonsOk.issueTicket (h : s.reasonsOk) (p : Port) (r : FareRequest) (x : Fare) (requoted : Bool)
    (stocked : s.sales.remaining ≠ 0) (up : s.core = .up) : (issueTicket p r x requoted s).1.reasonsOk := by
  rw [reasonsOk_iff] at h ⊢
  obtain ⟨agrees, loaded⟩ := h
  have drawn (q : Reason) (other : q ≠ .stockEmpty) :
      State.agrees { s with sales := { s.sales with blocks := takeSerial s.sales.blocks } } q := by
    have := agrees up q
    unfold State.agrees at this ⊢
    cases q <;> first | exact this | exact absurd rfl other
  refine ⟨fun _ q => ?_, by cases requoted <;> simpa [Machine.issueTicket] using loaded⟩
  dsimp only [Machine.issueTicket]
  generalize sold_def : Machine.append (.sale (nextSerial s.sales.blocks) p r x.band x.total)
    { s with sales := { s.sales with blocks := takeSerial s.sales.blocks } } = sold
  have same (record : PortSales) : SameReasons sold (setSales p record
      (if requoted then count .requotedIssues (countIssue r.ticket x.band x.total sold)
        else countIssue r.ticket x.band x.total sold)) := by
    cases requoted <;> constructor <;> simp [Sales.remaining]
  refine agrees_stockTests ?_ fun other => ((same _).agrees q).mpr ?_
  · rw [(same _).reasons, ← sold_def, mem_reasons_append (by simp)]
    exact fun held => stocked ((agrees up .stockEmpty).mp held)
  · rw [← sold_def]
    exact agrees_append (drawn _ (by simp)) (drawn q other)

theorem State.reasonsOk.issue (h : s.reasonsOk) (up : s.core = .up) (p : Port) (f : IssueBody) :
    (issue p f s).1.reasonsOk := by
  have refused (a : Answer) : (refuseIssue p a s).1.reasonsOk :=
    h.of_same (by constructor <;> simp [refuseIssue, Sales.remaining])
  unfold Machine.issue
  split
  · exact h.of_same (by constructor <;> simp)
  · cases (s.sales.ports.get p).issueCase f.number.toNat with
    | noQuote => exact refused _
    | invalidated => exact refused _
    | held q =>
      cases checks : s.heldChecks q with
      | error a => simpa only [checks] using refused a
      | ok x => simpa only [checks] using h.issueTicket p _ _ _ (remaining_of_heldChecks checks) up
    | requote q =>
      cases checks : s.requoteChecks q with
      | error a => simpa only [checks] using refused a
      | ok x => simpa only [checks] using h.issueTicket p _ _ _ (remaining_of_requoteChecks checks) up

theorem State.reasonsOk.quote (h : s.reasonsOk) (p : Port) (b : Body QuoteBody) : (quote p b s).1.reasonsOk := by
  dsimp only [Machine.quote]
  split
  · exact h.of_same (by constructor <;> simp)
  · exact h.of_same (by constructor <;> simp [Sales.remaining])

theorem State.reasonsOk.voidSale (h : s.reasonsOk) (p : Port) (f : VoidBody) : (voidSale p f s).1.reasonsOk := by
  dsimp only [Machine.voidSale]
  (repeat' split)
  · exact h
  · exact h
  · exact h
  · exact (h.append _).of_same (by constructor <;> rfl)

theorem State.reasonsOk.svcCancel (h : s.reasonsOk) (f : SvcCallBody) : (svcCancel f s).1.reasonsOk := by
  dsimp only [Machine.svcCancel, svcUpdate]
  (repeat' split) <;> first | exact h | exact h.of_same (by constructor <;> rfl)

/-- NO_FARES follows the fares-loaded flag (R52). -/
theorem State.reasonsOk.farePriceWrite (h : s.reasonsOk) (f : FarePriceBody) :
    (farePriceWrite f s).1.reasonsOk := by
  dsimp only [Machine.farePriceWrite]
  split
  · exact h
  · rw [reasonsOk_iff] at h ⊢
    obtain ⟨agrees, loaded⟩ := h
    dsimp only
    generalize storePrices s.fares.prices _ f.prices = row
    refine ⟨fun up q => ?_, by simp⟩
    have kept (other : q ≠ .noFares) (up : s.core = .up) : State.agrees { s with fares :=
        { s.fares with prices := row, loaded := anyPrice row } } q := by
      have := agrees up q
      unfold State.agrees at this ⊢
      cases q <;> first | exact this | exact absurd rfl other
    have up : s.core = .up := by simpa using up
    unfold faresMessage
    split
    · by_cases own : q = .noFares
      · subst own
        have := agrees up .noFares
        unfold State.agrees State.callsFor at this ⊢
        rwa [‹s.fares.loaded = anyPrice row›] at this
      · exact kept own up
    · split
      · rename_i priced
        exact agrees_removeReason (fun _ => by simpa [State.callsFor] using priced) (fun other => kept other up)
      · rename_i unpriced
        exact agrees_addReason (fun _ => by simpa [State.callsFor] using unpriced) (fun other => kept other up)

theorem stockChecks_ok {f : StockAddBody} {b : StockBlock} (h : s.stockChecks f = .ok b) :
    s.sales.horizon < b.first ∧ 1 ≤ b.first ∧ b.first ≤ b.last ∧ b.last ≤ b.first + 99999 ∧
      b.last ≤ 99999999 ∧ b.next = b.first ∧ s.sales.blocks.length < 4 := by
  unfold State.stockChecks at h
  dsimp only at h
  (repeat' split at h) <;> cases h
  rename_i range empty overlap full
  have last : alignLastSerial f.last.toNat ≤ 99999999 := by
    unfold alignLastSerial
    omega
  refine ⟨Nat.lt_of_not_le overlap, ?_, ?_, Nat.min_le_right _ _, Nat.le_trans (Nat.min_le_left _ _) last, rfl,
    Nat.lt_of_not_le full⟩
  · show 1 ≤ alignFirstSerial _
    omega
  · exact Nat.le_min.mpr ⟨Nat.le_of_not_lt empty, Nat.le_add_right _ _⟩

/-- A block appended adds its serials to the stock. -/
theorem remaining_appended (x : Sales) (b : StockBlock) (n : Nat) :
    Sales.remaining { x with blocks := x.blocks ++ [b], horizon := n } = x.remaining + b.left := by
  simp [Sales.remaining]

theorem State.reasonsOk.stockAdd (h : s.reasonsOk) (f : StockAddBody) : (stockAdd f s).1.reasonsOk := by
  dsimp only [Machine.stockAdd]
  cases checks : s.stockChecks f with
  | error r => exact h
  | ok b =>
    dsimp only
    generalize t_def : removeReason .stockEmpty { s with sales := { s.sales with
      blocks := s.sales.blocks ++ [b], horizon := b.last } } = t
    have ok : t.reasonsOk := by
      rw [reasonsOk_iff] at h ⊢
      subst t_def
      refine ⟨fun up q => agrees_removeReason (fun _ => ?_) (fun other => ?_), by simpa using h.2⟩
      · obtain ⟨-, -, le, -, -, next, -⟩ := stockChecks_ok checks
        simp only [State.callsFor, remaining_appended, StockBlock.left]
        omega
      · have := h.1 (by simpa using up) q
        unfold State.agrees at this ⊢
        cases q <;> first | exact this | exact absurd rfl other
    split
    · exact ok.of_same (by constructor <;> rfl)
    · exact ok

theorem State.reasonsOk.salesSuspend (h : s.reasonsOk) (p : Port) (f : NoFields) :
    (salesSuspend p f s).1.reasonsOk := by
  cases p with
  | terminal => exact h
  | link => exact h
  | service =>
    rw [reasonsOk_iff] at h ⊢
    refine ⟨fun up q => ?_, by simpa [Machine.salesSuspend] using h.2⟩
    by_cases own : q = .suspended
    · subst own; exact Iff.rfl
    · exact agrees_addReason (fun e => absurd e own) fun _ => h.1 (by simpa [Machine.salesSuspend] using up) q

theorem State.reasonsOk.salesResume (h : s.reasonsOk) (p : Port) (f : NoFields) :
    (salesResume p f s).1.reasonsOk := by
  cases p with
  | terminal => exact h
  | link => exact h
  | service =>
    rw [reasonsOk_iff] at h ⊢
    refine ⟨fun up q => ?_, by simpa [Machine.salesResume] using h.2⟩
    by_cases own : q = .suspended
    · subst own; exact Iff.rfl
    · exact agrees_removeReason (fun e => absurd e own) fun _ => h.1 (by simpa [Machine.salesResume] using up) q

/-! ## The journal's batches -/

theorem Journal.free_congr {j k : Journal} (size : k.entries.length = j.entries.length)
    (next : k.nextSequence = j.nextSequence) : k.free = j.free := by
  simp only [Journal.free, size, next]

@[simp] theorem Journal.free_returned (j : Journal) : j.returned.free = j.free :=
  Journal.free_congr (List.length_map _) rfl

theorem State.reasonsOk.batchTake (h : s.reasonsOk) (p : Port) (f : BatchTakeBody) :
    (batchTake p f s).1.reasonsOk := by
  have taken (most : Nat) : (takeBatch p most s).1.reasonsOk :=
    h.of_same (by constructor <;> first | rfl | exact Journal.free_congr (length_markInFlight _ _) rfl)
  dsimp only [Machine.batchTake]
  (repeat' split) <;> first | exact h | exact taken _

theorem State.reasonsOk.batchAck (h : s.reasonsOk) (p : Port) (f : BatchIdBody) :
    (batchAck p f s).1.reasonsOk := by
  dsimp only [Machine.batchAck]
  (repeat' split)
  · exact h
  · exact h
  · rename_i b _
    generalize t_def : ifLink p schedulerSuccess (count .batchesAcked { s with journal := s.journal.acknowledged b }) = t
    refine State.reasonsOk.of_same ?_ (sameReasons_uploadDue s _)
    rw [reasonsOk_iff] at h ⊢
    have kept : t.sales = s.sales ∧ t.clock = s.clock ∧ t.fares = s.fares ∧ t.supply = s.supply ∧ t.core = s.core := by
      subst t_def
      cases p <;> exact ⟨rfl, rfl, rfl, rfl, rfl⟩
    obtain ⟨sales, clock, fares, supply, core⟩ := kept
    rw [freeMessage_fares, freeMessage_core, fares, core]
    refine ⟨fun up q => agrees_freeMessage (by rw [sales]; exact h.1 up .journalFull) fun other => ?_, h.2⟩
    have := h.1 up q
    unfold State.agrees at this ⊢
    cases q <;> simp only [State.callsFor, sales, clock, fares, supply] at this ⊢ <;>
      first | exact this | exact absurd rfl other

theorem sameReasons_failBatch (p : Port) (s : State) : SameReasons s (failBatch p s) := by
  constructor <;> simp [failBatch_journal]

theorem State.reasonsOk.batchFail (h : s.reasonsOk) (p : Port) (f : BatchIdBody) :
    (batchFail p f s).1.reasonsOk := by
  dsimp only [Machine.batchFail]
  (repeat' split)
  · exact h
  · exact h
  · exact (h.of_same (sameReasons_failBatch p s)).of_same (sameReasons_uploadDue s _)

theorem State.reasonsOk.batchTimedOut (h : s.reasonsOk) : (batchTimedOut s).reasonsOk := by
  dsimp only [Machine.batchTimedOut]
  (repeat' split)
  · exact h
  · refine State.reasonsOk.of_same ?_ (sameReasons_uploadDue s _)
    exact (h.of_same (sameReasons_failBatch _ s)).of_same (by constructor <;> rfl)
  · exact h

/-! ## Port resets, elapsed time, passages, samples -/

theorem sameReasons_releaseBatch (p : Port) (s : State) : SameReasons s (releaseBatch p s) := by
  unfold releaseBatch
  (repeat' split) <;> constructor <;> simp

theorem State.reasonsOk.resetPort (h : s.reasonsOk) (p : Port) : (resetPort p s).reasonsOk := by
  dsimp only [Machine.resetPort]
  have staged : (releaseStaging p (resetSales p (setPort p (s.ports.get p).cleared s))).reasonsOk :=
    h.of_same (by constructor <;> simp [Sales.remaining, resetSales])
  refine State.reasonsOk.of_same (staged.of_same (sameReasons_releaseBatch p _)) ?_
  cases p <;> constructor <;> rfl

theorem State.reasonsOk.portReset (h : s.reasonsOk) (p : Port) (f : PortResetBody) :
    (portReset p f s).1.reasonsOk := by
  unfold Machine.portReset
  (repeat' split)
  · exact h
  · exact h.resetPort .terminal
  · exact h.resetPort .link
  · exact h
  · exact h

theorem State.reasonsOk.resetLineActive (h : s.reasonsOk) (p : Port) : (resetLineActive p s).reasonsOk := by
  unfold Machine.resetLineActive
  split
  · exact (h.resetPort p).of_same (by constructor <;> rfl)
  · exact h

theorem State.reasonsOk.secondElapses (h : s.reasonsOk) : (secondElapses s).reasonsOk := by
  refine secondElapses_keeps (P := State.reasonsOk) (fun _ => h.of_same (sameReasons_setClock ?_))
    (fun _ => h.of_same (by constructor <;> rfl)) (fun t _ _ h => h.of_same (sameReasons_setClock rfl))
    (fun t h => h.minuteTick) (fun t _ _ h => ?_)
  · unfold Clock.dipSecond
    (repeat' split) <;> rfl
  · exact (h.of_same (t := setClock { t.clock with day := t.clock.day + 1, second := 0 } t)
      (sameReasons_setClock rfl)).of_same (sameReasons_dayBoundary _ _)

theorem State.reasonsOk.passageClosed (h : s.reasonsOk) : (passageClosed s).reasonsOk := by
  have removed : (setDetector { s.detector with passage := none } s).reasonsOk :=
    h.of_same (by constructor <;> rfl)
  dsimp only [Machine.passageClosed, closePassage]
  (repeat' split)
  · exact h
  · exact removed.of_same (by constructor <;> rfl)
  · exact removed.of_same (by constructor <;> rfl)
  · exact (removed.append _).of_same (by constructor <;> rfl)
  · exact h

/-- SUPPLY_RESERVE follows the supply state (R176). -/
theorem agrees_tellSales {old new : SupplyState} {q : Reason} (now : s.supply.state = new)
    (before : .supplyReserve ∈ s.sales.reasons ↔ old = .reserve) (h : q ≠ .supplyReserve → s.agrees q) :
    (tellSales old new s).agrees q := by
  unfold tellSales
  split
  · exact agrees_addReason (fun _ => now.trans ‹_ ∧ _›.1) h
  · split
    · rename_i left
      exact agrees_removeReason (fun _ e => left.2 (now.symm.trans e)) h
    · by_cases own : q = .supplyReserve
      · subst own
        refine before.trans ?_
        show _ ↔ s.supply.state = .reserve
        rw [now]
        grind
      · exact h own

theorem State.reasonsOk.changeSupply (h : s.reasonsOk) (up : s.core = .up) (new : SupplyState) (l : DataLine) :
    (changeSupply new l s).reasonsOk := by
  have told : (tellSales s.supply.state new (setSupply { s.supply.runsCleared with state := new } s)).reasonsOk := by
    rw [reasonsOk_iff] at h ⊢
    refine ⟨fun _ q => agrees_tellSales rfl (h.1 up .supplyReserve) fun other => ?_, by simpa using h.2⟩
    have := h.1 up q
    unfold State.agrees at this ⊢
    cases q <;> first | exact this | exact absurd rfl other
  dsimp only [Machine.changeSupply]
  refine (told.append (.supply new)).of_same ?_
  split <;> constructor <;> simp

theorem State.reasonsOk.sampleTaken (h : s.reasonsOk) (up : s.core = .up) (millivolts : Nat) (l : DataLine) :
    (sampleTaken millivolts l s).reasonsOk := by
  have stored : (setSupply (s.supply.sampled (classOf millivolts)) s).reasonsOk :=
    h.of_same (by constructor <;> rfl)
  dsimp only [Machine.sampleTaken, applySample]
  (repeat' split)
  · exact stored
  · exact stored.changeSupply up _ l
  · exact h

/-! ## The commands that leave the set and every condition alone -/

theorem State.reasonsOk.loadBegin (h : s.reasonsOk) (f : NoFields) : (loadBegin f s).1.reasonsOk := by
  have limited : (endLoadAtLimit s).reasonsOk := by
    cases load : s.supply.load with
    | none => rwa [endLoadAtLimit_of_none _ load]
    | some l =>
      rw [endLoadAtLimit_of_some _ load]
      split
      · exact h.of_same (by constructor <;> rfl)
      · exact h
  exact limited.of_same (by constructor <;> rfl)

theorem State.reasonsOk.loadTimedOut (h : s.reasonsOk) : (loadTimedOut s).reasonsOk := by
  unfold Machine.loadTimedOut
  (repeat' split) <;> first | exact h | exact h.of_same (by constructor <;> rfl)

theorem State.reasonsOk.fareRangeWrite (h : s.reasonsOk) (f : FareRangeBody) :
    (fareRangeWrite f s).1.reasonsOk := by
  dsimp only [Machine.fareRangeWrite]
  (repeat' split) <;> first | exact h | exact h.of_same (by constructor <;> rfl)

theorem State.reasonsOk.fareConcessionWrite (h : s.reasonsOk) (f : FareConcessionBody) :
    (fareConcessionWrite f s).1.reasonsOk := by
  dsimp only [Machine.fareConcessionWrite]
  (repeat' split) <;> first | exact h | exact h.of_same (by constructor <;> rfl)

theorem State.reasonsOk.farePeakWrite (h : s.reasonsOk) (f : FarePeakBody) :
    (farePeakWrite f s).1.reasonsOk := by
  dsimp only [Machine.farePeakWrite]
  (repeat' split) <;> first | exact h | exact h.of_same (by constructor <;> rfl)

theorem State.reasonsOk.supplyLevels (h : s.reasonsOk) (f : SupplyLevelsBody) :
    (supplyLevels f s).1.reasonsOk := by
  dsimp only [Machine.supplyLevels]
  split
  · exact h
  · exact h.of_same (by constructor <;> rfl)

theorem State.reasonsOk.quoteExpired (h : s.reasonsOk) (p : Port) : (quoteExpired p s).reasonsOk := by
  dsimp only [Machine.quoteExpired]
  (repeat' split) <;> first | exact h | exact h.of_same (by constructor <;> rfl)

theorem State.reasonsOk.voidWindowExpired (h : s.reasonsOk) (p : Port) : (voidWindowExpired p s).reasonsOk := by
  dsimp only [Machine.voidWindowExpired]
  (repeat' split) <;> first | exact h | exact h.of_same (by constructor <;> rfl)

theorem State.reasonsOk.silenceExpired (h : s.reasonsOk) : (silenceExpired s).reasonsOk := by
  unfold Machine.silenceExpired
  split
  · exact h.of_same (by constructor <;> rfl)
  · exact h

/-! ## Starts and the dip -/

theorem reasonsOk_reset : State.reset.reasonsOk := by
  constructor <;> decide

/-- A warm start rebuilds the set from the conditions, with the supply in ECONOMY (R71, R177). -/
theorem reasonsOk_rebuildReasons (supply : s.supply.state ≠ .reserve)
    (loaded : s.fares.loaded = anyPrice s.fares.prices) : (rebuildReasons s).reasonsOk := by
  refine reasonsOk_iff.mpr ⟨fun _ q => ?_, loaded⟩
  unfold State.agrees
  have mem (r : Reason) : r ∈ (rebuildReasons s).sales.reasons ↔ r ∈ s.rebuiltReasons := Iff.rfl
  rw [mem]
  unfold State.rebuiltReasons
  rw [List.mem_filter, and_iff_right (Reason.mem_all q)]
  cases q with
  | noTime => simp [State.callsFor]
  | noFares => simp [State.callsFor]
  | stockEmpty => exact decide_eq_true_iff
  | journalFull => exact decide_eq_true_iff
  | supplyReserve => simpa [State.callsFor] using supply
  | suspended =>
    refine decide_eq_true_iff.trans ?_
    simp [State.callsFor, rebuildReasons, State.rebuiltReasons, Reason.mem_all]

theorem State.reasonsOk.warmStarted (h : s.reasonsOk) (l : DataLine) : (warmStarted l s).reasonsOk := by
  have rebuilt := reasonsOk_rebuildReasons
    (s := Machine.append (.start .warm) (coreLost { s with core := .up })) (by simp [coreLost, startIdle, Supply.lost])
    (by simpa [coreLost, startIdle] using h.faresLoaded)
  exact warmStarted_keeps (P := State.reasonsOk) (rebuilt.of_same (by constructor <;> simp [warmBegun]))
    (fun t _ h => h.of_same (sameReasons_dayBoundary _ _)) (fun t h => h.minuteTick)
    (fun t h => h.of_same (by constructor <;> simp))

theorem State.reasonsOk.dip (h : s.reasonsOk) : (dip s).reasonsOk := by
  unfold Machine.dip
  split
  · exact reasonsOk_iff.mpr ⟨fun up => absurd up (by simp [coreLost, startIdle]), h.faresLoaded⟩
  · exact h

/-! ## Every step -/

theorem ambient_reasons : Ambient State.reasonsOk where
  queue _ _ h := h.of_same (by constructor <;> rfl)
  port _ _ _ _ _ h := h.of_same (by constructor <;> rfl)
  silence _ _ _ h := h.of_same (by constructor <;> rfl)
  counted _ _ _ h := h.of_same (by constructor <;> rfl)
  drawn _ _ h := h.of_same (by constructor <;> rfl)
  cycled _ _ h := h.of_same (by constructor <;> rfl)
  frame _ _ _ h := h.of_same (by constructor <;> simp)

/-- The blocks that decide the reasons and their conditions. -/
abbrev reasonBlocks : List Block := [.core, .clock, .fares, .sales, .journal, .supply]

/-- Each command's own part keeps each reason exactly while its condition holds. -/
theorem keeps_reasons (i : Instr) : (actOf i).Keeps State.reasonsOk := by
  by_cases touched : ∀ b ∈ reasonBlocks, b ∉ blocksOf i
  · refine keeps_of_untouched reasonBlocks (fun s t same h => h.of_same ?_) touched
    have core : t.core = s.core := same .core (by simp)
    have clock : t.clock = s.clock := same .clock (by simp)
    have fares : t.fares = s.fares := same .fares (by simp)
    have sales : t.sales = s.sales := same .sales (by simp)
    have journal : t.journal = s.journal := same .journal (by simp)
    have supply : t.supply = s.supply := same .supply (by simp)
    constructor <;> simp only [core, clock, fares, sales, journal, supply]
  · cases i <;> simp [blocksOf] at touched
    case timeSet p b => exact keeps_onFields (fun f _ _ h => h.timeSet f) b
    case ttEnd p b => exact keeps_onFields (fun f _ _ h => h.ttEnd p f) b
    case svcUpdateCancel p f => exact fun s _ h => h.svcCancel f
    case quote p b => exact fun s _ h => h.quote p b
    case issue p b => exact keeps_onFields (fun f _ up h => h.issue up p f) b
    case void p b => exact keeps_onFields (fun f _ _ h => h.voidSale p f) b
    case loadBegin p b => exact keeps_onFields (fun f _ _ h => h.loadBegin f) b
    case loadEnd p b => exact keeps_onFields (fun f _ _ h => h.of_same (by constructor <;> rfl)) b
    case fareRangeWrite p b => exact keeps_onFields (fun f _ _ h => h.fareRangeWrite f) b
    case farePriceWrite p b => exact keeps_onFields (fun f _ _ h => h.farePriceWrite f) b
    case fareParamWrite p b => exact keeps_onFields (fun f _ _ h => h.of_same (by constructor <;> rfl)) b
    case fareConcessionWrite p b => exact keeps_onFields (fun f _ _ h => h.fareConcessionWrite f) b
    case farePeakWrite p b => exact keeps_onFields (fun f _ _ h => h.farePeakWrite f) b
    case stockAdd p b => exact keeps_onFields (fun f _ _ h => h.stockAdd f) b
    case batchTake p b => exact keeps_onFields (fun f _ _ h => h.batchTake p f) b
    case batchAck p b => exact keeps_onFields (fun f _ _ h => h.batchAck p f) b
    case batchFail p b => exact keeps_onFields (fun f _ _ h => h.batchFail p f) b
    case supplyLevels p b => exact keeps_onFields (fun f _ _ h => h.supplyLevels f) b
    case salesSuspend p b => exact keeps_onFields (fun f _ _ h => h.salesSuspend p f) b
    case salesResume p b => exact keeps_onFields (fun f _ _ h => h.salesResume p f) b
    case portReset p b => exact keeps_onFields (fun f _ _ h => h.portReset p f) b
    case unknownRequest p code body => exact keeps_unknownFrame ambient_reasons p code body
    case portResetLineActive p => exact fun s _ h => h.resetLineActive p
    case clockSecond => exact fun s h => h.secondElapses
    case passageClose => exact fun s _ h => h.passageClosed
    case quoteExpiry p => exact fun s _ h => h.quoteExpired p
    case voidWindowExpiry p => exact fun s _ h => h.voidWindowExpired p
    case terminalSilenceExpiry => exact fun s _ h => h.silenceExpired
    case batchTimeout => exact fun s _ h => h.batchTimedOut
    case sample mv l => exact fun s up h => h.sampleTaken up mv l
    case loadPeriodTimeout => exact fun s _ h => h.loadTimedOut
    case coldStart => exact fun s _ => reasonsOk_reset.of_same (by constructor <;> rfl)
    case warmStart l => exact fun s h => h.warmStarted l
    case coreSupplyDip => exact fun s h => h.dip

/-- Settles O54: what follows a command leaves the set and every condition alone, and each command's own part keeps
their agreement (`keeps_reasons`). -/
theorem stepKeepsReasonsOk : Obligations.StepKeepsReasonsOk := by
  unfold Obligations.StepKeepsReasonsOk
  exact fun s t h e => step_keeps ambient_reasons keeps_reasons h e

end Sys2Proof.Machine
end

section
/-! PROOFS. The day tables, the clock and the staging in order (O55): calls changed in place, the calls a minute tick
lapses and flags, the day boundary, a staging filled and placed. -/

namespace Sys2Proof.Machine

variable {s t : State}

/-! ## Calls changed in place -/

/-- A change of calls that keeps the order of their table and each call's fields in range. -/
structure KeepsOrder (f : Call → Call) (c : Call) : Prop where
  service : (f c).service = c.service
  scheduled : (f c).scheduled = c.scheduled
  ok : c.ok → (f c).ok

theorem DayTable.ok.onCalls {x : DayTable} (h : x.ok) {f : Call → Call}
    (keep : ∀ c ∈ x.calls, KeepsOrder f c) : (x.onCalls f).ok := by
  obtain ⟨version, count, ordered, unique, calls⟩ := h
  have services : (x.calls.map f).map Call.service = x.calls.map Call.service := by
    rw [List.map_map]
    exact List.map_congr_left fun c hc => (keep c hc).service
  refine ⟨version, by simpa [DayTable.onCalls] using count, ?_, by simpa only [DayTable.onCalls, services],
    fun c hc => ?_⟩
  · refine List.pairwise_map.mpr (ordered.imp_of_mem fun {a b} ha hb before => ?_)
    simpa only [Call.before, (keep a ha).service, (keep a ha).scheduled, (keep b hb).service,
      (keep b hb).scheduled] using before
  · obtain ⟨o, ho, rfl⟩ := List.mem_map.mp hc
    exact (keep o ho).ok (calls o ho)

/-- No two calls of a table share a service id. -/
theorem eq_of_service_eq {l : List Call} (unique : (l.map Call.service).Nodup) {a b : Call} (ha : a ∈ l)
    (hb : b ∈ l) (same : a.service = b.service) : a = b := by
  induction l with
  | nil => cases ha
  | cons c cs ih =>
    obtain ⟨first, rest⟩ := List.nodup_cons.mp unique
    rcases List.mem_cons.mp ha with rfl | inA <;> rcases List.mem_cons.mp hb with rfl | inB
    · rfl
    · exact absurd (List.mem_map.mpr ⟨b, inB, same.symm⟩) first
    · exact absurd (List.mem_map.mpr ⟨a, inA, same⟩) first
    · exact ih rest inA inB

theorem State.tablesOk.of_same (h : s.tablesOk) (core : t.core = s.core) (clock : t.clock = s.clock)
    (store : t.store = s.store) : t.tablesOk := by
  obtain ⟨second, today, tomorrow, invalid, day, notPast, staging⟩ := h
  constructor <;> simpa only [core, clock, store]

/-- The calls of a live table changed in place, TOMORROW's flags still clear. -/
theorem State.tablesOk.onCalls (h : s.tablesOk) (name : TableName) {f : Call → Call}
    (keep : ∀ c ∈ callsOf (s.store.table name), KeepsOrder f c)
    (clear : name = .tomorrow → ∀ c ∈ callsOf (s.store.table name), c.removed = false → (f c).removed = false) :
    (setStore (s.store.onCalls name f) s).tablesOk := by
  obtain ⟨second, today, tomorrow, invalid, day, notPast, staging⟩ := h
  cases name with
  | today =>
    refine ⟨second, fun x hx => ?_, tomorrow, fun v => ?_, day, notPast, staging⟩
    · obtain ⟨o, ho, rfl⟩ := Option.map_eq_some_iff.mp hx
      obtain ⟨ok, rest⟩ := today o ho
      exact ⟨ok.onCalls (by simpa [Store.table, ho, callsOf] using keep), rest⟩
    · obtain ⟨none, rest⟩ := invalid v
      exact ⟨by simp [Store.onCalls, none], rest⟩
  | tomorrow =>
    refine ⟨second, today, fun x hx => ?_, fun v => ?_, day, notPast, staging⟩
    · obtain ⟨o, ho, rfl⟩ := Option.map_eq_some_iff.mp hx
      obtain ⟨ok, date, flags⟩ := tomorrow o ho
      refine ⟨ok.onCalls (by simpa [Store.table, ho, callsOf] using keep), date, fun c hc => ?_⟩
      obtain ⟨d, hd, rfl⟩ := List.mem_map.mp hc
      exact clear rfl d (by simpa [Store.table, ho, callsOf] using hd) (flags d hd)
    · obtain ⟨rest, none⟩ := invalid v
      exact ⟨rest, by simp [Store.onCalls, none]⟩

/-- A LOADED table of the store is in order. -/
theorem State.tablesOk.table (h : s.tablesOk) {name : TableName} {x : DayTable}
    (hx : s.store.table name = some x) : x.ok := by
  cases name with
  | today => exact (h.today x hx).1
  | tomorrow => exact (h.tomorrow x hx).1

theorem State.tablesOk.unique (h : s.tablesOk) (name : TableName) :
    ((callsOf (s.store.table name)).map Call.service).Nodup := by
  cases hx : s.store.table name with
  | none => exact List.nodup_nil
  | some x => exact (h.table hx).unique

/-- One call changed: the one its reference finds, since no other call of its table has its service id. -/
theorem State.tablesOk.onCall (h : s.tablesOk) {r : CallRef} {c : Call} {f : Call → Call}
    (found : s.store.call r = some c) (keep : KeepsOrder f c)
    (clear : c.removed = false → (f c).removed = false ∨ r.table = .today) :
    (setStore (s.store.onCall r f) s).tablesOk := by
  have only {d : Call} (hd : d ∈ callsOf (s.store.table r.table)) (e : d.service = r.service) : d = c :=
    eq_of_service_eq (h.unique r.table) hd (findCall_mem found) (e.trans (findCall_service found).symm)
  refine h.onCalls r.table (fun d hd => ?_) (fun name d hd flag => ?_)
  · by_cases e : d.service = r.service
    · obtain rfl := only hd e
      constructor <;> simp only [if_pos e]
      · exact keep.service
      · exact keep.scheduled
      · exact keep.ok
    · constructor <;> simp [if_neg e]
  · by_cases e : d.service = r.service
    · obtain rfl := only hd e
      simp only [if_pos e]
      exact (clear flag).resolve_right (by rw [name]; simp)
    · simpa only [if_neg e] using flag

/-! ## The calls after a minute tick (R15, R30) -/

@[simp] theorem Call.lapsed_service (c : Call) : c.lapsed.service = c.service := rfl

@[simp] theorem Call.flagged_service (now : Nat) (c : Call) : (c.flagged now).service = c.service := rfl

theorem Store.onCalls_onCalls (name : TableName) (f g : Call → Call) (st : Store) :
    (st.onCalls name f).onCalls name g = st.onCalls name (fun c => g (f c)) := by
  cases name with
  | today => cases today : st.today <;> simp [Store.onCalls, DayTable.onCalls, today]
  | tomorrow => cases tomorrow : st.tomorrow <;> simp [Store.onCalls, DayTable.onCalls, tomorrow]

theorem Store.onCalls_congr {name : TableName} {f g : Call → Call} {st : Store}
    (same : ∀ c ∈ callsOf (st.table name), f c = g c) : st.onCalls name f = st.onCalls name g := by
  cases name with
  | today =>
    cases today : st.today with
    | none => simp [Store.onCalls, today]
    | some x =>
      have : x.calls.map f = x.calls.map g :=
        List.map_congr_left (by simpa [Store.table, today, callsOf] using same)
      simp [Store.onCalls, DayTable.onCalls, today, this]
  | tomorrow =>
    cases tomorrow : st.tomorrow with
    | none => simp [Store.onCalls, tomorrow]
    | some x =>
      have : x.calls.map f = x.calls.map g :=
        List.map_congr_left (by simpa [Store.table, tomorrow, callsOf] using same)
      simp [Store.onCalls, DayTable.onCalls, tomorrow, this]

theorem Store.onCalls_id (st : Store) :
    st.onCalls .today (fun c => if c.service ∈ [].map Call.service then c.lapsed else c) = st := by
  obtain ⟨day, mark, today, tomorrow, staging⟩ := st
  cases today <;> simp [Store.onCalls, DayTable.onCalls]

@[simp] theorem lapseCall_store (c : Call) (s : State) :
    (lapseCall c s).store = s.store.onCall ⟨.today, c.service⟩ Call.lapsed := by
  simp [lapseCall]

/-- Lapsing a run of calls changes the calls of TODAY with their service ids. -/
theorem foldl_lapseCall_store (due : List Call) (s : State) :
    (due.foldl (fun t c => lapseCall c t) s).store =
      s.store.onCalls .today (fun c => if c.service ∈ due.map Call.service then c.lapsed else c) := by
  induction due generalizing s with
  | nil => exact (Store.onCalls_id _).symm
  | cons d due ih =>
    rw [List.foldl_cons, ih, lapseCall_store]
    unfold Store.onCall
    rw [Store.onCalls_onCalls]
    refine Store.onCalls_congr fun c _ => ?_
    by_cases own : c.service = d.service
    · simp only [own, if_true, Call.lapsed_service, List.map_cons, List.mem_cons, true_or]
      split <;> rfl
    · simp [own]

/-- The due calls of TODAY lapse, and no other call changes. -/
theorem lapseCalls_store (unique : ((callsOf s.store.today).map Call.service).Nodup) :
    (lapseCalls s).store =
      s.store.onCalls .today (fun c => if c.lapses s.clock.minute then c.lapsed else c) := by
  unfold lapseCalls
  rw [foldl_lapseCall_store]
  refine Store.onCalls_congr fun c hc => ?_
  have due : c.service ∈ ((callsOf s.store.today).filter (Call.lapses s.clock.minute)).map Call.service ↔
      c.lapses s.clock.minute = true := by
    refine ⟨fun mem => ?_, fun lapses => List.mem_map_of_mem (List.mem_filter.mpr ⟨hc, lapses⟩)⟩
    obtain ⟨d, hd, same⟩ := List.mem_map.mp mem
    obtain ⟨held, lapses⟩ := List.mem_filter.mp hd
    rwa [eq_of_service_eq unique hc held same.symm]
  simp only [due]

/-- What a minute tick does to a call of TODAY: it lapses where it is due, and its flag is tested (R15, R30). -/
def Call.ticked (now : Nat) (c : Call) : Call := Call.flagged now (if c.lapses now then c.lapsed else c)

/-- The store after a minute tick: TODAY's calls ticked, and the mark of the 23:00 test (R12). -/
theorem minuteTick_store (unique : ((callsOf s.store.today).map Call.service).Nodup) :
    (minuteTick s).store =
      { s.store.onCalls .today (Call.ticked s.clock.minute) with
        neededMark := s.store.neededMark || decide (1200 ≤ s.clock.minute ∧ s.store.tomorrow.isNone) } := by
  have flagged : (flagCalls (lapseCalls s)).store = s.store.onCalls .today (Call.ticked s.clock.minute) := by
    simp only [flagCalls, setStore_store, lapseCalls_store unique, lapseCalls_clock, Store.onCalls_onCalls]
    rfl
  have evening : (eveningTest (flagCalls (lapseCalls s))).store =
      { s.store.onCalls .today (Call.ticked s.clock.minute) with
        neededMark := s.store.neededMark || decide (1200 ≤ s.clock.minute ∧ s.store.tomorrow.isNone) } := by
    have mark : (s.store.onCalls .today (Call.ticked s.clock.minute)).neededMark = s.store.neededMark := rfl
    have tomorrow : (s.store.onCalls .today (Call.ticked s.clock.minute)).tomorrow = s.store.tomorrow := rfl
    have clock : (flagCalls (lapseCalls s)).clock = s.clock := by simp
    unfold eveningTest
    rw [flagged, clock, mark, tomorrow]
    split
    · rename_i late
      simp [late.1, late.2.1]
    · rename_i early
      have kept : (s.store.neededMark || decide (1200 ≤ s.clock.minute ∧ s.store.tomorrow.isNone = true)) =
          s.store.neededMark := by
        cases held : s.store.neededMark with
        | true => rfl
        | false => simpa [held] using early
      rw [kept, flagged]
      rfl
  simpa [minuteTick] using evening

theorem keepsOrder_ticked (now : Nat) (c : Call) : KeepsOrder (Call.ticked now) c := by
  by_cases lapses : c.lapses now = true
  · have ticked : Call.ticked now c = c.lapsed.flagged now := by simp [Call.ticked, lapses]
    refine ⟨by rw [ticked]; rfl, by rw [ticked]; rfl, fun ⟨service, scheduled, destination, report, actual⟩ => ?_⟩
    have state : c.state = .scheduled := by
      simp only [Call.lapses, decide_eq_true_eq] at lapses
      exact lapses.1
    have none : c.actual.isSome = false := by
      rw [state] at actual
      simpa using actual
    rw [ticked]
    exact ⟨service, scheduled, destination, report, by simp [Call.flagged, Call.lapsed, none]⟩
  · have ticked : Call.ticked now c = c.flagged now := by simp [Call.ticked, lapses]
    refine ⟨by rw [ticked]; rfl, by rw [ticked]; rfl, fun ⟨service, scheduled, destination, report, actual⟩ => ?_⟩
    rw [ticked]
    exact ⟨service, scheduled, destination, report, actual⟩

theorem State.tablesOk.minuteTick (h : s.tablesOk) : (minuteTick s).tablesOk := by
  have ticked := h.onCalls .today (f := Call.ticked s.clock.minute) (fun c _ => keepsOrder_ticked _ c)
    (fun e => absurd e (by simp))
  obtain ⟨second, today, tomorrow, invalid, day, notPast, staging⟩ := ticked
  have store := minuteTick_store (h.unique .today)
  constructor <;> simpa only [minuteTick_core, minuteTick_clock, store]

/-! ## The day boundary (R9 to R12) -/

theorem Store.nextToday_eq_some {st : Store} {day : Nat} {x : DayTable} (h : st.nextToday day = some x) :
    ∃ o, st.tomorrow = some o ∧ o.day = day ∧ x = o.onCalls Call.shown := by
  unfold Store.nextToday at h
  split at h
  · cases h
  · split at h
    · exact ⟨_, ‹_›, ‹_›, (Option.some.inj h).symm⟩
    · cases h

/-- A day boundary of a clock whose day may have run past the store's leaves the tables in order. -/
theorem tablesOk_dayBoundary (k : DayKind) (second : s.clock.second ≤ lastSecond)
    (tomorrow : ∀ x, s.store.tomorrow = some x → x.ok)
    (invalid : s.clock.valid = false → s.store.tomorrow = none)
    (staging : ∀ g, s.store.staging = some g → g.ok) : (dayBoundary k s).tablesOk := by
  constructor <;> simp only [dayBoundary_core, dayBoundary_store, dayBoundary_clock]
  · exact second
  · intro x hx
    obtain ⟨o, ho, date, rfl⟩ := Store.nextToday_eq_some hx
    refine ⟨(tomorrow o ho).onCalls fun c _ => ⟨rfl, rfl, fun ⟨service, scheduled, destination, report, actual⟩ =>
      ⟨service, scheduled, destination, report, actual⟩⟩, date, ?_⟩
    rw [hx]
    rfl
  · intro x hx
    cases hx
  · intro v
    exact ⟨by simp [Store.nextToday, invalid v], trivial⟩
  · exact fun _ _ => trivial
  · exact Nat.le_refl _
  · exact staging

/-! ## TIME_SET (R5 to R8) -/

theorem State.tablesOk.timeSet (h : s.tablesOk) (up : s.core = .up) (f : TimeSetBody) : (timeSet f s).1.tablesOk := by
  dsimp only [Machine.timeSet]
  (repeat' split)
  · exact h
  · exact h
  · rename_i k _ inside invalid
    obtain ⟨today, tomorrow⟩ := h.invalid invalid
    refine State.tablesOk.minuteTick ?_
    refine State.tablesOk.of_same (s := setStore { s.store with storeDay := f.day.toNat }
      (setClock ⟨true, f.day.toNat, k, f.second.toNat⟩ s)) ?_ (by simp) (by simp) (by simp)
    constructor <;> simp only [setStore_store, setStore_clock, setClock_clock, today, tomorrow]
    · exact Nat.not_lt.mp inside
    · exact fun x hx => by cases hx
    · exact fun x hx => by cases hx
    · exact fun e => by cases e
    · exact fun _ _ => trivial
    · exact Nat.le_refl _
    · exact h.staging
  · exact h
  · rename_i k _ inside invalid _ sameDay
    have valid : s.clock.valid = true := by simpa using invalid
    have day := h.day up valid
    have set : (setStore { s.store with storeDay := s.clock.day }
        (setClock { s.clock with kind := s.kindWithin k, second := f.second.toNat } s)).tablesOk := by
      constructor <;> simp only [setStore_store, setStore_clock, setClock_clock]
      · exact Nat.not_lt.mp inside
      · intro x hx
        obtain ⟨ok, date, kind⟩ := h.today x hx
        refine ⟨ok, date.trans day.symm, ?_⟩
        simpa [State.kindWithin, hx] using kind
      · intro x hx
        obtain ⟨ok, date, flags⟩ := h.tomorrow x hx
        exact ⟨ok, by rw [date, day], flags⟩
      · exact fun e => absurd e (by simp [valid])
      · exact fun _ _ => trivial
      · exact Nat.le_refl _
      · exact h.staging
    dsimp only [timeWithin]
    split
    · exact set.minuteTick
    · exact set
  · rename_i k _ inside invalid _ _
    refine State.tablesOk.minuteTick (tablesOk_dayBoundary _ (Nat.not_lt.mp inside)
      (fun x hx => (h.tomorrow x hx).1) (fun e => absurd e invalid) h.staging)

/-! ## The staged load (R16 to R22) -/

/-- A staging replaced by one in order, or discarded. -/
theorem State.tablesOk.setStaging (h : s.tablesOk) {g : Option Staging} (ok : ∀ x, g = some x → x.ok) :
    (setStaging g s).tablesOk := by
  obtain ⟨second, today, tomorrow, invalid, day, notPast, staging⟩ := h
  exact ⟨second, today, tomorrow, invalid, day, notPast, ok⟩

theorem State.tablesOk.discarded (h : s.tablesOk) : (Machine.setStaging none s).tablesOk :=
  h.setStaging fun x hx => by cases hx

theorem Staging.ok.idled {g : Staging} (h : g.ok) (n : Nat) : Staging.ok { g with idle := n } := by
  obtain ⟨version, count, received, calls⟩ := h
  exact ⟨version, count, received, calls⟩

theorem State.tablesOk.touchStaging (h : s.tablesOk) (p : Port) : (touchStaging p s).tablesOk := by
  unfold Machine.touchStaging
  (repeat' split)
  · exact h
  · rename_i g hg _
    exact h.setStaging fun x hx => by cases hx; exact (h.staging g hg).idled _
  · exact h

theorem stagingOf_ok {p : Port} {f : TtBeginBody} {g : Staging} (h : stagingOf p f = some g) : g.ok := by
  unfold stagingOf at h
  (repeat' split at h) <;> cases h
  have := f.version.isLt
  exact ⟨⟨by dsimp only; omega, by dsimp only; omega⟩, ⟨by dsimp only; omega, by dsimp only; omega⟩,
    ⟨rfl, Nat.zero_le _⟩, fun c hc => by cases hc⟩

theorem State.tablesOk.ttBegin (h : s.tablesOk) (p : Port) (f : TtBeginBody) : (ttBegin p f s).1.tablesOk := by
  unfold Machine.ttBegin
  (repeat' split)
  · exact h.touchStaging p
  · exact h
  · exact h.setStaging fun x hx => by cases hx; exact stagingOf_ok ‹_›

theorem stagedCallsOf_eq_some {rs : List CallRecord} {cs : List StagedCall} (h : stagedCallsOf rs = some cs) :
    cs.length = rs.length ∧ ∀ c ∈ cs, c.ok := by
  induction rs generalizing cs with
  | nil =>
    cases h
    exact ⟨rfl, fun c hc => by cases hc⟩
  | cons r rs ih =>
    unfold stagedCallsOf at h
    split at h
    · rename_i c cs hc hcs
      cases h
      obtain ⟨length, ok⟩ := ih hcs
      refine ⟨congrArg Nat.succ length, fun d hd => ?_⟩
      rcases List.mem_cons.mp hd with rfl | hd
      · unfold stagedCallOf at hc
        (repeat' split at hc) <;> cases hc
        rename_i range
        simp only [serviceOk, decide_eq_true_eq] at range
        have := r.destination.isLt
        exact ⟨range.1, range.2, by dsimp only; omega⟩
      · exact ok d hd
    · cases h

/-- The holder's request on its open staging keeps the tables in order where its own part does. -/
theorem State.tablesOk.onStaging (h : s.tablesOk) (up : s.core = .up) (p : Port) {act : Staging → Owner}
    (own : ∀ (g : Staging) (s : State), s.core = .up → s.tablesOk → g.ok → (act g s).1.tablesOk) :
    (onStaging p act s).1.tablesOk := by
  unfold Machine.onStaging
  (repeat' split)
  · exact h
  · exact h
  · rename_i g hg _
    have ok := (h.staging g hg).idled stagingTime
    exact own _ _ up (h.setStaging fun x hx => by cases hx; exact ok) ok

theorem State.tablesOk.ttCalls (h : s.tablesOk) (up : s.core = .up) (p : Port) (f : TtCallsBody) :
    (ttCalls p f s).1.tablesOk := by
  refine h.onStaging up p fun g s _ h ok => ?_
  (repeat' split)
  · exact h
  · exact h
  · exact h
  · rename_i first within cs hcs
    obtain ⟨length, calls⟩ := stagedCallsOf_eq_some hcs
    obtain ⟨version, count, ⟨received, below⟩, staged⟩ := ok
    refine h.setStaging fun x hx => ?_
    cases hx
    refine ⟨version, count, ⟨by simp [received], by dsimp only; omega⟩, fun c hc => ?_⟩
    exact (List.mem_append.mp hc).elim (staged c) (calls c)

/-- Calls that each stand before the next stand before every later one. -/
theorem pairwise_of_stagedAscending {cs : List StagedCall} (h : stagedAscending cs = true) :
    cs.Pairwise (fun a b => a.scheduled < b.scheduled ∨ (a.scheduled = b.scheduled ∧ a.service < b.service)) := by
  induction cs with
  | nil => exact List.Pairwise.nil
  | cons a cs ih =>
    cases cs with
    | nil => exact List.pairwise_singleton _ _
    | cons b cs =>
      simp only [stagedAscending, Bool.and_eq_true, StagedCall.before, decide_eq_true_eq] at h
      have rest := ih h.2
      refine List.pairwise_cons.mpr ⟨fun c hc => ?_, rest⟩
      rcases List.mem_cons.mp hc with rfl | hc
      · exact h.1
      · have := (List.pairwise_cons.mp rest).1 c hc
        omega

@[simp] theorem StagedCall.placed_service (old : List Call) (g : StagedCall) :
    (g.placed old).service = g.service := by
  unfold StagedCall.placed
  split <;> rfl

@[simp] theorem StagedCall.placed_scheduled (old : List Call) (g : StagedCall) :
    (g.placed old).scheduled = g.scheduled := by
  unfold StagedCall.placed
  split <;> rfl

theorem StagedCall.placed_ok {old : List Call} (held : ∀ c ∈ old, c.ok) {g : StagedCall} (h : g.ok) :
    (g.placed old).ok := by
  obtain ⟨service, scheduled, destination⟩ := h
  unfold StagedCall.placed
  split
  · exact ⟨service, scheduled, destination, (fun _ hr => by cases hr), by simp⟩
  · rename_i c hc
    obtain ⟨-, -, -, report, actual⟩ := held c (findCall_mem hc)
    exact ⟨service, scheduled, destination, report, actual⟩

theorem keepsOrder_entering (name : TableName) (now : Nat) (c : Call) : KeepsOrder (Call.entering name now) c := by
  cases name with
  | today => exact ⟨rfl, rfl, fun ⟨service, scheduled, destination, report, actual⟩ =>
      ⟨service, scheduled, destination, report, actual⟩⟩
  | tomorrow => exact ⟨rfl, rfl, id⟩

/-- A complete staging in order becomes a day table in order (R13, R19). -/
theorem Staging.ok.table {g : Staging} (h : g.ok) (complete : g.next = g.count)
    (ordered : stagedOrdered g.calls = true) (name : TableName) (now : Nat) {old : List Call}
    (held : ∀ c ∈ old, c.ok) : (g.table name now old).ok := by
  obtain ⟨version, count, ⟨received, -⟩, calls⟩ := h
  simp only [stagedOrdered, Bool.and_eq_true, decide_eq_true_eq] at ordered
  obtain ⟨ascending, unique⟩ := ordered
  have placed : ∀ c : StagedCall, ((c.placed old).entering name now).service = c.service ∧
      ((c.placed old).entering name now).scheduled = c.scheduled := fun c =>
    ⟨(keepsOrder_entering name now _).service.trans (by simp),
      (keepsOrder_entering name now _).scheduled.trans (by simp)⟩
  refine ⟨version, ?_, ?_, ?_, fun c hc => ?_⟩
  · simp only [Staging.table, List.length_map]
    omega
  · refine List.pairwise_map.mpr ((pairwise_of_stagedAscending ascending).imp fun {a b} before => ?_)
    simpa only [Call.before, (placed a).1, (placed a).2, (placed b).1, (placed b).2] using before
  · have : (g.table name now old).calls.map Call.service = g.calls.map StagedCall.service := by
      simp only [Staging.table, List.map_map]
      exact List.map_congr_left fun c _ => (placed c).1
    rwa [this]
  · obtain ⟨o, ho, rfl⟩ := List.mem_map.mp hc
    exact (keepsOrder_entering name now _).ok (StagedCall.placed_ok held (calls o ho))

theorem placeStaging_store (g : Staging) (name : TableName) (s : State) :
    (placeStaging g name s).store =
      { s.store.setTable name (some (g.table name s.clock.minute (callsOf (s.store.table name)))) with
        staging := none } := by
  simp [placeStaging, withdrawServices]

theorem placeStaging_clock (g : Staging) (name : TableName) (s : State) :
    (placeStaging g name s).clock = kindLoaded name g.kind s.clock := by
  simp [placeStaging, withdrawServices]

theorem Clock.target_eq_some {c : Clock} {day : Nat} {name : TableName} (h : c.target day = some name) :
    c.valid = true ∧ ((name = .today ∧ day = c.day) ∨ (name = .tomorrow ∧ day = c.day + 1)) := by
  unfold Clock.target at h
  (repeat' split at h) <;> cases h <;> simp_all

theorem State.tablesOk.ttEnd (h : s.tablesOk) (up : s.core = .up) (p : Port) (f : NoFields) :
    (ttEnd p f s).1.tablesOk := by
  refine h.onStaging up p fun g s up h ok => ?_
  (repeat' split)
  · exact h
  · exact h.discarded
  · exact h.discarded
  · exact h.discarded
  · rename_i complete ordered _ name hname _
    obtain ⟨valid, target⟩ := Clock.target_eq_some hname
    have day := h.day up valid
    have table : (g.table name s.clock.minute (callsOf (s.store.table name))).ok := by
      refine ok.table (by simpa using complete) (by simpa using ordered) name _ fun c hc => ?_
      cases hx : s.store.table name with
      | none => simp [hx, callsOf] at hc
      | some x => exact (h.table hx).calls c (by simpa [hx, callsOf] using hc)
    obtain ⟨second, today, tomorrow, -, -, notPast, -⟩ := h
    rcases target with ⟨rfl, date⟩ | ⟨rfl, date⟩ <;> constructor <;>
      simp only [placeStaging_core, placeStaging_store, placeStaging_clock, Store.setTable, kindLoaded]
    · exact second
    · intro x hx
      cases hx
      exact ⟨table, by simpa [Staging.table, ← day] using date, rfl⟩
    · exact tomorrow
    · exact fun e => absurd e (by simp [valid])
    · exact fun _ _ => day
    · exact notPast
    · exact fun x hx => by cases hx
    · exact second
    · exact today
    · intro x hx
      cases hx
      refine ⟨table, by simpa [Staging.table, ← day] using date, fun c hc => ?_⟩
      obtain ⟨o, -, rfl⟩ := List.mem_map.mp hc
      simp only [Call.entering, StagedCall.placed]
      split <;> rfl
    · exact fun e => absurd e (by simp [valid])
    · exact fun _ _ => day
    · exact notPast
    · exact fun x hx => by cases hx

theorem State.tablesOk.stagingExpired (h : s.tablesOk) : (stagingExpired s).tablesOk := by
  unfold Machine.stagingExpired
  (repeat' split)
  · exact h
  · exact h.discarded.of_same (by simp) (by simp) (by simp)
  · exact h

/-! ## Live updates, passages (R23 to R26, R43) -/

theorem reportOf_ok (delay : BitVec 16) (allowance : Byte) :
    (reportOf delay allowance).delay ≤ 720 ∧ (reportOf delay allowance).allowance ≤ 60 :=
  ⟨Nat.min_le_right _ _, Nat.min_le_right _ _⟩

/-- A live update keeps the tables in order where its own part does. -/
theorem State.tablesOk.svcUpdate (h : s.tablesOk) (table : Byte) (service : BitVec 16) {act : CallRef → Call → Owner}
    (own : ∀ r c, s.store.call r = some c → (act r c s).1.tablesOk) :
    (svcUpdate table service act s).1.tablesOk := by
  unfold Machine.svcUpdate
  (repeat' split)
  · exact h
  · exact h
  · exact own _ _ ‹_›

theorem State.tablesOk.svcDelay (h : s.tablesOk) (f : SvcDelayBody) : (svcDelay f s).1.tablesOk := by
  refine h.svcUpdate _ _ fun r c found => h.onCall found ⟨rfl, rfl, fun ok => ?_⟩ .inl
  obtain ⟨service, scheduled, destination, -, actual⟩ := ok
  exact ⟨service, scheduled, destination, (fun x hx => by cases hx; exact reportOf_ok _ _), actual⟩

theorem State.tablesOk.svcClearDelay (h : s.tablesOk) (f : SvcCallBody) : (svcClearDelay f s).1.tablesOk := by
  refine h.svcUpdate _ _ fun r c found => h.onCall found ⟨rfl, rfl, fun ok => ?_⟩ .inl
  obtain ⟨service, scheduled, destination, -, actual⟩ := ok
  exact ⟨service, scheduled, destination, (fun x hx => by cases hx), actual⟩

theorem Call.ok.actual_of_state {c : Call} (h : c.ok) {x : CallState} (state : c.state = x)
    (other : x ≠ .departed) : c.actual.isSome = false := by
  have := h.actual
  rw [state] at this
  simpa [other] using this

theorem State.tablesOk.svcCancel (h : s.tablesOk) (f : SvcCallBody) : (svcCancel f s).1.tablesOk := by
  refine h.svcUpdate _ _ fun r c found => ?_
  split
  · rename_i state
    refine (h.onCall found (f := fun c => { c with state := .cancelled }) ⟨rfl, rfl, fun ok => ?_⟩
      .inl).of_same (by rfl) (by rfl) (by rfl)
    have none := ok.actual_of_state state (by simp)
    exact ⟨ok.service, ok.scheduled, ok.destination, ok.report, by simp [none]⟩
  all_goals exact h

theorem State.tablesOk.svcReinstate (h : s.tablesOk) (f : SvcCallBody) : (svcReinstate f s).1.tablesOk := by
  refine h.svcUpdate _ _ fun r c found => ?_
  split
  · rename_i state
    refine h.onCall found ⟨rfl, rfl, fun ok => ?_⟩ fun _ => .inl rfl
    have none := ok.actual_of_state state (by simp)
    exact ⟨ok.service, ok.scheduled, ok.destination, ok.report, by simp [none]⟩
  all_goals exact h

/-- The call a passage matches is a SCHEDULED one of TODAY, found by its own service id. -/
theorem Store.matching_eq_some {st : Store} (unique : ((callsOf st.today).map Call.service).Nodup) {x : Passage}
    {c : Call} (h : st.matching x = some c) : st.call ⟨.today, c.service⟩ = some c ∧ c.state = .scheduled := by
  unfold Store.matching at h
  split at h
  · have candidate := List.find?_some h
    have mem := List.mem_of_find?_eq_some h
    simp only [Passage.candidate, Bool.and_eq_true, decide_eq_true_eq] at candidate
    refine ⟨?_, candidate.1.1⟩
    cases found : st.call ⟨.today, c.service⟩ with
    | none =>
      have := List.find?_eq_none.mp found c mem
      simp at this
    | some d => rw [eq_of_service_eq unique mem (findCall_mem found) (findCall_service found).symm]
  · cases h

theorem State.tablesOk.passageClosed (h : s.tablesOk) : (passageClosed s).tablesOk := by
  dsimp only [Machine.passageClosed, closePassage]
  (repeat' split)
  · exact h
  · exact h.of_same (by rfl) (by rfl) (by rfl)
  · rename_i c matched
    obtain ⟨found, -⟩ := Store.matching_eq_some (h.unique .today) matched
    refine (h.onCall found (f := Call.departedAt _) ⟨rfl, rfl, fun ok => ?_⟩ fun _ => .inr rfl).of_same
      (by rfl) (by rfl) (by rfl)
    exact ⟨ok.service, ok.scheduled, ok.destination, ok.report, by simp [Call.departedAt]⟩
  · exact h.of_same (by simp) (by simp) (by simp)
  · exact h

/-! ## Port resets, elapsed time, starts -/

theorem State.tablesOk.resetPort (h : s.tablesOk) (p : Port) : (resetPort p s).tablesOk := by
  have released (t : State) (ht : t.tablesOk) : (releaseStaging p t).tablesOk := by
    unfold releaseStaging
    (repeat' split)
    · exact ht
    · exact ht.discarded
    · exact ht
  refine (released _ (h.of_same (t := resetSales p (setPort p (s.ports.get p).cleared s)) ?_ ?_ ?_)).of_same ?_ ?_ ?_
  all_goals simp [Machine.resetPort]

theorem State.tablesOk.portReset (h : s.tablesOk) (p : Port) (f : PortResetBody) : (portReset p f s).1.tablesOk := by
  unfold Machine.portReset
  (repeat' split)
  · exact h
  · exact h.resetPort .terminal
  · exact h.resetPort .link
  · exact h
  · exact h

theorem State.tablesOk.resetLineActive (h : s.tablesOk) (p : Port) : (resetLineActive p s).tablesOk := by
  unfold Machine.resetLineActive
  split
  · exact (h.resetPort p).of_same (by simp) (by simp) (by simp)
  · exact h

theorem State.tablesOk.dipSecond (h : s.tablesOk) (down : s.core = .down) :
    (setClock s.clock.dipSecond s).tablesOk := by
  obtain ⟨second, today, tomorrow, invalid, -, notPast, staging⟩ := h
  have kept : s.clock.dipSecond.valid = s.clock.valid ∧ s.clock.dipSecond.kind = s.clock.kind ∧
      s.clock.day ≤ s.clock.dipSecond.day ∧ s.clock.dipSecond.second ≤ lastSecond := by
    unfold Clock.dipSecond
    (repeat' split) <;> refine ⟨rfl, rfl, by simp, ?_⟩
    · exact second
    · exact Nat.succ_le_of_lt ‹_›
    · exact Nat.zero_le _
    · exact second
  obtain ⟨valid, kind, day, second⟩ := kept
  exact ⟨second, by simpa only [setClock_store, setClock_clock, kind] using today, tomorrow,
    by simpa only [setClock_store, setClock_clock, valid] using invalid, fun up => by simp [down] at up,
    Nat.le_trans notPast day, staging⟩

theorem State.tablesOk.elapse (h : s.tablesOk) : (elapse s).tablesOk := by
  obtain ⟨second, today, tomorrow, invalid, day, notPast, staging⟩ := h
  refine ⟨second, today, tomorrow, invalid, day, notPast, fun g hg => ?_⟩
  obtain ⟨o, ho, rfl⟩ := Option.map_eq_some_iff.mp hg
  exact (staging o ho).idled _

theorem State.tablesOk.nextSecond (h : s.tablesOk) (below : s.clock.second < lastSecond) :
    (setClock { s.clock with second := s.clock.second + 1 } s).tablesOk := by
  obtain ⟨-, today, tomorrow, invalid, day, notPast, staging⟩ := h
  exact ⟨Nat.succ_le_of_lt below, today, tomorrow, invalid, day, notPast, staging⟩

/-- The run-over into the next day. -/
theorem State.tablesOk.nextDay (h : s.tablesOk) (valid : s.clock.valid = true) :
    (dayBoundary .weekday (setClock { s.clock with day := s.clock.day + 1, second := 0 } s)).tablesOk :=
  tablesOk_dayBoundary _ (Nat.zero_le _) (fun x hx => (h.tomorrow x hx).1)
    (fun e => absurd e (by simp [valid])) h.staging

theorem State.tablesOk.secondElapses (h : s.tablesOk) : (secondElapses s).tablesOk :=
  secondElapses_keeps (P := State.tablesOk) h.dipSecond (fun _ => h.elapse) (fun _ _ below h => h.nextSecond below)
    (fun _ h => h.minuteTick) (fun _ _ valid h => h.nextDay valid)

theorem tablesOk_reset : State.reset.tablesOk := by
  constructor <;> simp [State.reset]

/-- The core domain lost keeps the clock and the tables; whether the clock's day is the store's is left to the start. -/
theorem State.tablesOk.warmStarted (h : s.tablesOk) (l : DataLine) : (warmStarted l s).tablesOk := by
  have clock : (warmBegun s).clock = s.clock := by simp [warmBegun, coreLost, startIdle]
  have store : (warmBegun s).store = { s.store with staging := none } := by simp [warmBegun, coreLost, startIdle]
  have bounded : (startBoundary (warmBegun s)).tablesOk := by
    obtain ⟨second, today, tomorrow, invalid, -, notPast, -⟩ := h
    unfold startBoundary
    split
    · refine tablesOk_dayBoundary _ ?_ ?_ ?_ ?_ <;> simp only [clock, store]
      · exact second
      · exact fun x hx => (tomorrow x hx).1
      · exact fun e => (invalid e).2
      · exact fun x hx => by cases hx
    · rename_i sameDay
      rw [clock, store] at sameDay
      constructor <;> simp only [clock, store]
      · exact second
      · exact today
      · exact tomorrow
      · exact invalid
      · exact fun _ _ => Nat.le_antisymm (Nat.not_lt.mp sameDay) notPast
      · exact notPast
      · exact fun x hx => by cases hx
  rw [warmStarted_eq]
  refine State.tablesOk.of_same (s := startTick (startBoundary (warmBegun s))) ?_ (by simp) (by simp) (by simp)
  unfold startTick
  split
  · exact bounded.minuteTick
  · exact bounded

theorem State.tablesOk.dip (h : s.tablesOk) : (dip s).tablesOk := by
  unfold Machine.dip
  split
  · obtain ⟨second, today, tomorrow, invalid, -, notPast, -⟩ := h
    exact ⟨second, today, tomorrow, invalid, fun up => by simp [coreLost, startIdle] at up, notPast,
      fun g hg => by simp [coreLost, startIdle] at hg⟩
  · exact h

/-! ## Every step -/

theorem ambient_tables : Ambient State.tablesOk where
  queue _ _ h := h.of_same (by rfl) (by rfl) (by rfl)
  port _ _ _ _ _ h := h.of_same (by rfl) (by rfl) (by rfl)
  silence _ _ _ h := h.of_same (by rfl) (by rfl) (by rfl)
  counted _ _ _ h := h.of_same (by rfl) (by rfl) (by rfl)
  drawn _ _ h := h.of_same (by rfl) (by rfl) (by rfl)
  cycled _ _ h := h.of_same (by rfl) (by rfl) (by rfl)
  frame _ _ _ h := h.of_same (by simp) (by simp) (by simp)

/-- The blocks that the order of the tables is about. -/
abbrev tableBlocks : List Block := [.core, .clock, .store]

/-- Each command's own part keeps the clock, the day tables and the staging in order. -/
theorem keeps_tables (i : Instr) : (actOf i).Keeps State.tablesOk := by
  by_cases touched : ∀ b ∈ tableBlocks, b ∉ blocksOf i
  · exact keeps_of_untouched tableBlocks (fun s t same h =>
      h.of_same (same .core (by simp)) (same .clock (by simp)) (same .store (by simp))) touched
  · cases i <;> simp [blocksOf] at touched
    case timeSet p b => exact keeps_onFields (fun f _ up h => h.timeSet up f) b
    case ttBegin p b => exact keeps_onFields (fun f _ _ h => h.ttBegin p f) b
    case ttCalls p b => exact keeps_onFields (fun f _ up h => h.ttCalls up p f) b
    case ttEnd p b => exact keeps_onFields (fun f _ up h => h.ttEnd up p f) b
    case svcUpdateDelay p b => exact keeps_onFields (fun f _ _ h => h.svcDelay f) b
    case svcUpdateClearDelay p f => exact fun s _ h => h.svcClearDelay f
    case svcUpdateCancel p f => exact fun s _ h => h.svcCancel f
    case svcUpdateReinstate p f => exact fun s _ h => h.svcReinstate f
    case portReset p b => exact keeps_onFields (fun f _ _ h => h.portReset p f) b
    case portResetLineActive p => exact fun s _ h => h.resetLineActive p
    case clockSecond => exact fun s h => h.secondElapses
    case stagingIdleTimeout => exact fun s _ h => h.stagingExpired
    case passageClose => exact fun s _ h => h.passageClosed
    case coldStart => exact fun s _ => tablesOk_reset.of_same (by rfl) (by rfl) (by rfl)
    case warmStart l => exact fun s h => h.warmStarted l
    case coreSupplyDip => exact fun s h => h.dip

/-- Settles O55: what follows a command leaves the clock and the store alone, and each command's own part keeps
their order (`keeps_tables`). -/
theorem stepKeepsTablesOk : Obligations.StepKeepsTablesOk := by
  unfold Obligations.StepKeepsTablesOk
  exact fun s t h e => step_keeps ambient_tables keeps_tables h e

end Sys2Proof.Machine
end

section
/-! PROOFS. The target of every quote and expired record a SCHEDULED call of the table it names (O56). -/

namespace Sys2Proof.Machine

variable {s t u : State}

/-! ## What the per-port sales records target -/

/-- A call is targeted by a port's quote or expired record. -/
def State.targeted (s : State) (r : CallRef) : Prop :=
  ∃ p q, (s.sales.ports.get p).holds q ∧ q.request.target = some r

/-- A call of the store is SCHEDULED. -/
def State.scheduled (s : State) (r : CallRef) : Prop := ∃ c, s.store.call r = some c ∧ c.state = .scheduled

theorem quotesOk_iff : s.quotesOk ↔ ∀ r, s.targeted r → s.scheduled r :=
  ⟨fun h r ⟨p, q, held, target⟩ => h p q r held target, fun h p q r held target => h r ⟨p, q, held, target⟩⟩

/-- What is targeted was targeted before, by a call that stays SCHEDULED. -/
theorem State.quotesOk.of_targeted (h : s.quotesOk)
    (kept : ∀ r, t.targeted r → s.targeted r ∧ (s.scheduled r → t.scheduled r)) : t.quotesOk :=
  quotesOk_iff.mpr fun r target => (kept r target).2 (quotesOk_iff.mp h r (kept r target).1)

theorem targeted_congr (ports : t.sales.ports = s.sales.ports) {r : CallRef} : t.targeted r ↔ s.targeted r := by
  simp only [State.targeted, ports]

theorem scheduled_congr {r : CallRef} (call : t.store.call r = s.store.call r) :
    t.scheduled r ↔ s.scheduled r := by
  simp only [State.scheduled, call]

theorem State.quotesOk.of_same (h : s.quotesOk) (ports : t.sales.ports = s.sales.ports)
    (call : ∀ r, t.store.call r = s.store.call r) : t.quotesOk :=
  h.of_targeted fun r target => ⟨(targeted_congr ports).mp target, (scheduled_congr (call r)).mpr⟩

theorem State.quotesOk.of_tables (h : s.quotesOk) (ports : t.sales.ports = s.sales.ports)
    (today : t.store.today = s.store.today) (tomorrow : t.store.tomorrow = s.store.tomorrow) : t.quotesOk := by
  refine h.of_same ports fun r => ?_
  obtain ⟨table, n⟩ := r
  cases table <;> simp only [Store.call, Store.table, today, tomorrow]

/-- One port's record replaced: what it holds is new, or was held there before. -/
theorem targeted_setSales {p : Port} {x : PortSales} {r : CallRef} (h : (setSales p x s).targeted r) :
    (∃ q, x.holds q ∧ q.request.target = some r) ∨ s.targeted r := by
  obtain ⟨p', q, held, target⟩ := h
  by_cases own : p' = p
  · subst own
    exact .inl ⟨q, by simpa using held, target⟩
  · refine .inr ⟨p', q, ?_, target⟩
    simpa [PerPort.get_set_of_ne _ _ own] using held

/-- A record replaced by one that holds nothing which was not held. -/
theorem State.quotesOk.setSales (h : s.quotesOk) {p : Port} {x : PortSales}
    (held : ∀ q r, x.holds q → q.request.target = some r → s.scheduled r) : (setSales p x s).quotesOk := by
  refine quotesOk_iff.mpr fun r target => ?_
  rcases targeted_setSales target with ⟨q, hq, e⟩ | before
  · exact held q r hq e
  · exact quotesOk_iff.mp h r before

/-- What a withdrawal leaves held was held before, on a call that it does not name. -/
theorem holds_of_quotesWithdrawn {hit : CallRef → Prop} (w : quotesWithdrawn hit s u) {p : Port} {q : Quote}
    (held : (u.sales.ports.get p).holds q) :
    (s.sales.ports.get p).holds q ∧ ∀ r, q.request.target = some r → ¬ hit r := by
  obtain ⟨gone, stays⟩ := w p
  by_cases first : ∃ q', (s.sales.ports.get p).slot = some q' ∧ ∃ r, q'.request.target = some r ∧ hit r
  · obtain ⟨q', slot, target⟩ := first
    rw [gone q' slot target] at held
    rcases held with held | held <;> cases held
  · obtain ⟨same, invalidated, kept⟩ := stays fun q' slot target => first ⟨q', slot, target⟩
    rcases held with held | held
    · rw [same] at held
      exact ⟨.inl held, fun r target named => first ⟨q, held, r, target, named⟩⟩
    · by_cases marked : ∃ q', (s.sales.ports.get p).mark = .expired q' ∧
          ∃ r, q'.request.target = some r ∧ hit r
      · obtain ⟨q', expired, target⟩ := marked
        exact absurd (held.symm.trans (invalidated q' expired target)) (by simp)
      · have before := (kept fun q' expired target => marked ⟨q', expired, target⟩).symm.trans held
        exact ⟨.inr before, fun r target named => marked ⟨q, before, r, target, named⟩⟩

theorem targeted_of_quotesWithdrawn {hit : CallRef → Prop} (w : quotesWithdrawn hit s u) {r : CallRef}
    (h : u.targeted r) : s.targeted r ∧ ¬ hit r := by
  obtain ⟨p, q, held, target⟩ := h
  obtain ⟨before, clear⟩ := holds_of_quotesWithdrawn w held
  exact ⟨⟨p, q, before, target⟩, clear r target⟩

/-- A withdrawal of every targeted call that does not stay SCHEDULED. -/
theorem State.quotesOk.withdrawn (h : s.quotesOk) {hit : CallRef → Prop} (w : quotesWithdrawn hit s u)
    (stays : ∀ r, ¬ hit r → s.scheduled r → u.scheduled r) : u.quotesOk :=
  h.of_targeted fun r target =>
    have ⟨before, clear⟩ := targeted_of_quotesWithdrawn w target
    ⟨before, stays r clear⟩

theorem quotesWithdrawn_withdrawCall (r : CallRef) (s : State) :
    quotesWithdrawn (fun t => t = r) s (withdrawCall r s) :=
  quotesWithdrawn_congr (fun _ => decide_eq_true_iff) (quotesWithdrawn_withdraw _ s)

theorem quotesWithdrawn_refl (s : State) : quotesWithdrawn (fun _ => False) s s := fun _ =>
  ⟨fun _ _ ⟨_, _, never⟩ => never.elim, fun _ => ⟨rfl, fun _ _ ⟨_, _, never⟩ => never.elim, fun _ => rfl⟩⟩

/-- A withdrawal from a state with the same per-port records. -/
theorem quotesWithdrawn_from {a : CallRef → Prop} (e : t.sales.ports = s.sales.ports)
    (h : quotesWithdrawn a t u) : quotesWithdrawn a s u := by
  intro p
  have := h p
  rw [e] at this
  exact this

/-! ## Operations that change the sales controller's reasons alone -/

theorem faresMessage_sales_eq (before after : Bool) (s : State) :
    (faresMessage before after s).sales = { s.sales with reasons := (faresMessage before after s).sales.reasons } := by
  unfold faresMessage
  (repeat' split) <;> simp

theorem tellSales_sales_eq (old new : SupplyState) (s : State) :
    (tellSales old new s).sales = { s.sales with reasons := (tellSales old new s).sales.reasons } := by
  unfold tellSales
  (repeat' split) <;> simp

theorem freeMessage_sales_eq (j : Journal) (s : State) :
    (freeMessage j s).sales = { s.sales with reasons := (freeMessage j s).sales.reasons } := by
  rcases freeMessage_eq j s with ⟨-, -, e⟩ | ⟨-, -, e⟩ | ⟨-, e⟩ <;> rw [e] <;> simp

theorem append_sales_eq (k : EntryKind) (s : State) :
    (append k s).sales = { s.sales with reasons := (append k s).sales.reasons } := by
  rcases append_eq k s with ⟨-, e⟩ | ⟨-, e⟩ <;> rw [e]
  · rfl
  · rw [uploadDue_sales, freeMessage_sales_eq]
    rfl

theorem changeSupply_sales_eq (new : SupplyState) (l : DataLine) (s : State) :
    (changeSupply new l s).sales = { s.sales with reasons := (changeSupply new l s).sales.reasons } := by
  have kept : (changeSupply new l s).sales =
      (append (.supply new) (tellSales s.supply.state new
        (setSupply { s.supply.runsCleared with state := new } s))).sales := by
    unfold changeSupply
    dsimp only
    split <;> simp
  rw [kept, append_sales_eq, tellSales_sales_eq]
  rfl

theorem sampleTaken_sales_eq (millivolts : Nat) (l : DataLine) (s : State) :
    (sampleTaken millivolts l s).sales = { s.sales with reasons := (sampleTaken millivolts l s).sales.reasons } := by
  dsimp only [sampleTaken, applySample]
  (repeat' split)
  · rfl
  · rw [changeSupply_sales_eq]
    rfl
  · rfl

@[simp] theorem append_salesPorts (k : EntryKind) (s : State) : (append k s).sales.ports = s.sales.ports := by
  rw [append_sales_eq]

/-! ## The minute tick (R30, R31, R78) -/

theorem quotesWithdrawn_lapseCall (c : Call) (s : State) :
    quotesWithdrawn (fun r => r = ⟨.today, c.service⟩) s (lapseCall c s) := by
  refine quotesWithdrawn_of_same (t := withdrawCall ⟨.today, c.service⟩
    (setStore (s.store.onCall ⟨.today, c.service⟩ Call.lapsed) s)) ?_ (by simp [lapseCall])
  exact quotesWithdrawn_from rfl (quotesWithdrawn_withdrawCall _ _)

theorem quotesWithdrawn_foldl_lapseCall (due : List Call) (s : State) :
    quotesWithdrawn (fun r => r.table = .today ∧ ∃ c ∈ due, r.service = c.service) s
      (due.foldl (fun t c => lapseCall c t) s) := by
  induction due generalizing s with
  | nil => exact quotesWithdrawn_congr (fun r => by simp) (quotesWithdrawn_refl s)
  | cons d due ih =>
    refine quotesWithdrawn_congr (fun r => ?_) (quotesWithdrawn_trans (quotesWithdrawn_lapseCall d s) (ih _))
    obtain ⟨name, n⟩ := r
    simp only [CallRef.mk.injEq, List.mem_cons, exists_eq_or_imp]
    grind

/-- A minute tick withdraws what targets a call that it lapses. -/
theorem quotesWithdrawn_minuteTick (s : State) :
    quotesWithdrawn (fun r => r.table = .today ∧
      ∃ c ∈ (callsOf s.store.today).filter (Call.lapses s.clock.minute), r.service = c.service) s (minuteTick s) := by
  refine quotesWithdrawn_of_same (t := lapseCalls s) (quotesWithdrawn_foldl_lapseCall _ s) ?_
  simp [minuteTick, flagCalls]

theorem Store.call_onCalls {f : Call → Call} (keep : ∀ c, (f c).service = c.service) (name : TableName)
    (st : Store) (r : CallRef) :
    (st.onCalls name f).call r = if r.table = name then (st.call r).map f else st.call r := by
  obtain ⟨table, n⟩ := r
  have find (l : List Call) : findCall (l.map f) n = (findCall l n).map f := by
    unfold findCall
    rw [List.find?_map]
    simp only [Function.comp_def, keep]
  cases table <;> cases name <;> simp [Store.call, Store.onCalls, Store.table, callsOf_map, find]

theorem Call.ticked_service (now : Nat) (c : Call) : (Call.ticked now c).service = c.service :=
  (keepsOrder_ticked now c).service

theorem State.quotesOk.minuteTick (h : s.quotesOk)
    (unique : ((callsOf s.store.today).map Call.service).Nodup) : (minuteTick s).quotesOk := by
  refine h.withdrawn (quotesWithdrawn_minuteTick s) fun r clear ⟨c, found, state⟩ => ?_
  have call : (Machine.minuteTick s).store.call r =
      (s.store.onCalls .today (Call.ticked s.clock.minute)).call r := by
    rw [minuteTick_store unique]
    rfl
  unfold State.scheduled
  rw [call, Store.call_onCalls (Call.ticked_service _)]
  split
  · rename_i today
    refine ⟨Call.ticked s.clock.minute c, by rw [found]; rfl, ?_⟩
    have stays : c.lapses s.clock.minute = false := by
      refine Bool.eq_false_iff.mpr fun due => ?_
      refine clear ⟨today, c, List.mem_filter.mpr ⟨?_, by simpa using due⟩, (findCall_service found).symm⟩
      have mem := findCall_mem found
      rwa [today] at mem
    simpa [Call.ticked, stays, Call.flagged] using state
  · exact ⟨c, found, state⟩

/-! ## The day boundary (R79) -/

/-- What is targeted after a day boundary was targeted as a call of a TOMORROW that became TODAY, or stands in a
TOMORROW that was EMPTY already. -/
theorem targeted_dayBoundary {k : DayKind} {r : CallRef} (h : (dayBoundary k s).targeted r) :
    (∃ x, s.store.tomorrow = some x ∧ x.day = s.clock.day ∧ r.table = .today ∧
        s.targeted ⟨.tomorrow, r.service⟩) ∨
      (r.table = .tomorrow ∧ s.store.tomorrow = none ∧ s.targeted r) := by
  obtain ⟨p, q, held, target⟩ := h
  by_cases move : ∃ x, s.store.tomorrow = some x ∧ x.day = s.clock.day
  · obtain ⟨x, hx, day⟩ := move
    rw [dayBoundary_sales_of_moved k hx day] at held
    obtain ⟨q', held', rfl⟩ := holds_of_repoint held
    rw [Quote.repointed_target, Option.map_eq_some_iff] at target
    obtain ⟨⟨table, n⟩, target', rfl⟩ := target
    obtain ⟨before, other⟩ := holds_of_withdrawTable held' target'
    cases table with
    | today => exact absurd rfl other
    | tomorrow => exact .inl ⟨x, hx, day, rfl, p, q', before, target'⟩
  · have dropped := quotesWithdrawn_of_dropped k fun x hx day => move ⟨x, hx, day⟩
    obtain ⟨before, clear⟩ := targeted_of_quotesWithdrawn dropped ⟨p, q, held, target⟩
    obtain ⟨old, kept⟩ := not_or.mp clear
    refine .inr ⟨?_, by simpa using kept, before⟩
    cases table : r.table with
    | today => exact absurd table old
    | tomorrow => rfl

theorem State.quotesOk.dayBoundary (h : s.quotesOk) (k : DayKind) : (dayBoundary k s).quotesOk := by
  refine quotesOk_iff.mpr fun r target => ?_
  rcases targeted_dayBoundary target with ⟨x, hx, day, table, before⟩ | ⟨table, empty, before⟩
  · obtain ⟨c, found, state⟩ := quotesOk_iff.mp h _ before
    have shown : findCall (x.calls.map Call.shown) r.service = (findCall x.calls r.service).map Call.shown := by
      unfold findCall
      rw [List.find?_map]
      rfl
    have found' : findCall x.calls r.service = some c := by simpa [Store.call, Store.table, hx, callsOf] using found
    refine ⟨c.shown, ?_, state⟩
    have moved := Store.nextToday_of_day hx
    rw [day] at moved
    simp [Store.call, table, Store.table, moved, callsOf, DayTable.onCalls, shown, found']
  · obtain ⟨c, found, -⟩ := quotesOk_iff.mp h _ before
    simp [Store.call, table, Store.table, empty, callsOf, findCall] at found

/-! ## The requests that touch a quote, a record or a call -/

theorem State.quotesOk.timeSet (h : s.quotesOk) (tables : s.tablesOk) (f : TimeSetBody) :
    (timeSet f s).1.quotesOk := by
  have unique := tables.unique .today
  dsimp only [Machine.timeSet]
  (repeat' split)
  · exact h
  · exact h
  · refine State.quotesOk.minuteTick (h.of_same (by simp) (fun _ => ?_)) ?_
    · simp [Store.call, Store.table]
    · simpa [Store.table] using unique
  · exact h
  · dsimp only [timeWithin]
    split
    · exact State.quotesOk.minuteTick (h.of_same rfl (fun _ => rfl)) unique
    · exact h.of_same rfl (fun _ => rfl)
  · rename_i inside valid _ _
    have later (k : DayKind) := tablesOk_dayBoundary
      (s := setClock { s.clock with day := f.day.toNat, second := f.second.toNat } s)
      k (Nat.not_lt.mp inside) (fun x hx => (tables.tomorrow x hx).1) (fun e => absurd e valid) tables.staging
    have set : (setClock { s.clock with day := f.day.toNat, second := f.second.toNat } s).quotesOk :=
      h.of_same rfl fun _ => rfl
    exact (set.dayBoundary _).minuteTick ((later _).unique .today)

/-- A staging filled, replaced or discarded touches no call. -/
theorem State.quotesOk.setStaging (h : s.quotesOk) (g : Option Staging) : (setStaging g s).quotesOk :=
  h.of_same rfl fun _ => rfl

theorem State.quotesOk.ttBegin (h : s.quotesOk) (p : Port) (f : TtBeginBody) : (ttBegin p f s).1.quotesOk := by
  unfold Machine.ttBegin touchStaging
  (repeat' split)
  · exact h
  · exact h.setStaging _
  · exact h
  · exact h
  · exact h.setStaging _

theorem State.quotesOk.onStaging (h : s.quotesOk) (p : Port) {act : Staging → Owner}
    (own : ∀ g t, State.quotesOk t → (act g t).1.quotesOk) : (onStaging p act s).1.quotesOk := by
  unfold Machine.onStaging
  (repeat' split)
  · exact h
  · exact h
  · exact own _ _ (h.setStaging _)

theorem State.quotesOk.ttCalls (h : s.quotesOk) (p : Port) (f : TtCallsBody) : (ttCalls p f s).1.quotesOk := by
  refine h.onStaging p fun g t h => ?_
  (repeat' split)
  · exact h
  · exact h
  · exact h
  · exact h.setStaging _

/-- A placed staging withdraws the quotes on the calls it discards, and carries the state of the others (R19, R20). -/
theorem quotesWithdrawn_placeStaging (g : Staging) (name : TableName) (s : State) :
    quotesWithdrawn (fun r => r.table = name ∧
        r.service ∈ discardedServices (callsOf (s.store.table name)) g.calls) s (placeStaging g name s) := by
  refine quotesWithdrawn_congr (fun r => decide_eq_true_iff) (quotesWithdrawn_of_same (quotesWithdrawn_from
    (t := setStore { s.store.setTable name (some (g.table name s.clock.minute (callsOf (s.store.table name)))) with
      staging := none } s) rfl (quotesWithdrawn_withdraw _ _)) ?_)
  simp [placeStaging, withdrawServices]

/-- The placed call of a service id that the old table held carries its state. -/
theorem findCall_table {g : Staging} {name : TableName} {now n : Nat} {old : List Call} {c : Call}
    (found : findCall old n = some c) (stays : n ∈ g.calls.map StagedCall.service) :
    ∃ d, findCall (g.table name now old).calls n = some d ∧ d.state = c.state := by
  have service (x : StagedCall) : ((x.placed old).entering name now).service = x.service :=
    (keepsOrder_entering name now _).service.trans (by simp)
  unfold findCall Staging.table
  rw [List.find?_map]
  have same : ((fun c => decide (c.service = n)) ∘ fun x : StagedCall => (x.placed old).entering name now) =
      fun x => decide (x.service = n) := funext fun x => by simp [service]
  rw [same]
  cases first : g.calls.find? (fun x => decide (x.service = n)) with
  | none =>
    obtain ⟨x, hx, rfl⟩ := List.mem_map.mp stays
    simpa using List.find?_eq_none.mp first x hx
  | some x =>
    refine ⟨_, rfl, ?_⟩
    have id : x.service = n := by simpa using List.find?_some first
    have placed : (x.placed old).state = c.state := by
      unfold StagedCall.placed
      rw [id, found]
    cases name <;> exact placed

theorem State.quotesOk.placeStaging (h : s.quotesOk) (g : Staging) (name : TableName) :
    (placeStaging g name s).quotesOk := by
  refine h.withdrawn (quotesWithdrawn_placeStaging g name s) fun r clear ⟨c, found, state⟩ => ?_
  obtain ⟨table, n⟩ := r
  by_cases own : table = name
  · subst own
    have stays : n ∈ g.calls.map StagedCall.service := by
      refine Decidable.byContradiction fun gone => ?_
      refine clear ⟨rfl, ?_⟩
      simp only [discardedServices, List.mem_filter, decide_eq_true_eq]
      exact ⟨List.mem_map.mpr ⟨c, findCall_mem found, findCall_service found⟩, gone⟩
    obtain ⟨d, held, same⟩ := findCall_table (g := g) (name := table) (now := s.clock.minute) found stays
    refine ⟨d, ?_, same.trans state⟩
    rw [placeStaging_store]
    cases table <;> exact held
  · refine ⟨c, ?_, state⟩
    rw [placeStaging_store]
    cases table <;> cases name <;> first | exact found | exact absurd rfl own

theorem State.quotesOk.ttEnd (h : s.quotesOk) (p : Port) (f : NoFields) : (ttEnd p f s).1.quotesOk := by
  refine h.onStaging p fun g t h => ?_
  (repeat' split)
  · exact h
  · exact h.setStaging none
  · exact h.setStaging none
  · exact h.setStaging none
  · exact h.placeStaging g _

/-- One call changed, with its state where it is SCHEDULED. -/
theorem State.quotesOk.onCall (h : s.quotesOk) {r : CallRef} {f : Call → Call}
    (service : ∀ c, (f c).service = c.service) (state : ∀ c, c.state = .scheduled → (f c).state = .scheduled) :
    (setStore (s.store.onCall r f) s).quotesOk := by
  refine h.of_targeted fun r' target => ⟨target, fun ⟨c, found, scheduled⟩ => ?_⟩
  unfold State.scheduled
  rw [setStore_store, Store.call_onCall service, found]
  split
  · exact ⟨_, rfl, state c scheduled⟩
  · exact ⟨c, rfl, scheduled⟩

/-- One call changed and withdrawn. -/
theorem State.quotesOk.withdrawCall (h : s.quotesOk) {r : CallRef} {f : Call → Call}
    (service : ∀ c, (f c).service = c.service) : (withdrawCall r (setStore (s.store.onCall r f) s)).quotesOk := by
  refine h.withdrawn (quotesWithdrawn_from rfl (quotesWithdrawn_withdrawCall r _))
    fun r' other ⟨c, found, scheduled⟩ => ⟨c, ?_, scheduled⟩
  rw [withdrawCall_store, setStore_store, Store.call_onCall service, if_neg other, found]

theorem State.quotesOk.svcUpdate (h : s.quotesOk) (table : Byte) (service : BitVec 16) {act : CallRef → Call → Owner}
    (own : ∀ r c, (act r c s).1.quotesOk) : (svcUpdate table service act s).1.quotesOk := by
  unfold Machine.svcUpdate
  (repeat' split)
  · exact h
  · exact h
  · exact own _ _

theorem State.quotesOk.svcCancel (h : s.quotesOk) (f : SvcCallBody) : (svcCancel f s).1.quotesOk := by
  refine h.svcUpdate _ _ fun r c => ?_
  split
  · exact h.withdrawCall fun _ => rfl
  all_goals exact h

theorem State.quotesOk.svcReinstate (h : s.quotesOk) (f : SvcCallBody) : (svcReinstate f s).1.quotesOk := by
  refine h.svcUpdate _ _ fun r c => ?_
  split
  · exact h.onCall (fun _ => rfl) fun _ _ => rfl
  all_goals exact h

theorem State.quotesOk.passageClosed (h : s.quotesOk) : (passageClosed s).quotesOk := by
  dsimp only [Machine.passageClosed, closePassage]
  (repeat' split)
  · exact h
  · exact h.of_same rfl fun _ => rfl
  · exact (h.withdrawCall (f := Call.departedAt _) fun _ => rfl).of_same rfl fun _ => rfl
  · exact h.of_same (by simp [unmatchedPassage]) fun _ => by simp [unmatchedPassage]
  · exact h

/-! ## The sales controller -/

/-- A call that a QUOTE accepts as on sale is SCHEDULED (R28). -/
theorem scheduled_of_onSale {r : FareRequest} {c : CallRef} (onSale : s.targetOnSale r = true)
    (target : r.target = some c) : s.scheduled c := by
  simp only [State.targetOnSale, target, State.refOnSale] at onSale
  split at onSale
  · cases onSale
  · refine ⟨_, ‹_›, ?_⟩
    simp only [Call.onSale, Bool.and_eq_true, decide_eq_true_eq] at onSale
    exact onSale.1

theorem State.quotesOk.quote (h : s.quotesOk) (p : Port) (b : Body QuoteBody) : (quote p b s).1.quotesOk := by
  dsimp only [Machine.quote]
  split
  · exact h.of_same (by simp) fun _ => by simp
  · rename_i r x checks
    refine h.setSales fun q t held target => ?_
    rcases held with held | held
    · obtain rfl := Option.some.inj held
      refine scheduled_of_onSale ?_ target
      simp only [State.quoteChecks] at checks
      (repeat' split at checks) <;> cases checks
      simpa using ‹¬ s.targetOnSale _ = false›
    · cases held

theorem not_holds_of_empty {x : PortSales} (slot : x.slot = none) (mark : x.mark = .none) (q : Quote) :
    ¬ x.holds q := by
  rintro (held | held)
  · rw [slot] at held
    cases held
  · rw [mark] at held
    cases held

/-- A port's slot and mark emptied. -/
theorem State.quotesOk.emptied (h : s.quotesOk) {p : Port} {x : PortSales} (slot : x.slot = none)
    (mark : x.mark = .none) : (Machine.setSales p x s).quotesOk :=
  h.setSales fun q _ held => absurd held (not_holds_of_empty slot mark q)

@[simp] theorem stockTests_salesPorts (s : State) : (stockTests s).sales.ports = s.sales.ports := by
  unfold stockTests
  dsimp only
  (repeat' split) <;> simp

theorem State.quotesOk.stockTests (h : s.quotesOk) : (stockTests s).quotesOk :=
  h.of_same (by simp) fun _ => by simp

theorem State.quotesOk.issueTicket (h : s.quotesOk) (p : Port) (r : FareRequest) (x : Fare) (requoted : Bool) :
    (issueTicket p r x requoted s).1.quotesOk := by
  dsimp only [Machine.issueTicket]
  refine State.quotesOk.stockTests (State.quotesOk.emptied (h.of_same ?_ fun _ => ?_) rfl rfl)
  · cases requoted <;> simp
  · cases requoted <;> simp

theorem State.quotesOk.issue (h : s.quotesOk) (p : Port) (f : IssueBody) : (issue p f s).1.quotesOk := by
  have refused (a : Answer) : (refuseIssue p a s).1.quotesOk :=
    State.quotesOk.emptied (s := countRevoked a (count .refusedIssues s))
      (h.of_same (by simp) fun _ => by simp) rfl rfl
  unfold Machine.issue
  split
  · exact h.of_same rfl fun _ => rfl
  · cases (s.sales.ports.get p).issueCase f.number.toNat with
    | noQuote => exact refused _
    | invalidated => exact refused _
    | held q =>
      cases checks : s.heldChecks q with
      | error a => simpa only [checks] using refused a
      | ok x => simpa only [checks] using h.issueTicket p _ _ _
    | requote q =>
      cases checks : s.requoteChecks q with
      | error a => simpa only [checks] using refused a
      | ok x => simpa only [checks] using h.issueTicket p _ _ _

/-- A record replaced by one with the same slot and mark. -/
theorem State.quotesOk.sameHeld (h : s.quotesOk) {p : Port} {x : PortSales}
    (slot : x.slot = (s.sales.ports.get p).slot) (mark : x.mark = (s.sales.ports.get p).mark) :
    (Machine.setSales p x s).quotesOk := by
  refine h.setSales fun q r held target => quotesOk_iff.mp h r ⟨p, q, ?_, target⟩
  simpa only [PortSales.holds, slot, mark] using held

theorem State.quotesOk.voidSale (h : s.quotesOk) (p : Port) (f : VoidBody) : (voidSale p f s).1.quotesOk := by
  dsimp only [Machine.voidSale]
  (repeat' split)
  · exact h
  · exact h
  · exact h
  · exact State.quotesOk.sameHeld (h.of_same (by simp) fun _ => by simp) rfl rfl

theorem State.quotesOk.quoteExpired (h : s.quotesOk) (p : Port) : (quoteExpired p s).quotesOk := by
  dsimp only [Machine.quoteExpired]
  (repeat' split)
  · exact h
  · rename_i q slot _
    refine h.setSales fun q' r held target => quotesOk_iff.mp h r ⟨p, q', ?_, target⟩
    rcases held with held | held
    · cases held
    · exact .inl (slot.trans (congrArg some (QuoteMark.expired.inj held)))
  · exact h

theorem State.quotesOk.voidWindowExpired (h : s.quotesOk) (p : Port) : (voidWindowExpired p s).quotesOk := by
  dsimp only [Machine.voidWindowExpired]
  (repeat' split)
  · exact h
  · exact h.sameHeld rfl rfl
  · exact h

theorem State.quotesOk.silenceExpired (h : s.quotesOk) : (silenceExpired s).quotesOk := by
  unfold Machine.silenceExpired
  split
  · exact h.of_same rfl fun _ => rfl
  · exact h

theorem State.quotesOk.farePriceWrite (h : s.quotesOk) (f : FarePriceBody) : (farePriceWrite f s).1.quotesOk := by
  dsimp only [Machine.farePriceWrite]
  split
  · exact h
  · exact h.of_same (by rw [faresMessage_sales_eq]) fun _ => by simp [Store.call, Store.table]

theorem State.quotesOk.stockAdd (h : s.quotesOk) (f : StockAddBody) : (stockAdd f s).1.quotesOk := by
  dsimp only [Machine.stockAdd]
  (repeat' split)
  · exact h
  · exact h.of_same (by simp) fun _ => by simp
  · exact h.of_same (by simp) fun _ => by simp

theorem State.quotesOk.batchAck (h : s.quotesOk) (p : Port) (f : BatchIdBody) : (batchAck p f s).1.quotesOk := by
  dsimp only [Machine.batchAck]
  (repeat' split)
  · exact h
  · exact h
  · refine h.of_tables ?_ ?_ ?_
    · rw [uploadDue_sales, freeMessage_sales_eq]
      cases p <;> rfl
    · cases p <;> simp [ifLink]
    · cases p <;> simp [ifLink]

theorem State.quotesOk.salesSuspend (h : s.quotesOk) (p : Port) (f : NoFields) : (salesSuspend p f s).1.quotesOk := by
  cases p with
  | terminal => exact h
  | link => exact h
  | service => exact h.of_same (by simp [Machine.salesSuspend]) fun _ => by simp [Machine.salesSuspend]

theorem State.quotesOk.salesResume (h : s.quotesOk) (p : Port) (f : NoFields) : (salesResume p f s).1.quotesOk := by
  cases p with
  | terminal => exact h
  | link => exact h
  | service => exact h.of_same (by simp [Machine.salesResume]) fun _ => by simp [Machine.salesResume]

theorem State.quotesOk.sampleTaken (h : s.quotesOk) (millivolts : Nat) (l : DataLine) :
    (sampleTaken millivolts l s).quotesOk := by
  have store : (Machine.sampleTaken millivolts l s).store = s.store :=
    (sampleTaken_changesOnly millivolts l s).2 .store (by simp)
  exact h.of_same (by rw [sampleTaken_sales_eq]) fun _ => by rw [store]

theorem State.quotesOk.stagingExpired (h : s.quotesOk) : (stagingExpired s).quotesOk := by
  unfold Machine.stagingExpired
  (repeat' split)
  · exact h
  · exact h.of_same rfl fun _ => rfl
  · exact h

/-! ## Port resets, elapsed time, starts -/

theorem State.quotesOk.resetPort (h : s.quotesOk) (p : Port) : (resetPort p s).quotesOk := by
  have emptied : (resetSales p (setPort p (s.ports.get p).cleared s)).quotesOk :=
    State.quotesOk.emptied (h.of_same rfl fun _ => rfl) rfl rfl
  dsimp only [Machine.resetPort]
  refine emptied.of_tables (by simp) ?_ ?_
  · unfold releaseStaging
    (repeat' split) <;> simp
  · unfold releaseStaging
    (repeat' split) <;> simp

theorem State.quotesOk.portReset (h : s.quotesOk) (p : Port) (f : PortResetBody) : (portReset p f s).1.quotesOk := by
  unfold Machine.portReset
  (repeat' split)
  · exact h
  · exact h.resetPort .terminal
  · exact h.resetPort .link
  · exact h
  · exact h

theorem State.quotesOk.resetLineActive (h : s.quotesOk) (p : Port) : (resetLineActive p s).quotesOk := by
  unfold Machine.resetLineActive
  split
  · exact (h.resetPort p).of_same rfl fun _ => rfl
  · exact h

theorem targeted_elapse {r : CallRef} (h : (elapse s).targeted r) : s.targeted r := by
  obtain ⟨p, q, held, target⟩ := h
  have record : (elapse s).sales.ports.get p = (s.sales.ports.get p).elapse := by
    simp [elapse, Sales.elapse]
  rw [record] at held
  rcases held with held | held
  · obtain ⟨o, slot, rfl⟩ := Option.map_eq_some_iff.mp held
    exact ⟨p, o, .inl slot, target⟩
  · exact ⟨p, q, .inr held, target⟩

theorem State.quotesOk.secondElapses (h : s.quotesOk) (tables : s.tablesOk) : (secondElapses s).quotesOk := by
  have both : (Machine.secondElapses s).quotesOk ∧ (Machine.secondElapses s).tablesOk := by
    refine secondElapses_keeps (P := fun t => t.quotesOk ∧ t.tablesOk) ?_ ?_ ?_ ?_ ?_
    · exact fun down => ⟨h.of_same rfl fun _ => rfl, tables.dipSecond down⟩
    · exact fun _ => ⟨h.of_targeted fun r target => ⟨targeted_elapse target, id⟩, tables.elapse⟩
    · exact fun t _ below ⟨h, tables⟩ => ⟨h.of_same rfl fun _ => rfl, tables.nextSecond below⟩
    · exact fun t ⟨h, tables⟩ => ⟨h.minuteTick (tables.unique .today), tables.minuteTick⟩
    · exact fun t _ valid ⟨h, tables⟩ =>
        ⟨State.quotesOk.dayBoundary (s := setClock { t.clock with day := t.clock.day + 1, second := 0 } t)
          (h.of_same rfl fun _ => rfl) _, tables.nextDay valid⟩
  exact both.1

theorem quotesOk_reset : State.reset.quotesOk :=
  fun p q _ held => absurd held (not_holds_of_empty (by cases p <;> rfl) (by cases p <;> rfl) q)

/-- A lost core domain holds no quote and no expired record. -/
theorem not_targeted_coreLost (r : CallRef) : ¬ (coreLost s).targeted r := by
  rintro ⟨p, q, held, -⟩
  exact not_holds_of_empty (by cases p <;> rfl) (by cases p <;> rfl) q held

theorem quotesOk_of_not_targeted (h : ∀ r, ¬ s.targeted r) : s.quotesOk :=
  quotesOk_iff.mpr fun r target => absurd target (h r)

theorem quotesOk_dip (h : s.quotesOk) : (dip s).quotesOk := by
  unfold Machine.dip
  split
  · exact quotesOk_of_not_targeted not_targeted_coreLost
  · exact h

/-- No quote is held from a warm start until the first QUOTE. -/
theorem quotesOk_warmStarted (l : DataLine) (s : State) : (warmStarted l s).quotesOk := by
  refine quotesOk_of_not_targeted (warmStarted_keeps (P := fun t => ∀ r, ¬ t.targeted r) ?_ ?_ ?_ ?_)
  · intro r target
    exact not_targeted_coreLost r
      ((targeted_congr (s := coreLost { s with core := .up }) (by simp [warmBegun, rebuildReasons])).mp target)
  · intro t _ none r target
    rcases targeted_dayBoundary target with ⟨_, _, _, _, before⟩ | ⟨_, _, before⟩ <;> exact none _ before
  · exact fun t none r target => none r (targeted_of_quotesWithdrawn (quotesWithdrawn_minuteTick t) target).1
  · exact fun t none r target => none r ((targeted_congr (by simp)).mp target)

/-! ## Every step -/

/-- A command's own part keeps P from a state where T holds beside it. -/
def Act.KeepsBeside (T P : State → Prop) : Act → Prop
  | .request _ _ _ owner => ∀ s : State, s.core = .up → T s → P s → P (owner s).1
  | .event f => ∀ s : State, s.core = .up → T s → P s → P (f s)
  | .whole f => ∀ s : State, T s → P s → P (f s)

theorem Act.Keeps.beside {P : State → Prop} (T : State → Prop) {a : Act} (h : a.Keeps P) : a.KeepsBeside T P := by
  cases a with
  | request _ _ _ owner => exact fun s up _ held => h s up held
  | event f => exact fun s up _ held => h s up held
  | whole f => exact fun s _ held => h s held

theorem Act.KeepsBeside.both {T P : State → Prop} {a : Act} (h : a.KeepsBeside T P) (g : a.Keeps T) :
    a.Keeps (fun s => T s ∧ P s) := by
  cases a with
  | request _ _ _ owner => exact fun s up held => ⟨g s up held.1, h s up held.1 held.2⟩
  | event f => exact fun s up held => ⟨g s up held.1, h s up held.1 held.2⟩
  | whole f => exact fun s held => ⟨g s held.1, h s held.1 held.2⟩

theorem ambient_quotes : Ambient State.quotesOk where
  queue _ _ h := h.of_same rfl fun _ => rfl
  port _ _ _ _ _ h := h.of_same rfl fun _ => rfl
  silence _ _ _ h := h.of_same rfl fun _ => rfl
  counted _ _ _ h := h.of_same rfl fun _ => rfl
  drawn _ _ h := h.of_same rfl fun _ => rfl
  cycled _ _ h := h.of_same rfl fun _ => rfl
  frame _ _ _ h := h.of_same (by simp) fun _ => by simp

theorem Ambient.and {P T : State → Prop} (a : Ambient P) (b : Ambient T) : Ambient (fun s => P s ∧ T s) where
  queue _ _ h := ⟨a.queue _ _ h.1, b.queue _ _ h.2⟩
  port _ _ _ x y h := ⟨a.port _ _ _ x y h.1, b.port _ _ _ x y h.2⟩
  silence _ _ _ h := ⟨a.silence _ _ _ h.1, b.silence _ _ _ h.2⟩
  counted _ _ _ h := ⟨a.counted _ _ _ h.1, b.counted _ _ _ h.2⟩
  drawn _ _ h := ⟨a.drawn _ _ h.1, b.drawn _ _ h.2⟩
  cycled _ _ h := ⟨a.cycled _ _ h.1, b.cycled _ _ h.2⟩
  frame _ _ due h := ⟨a.frame _ _ due h.1, b.frame _ _ due h.2⟩

/-- Each command's own part keeps every target SCHEDULED, where the tables are in order. -/
theorem keeps_quotes (i : Instr) : (actOf i).KeepsBeside State.tablesOk State.quotesOk := by
  by_cases touched : ∀ b ∈ [Block.store, Block.sales], b ∉ blocksOf i
  · refine Act.Keeps.beside _ (keeps_of_untouched [.store, .sales] (fun s t same h => ?_) touched)
    have store : t.store = s.store := same .store (by simp)
    have sales : t.sales = s.sales := same .sales (by simp)
    exact h.of_same (by rw [sales]) fun _ => by rw [store]
  · cases i <;> simp [blocksOf] at touched
    case timeSet p b =>
      cases b with
      | fields f => exact fun s _ tables h => h.timeSet tables f
      | raw bytes => exact fun s _ _ h => h
    case ttBegin p b => exact (keeps_onFields (fun f s _ h => h.ttBegin p f) b).beside _
    case ttCalls p b => exact (keeps_onFields (fun f s _ h => h.ttCalls p f) b).beside _
    case ttEnd p b => exact (keeps_onFields (fun f s _ h => h.ttEnd p f) b).beside _
    case svcUpdateDelay p b => exact (keeps_onFields (fun f s _ h => h.svcUpdate _ _ fun _ _ =>
      h.onCall (fun _ => rfl) fun _ state => state) b).beside _
    case svcUpdateClearDelay p f =>
      exact fun s _ _ h => h.svcUpdate _ _ fun _ _ => h.onCall (fun _ => rfl) fun _ state => state
    case svcUpdateCancel p f => exact fun s _ _ h => h.svcCancel f
    case svcUpdateReinstate p f => exact fun s _ _ h => h.svcReinstate f
    case quote p b => exact fun s _ _ h => h.quote p b
    case issue p b => exact (keeps_onFields (fun f s _ h => h.issue p f) b).beside _
    case void p b => exact (keeps_onFields (fun f s _ h => h.voidSale p f) b).beside _
    case farePriceWrite p b => exact (keeps_onFields (fun f s _ h => h.farePriceWrite f) b).beside _
    case stockAdd p b => exact (keeps_onFields (fun f s _ h => h.stockAdd f) b).beside _
    case batchAck p b => exact (keeps_onFields (fun f s _ h => h.batchAck p f) b).beside _
    case salesSuspend p b => exact (keeps_onFields (fun f s _ h => h.salesSuspend p f) b).beside _
    case salesResume p b => exact (keeps_onFields (fun f s _ h => h.salesResume p f) b).beside _
    case portReset p b => exact (keeps_onFields (fun f s _ h => h.portReset p f) b).beside _
    case unknownRequest p code body => exact (keeps_unknownFrame ambient_quotes p code body).beside _
    case portResetLineActive p => exact fun s _ _ h => h.resetLineActive p
    case clockSecond => exact fun s tables h => h.secondElapses tables
    case stagingIdleTimeout => exact fun s _ _ h => h.stagingExpired
    case passageClose => exact fun s _ _ h => h.passageClosed
    case quoteExpiry p => exact fun s _ _ h => h.quoteExpired p
    case voidWindowExpiry p => exact fun s _ _ h => h.voidWindowExpired p
    case terminalSilenceExpiry => exact fun s _ _ h => h.silenceExpired
    case sample mv l => exact fun s _ _ h => h.sampleTaken mv l
    case coldStart => exact fun s _ _ => quotesOk_reset.of_same rfl fun _ => rfl
    case warmStart l => exact fun s _ _ => quotesOk_warmStarted l s
    case coreSupplyDip => exact fun s _ h => quotesOk_dip h

/-- Settles O56: the tables stay in order (O55), and each command's own part keeps every target SCHEDULED
(`keeps_quotes`), by withdrawing the quotes on each call that it takes out of that state. -/
theorem stepKeepsQuotesOk : Obligations.StepKeepsQuotesOk := by
  unfold Obligations.StepKeepsQuotesOk
  exact fun s t h tables e =>
    (step_keeps (ambient_tables.and ambient_quotes) (fun i => (keeps_quotes i).both (keeps_tables i)) ⟨tables, h⟩ e).2

end Sys2Proof.Machine
end

section
/-! PROOFS. The serial stock, the fare tables and the revocation list in order (O57). -/

namespace Sys2Proof.Machine

variable {s t : State}

/-! ## The fare tables (R49 to R55) -/

/-- One entry of a table replaced: each entry is the new one or one that stood there. -/
theorem eq_or_mem_of_mem_set {α : Type} {n i : Nat} {v : Vector α n} {a x : α}
    (h : x ∈ (v.setIfInBounds i a).toList) : x = a ∨ x ∈ v.toList := by
  rw [Vector.toList_setIfInBounds] at h
  exact (List.mem_or_eq_of_mem_set h).symm

theorem FareTables.ok.setRange (h : s.fares.ok) (i : Nat) {e : Option RangeEntry}
    (fits : ∀ x, e = some x → x.first ≤ x.last ∧ x.last ≤ 4095 ∧ 1 ≤ x.distance ∧ x.distance ≤ 15) :
    (setRange i e s).fares.ok := by
  obtain ⟨ranges, prices, percents, step, cap, concessions, peaks⟩ := h
  refine ⟨fun x hx => ?_, prices, percents, step, cap, concessions, peaks⟩
  rcases eq_or_mem_of_mem_set hx with new | held
  · exact fits x new.symm
  · exact ranges x held

theorem faresOk_fareRangeWrite (h : s.fares.ok) (f : FareRangeBody) : (fareRangeWrite f s).1.fares.ok := by
  dsimp only [fareRangeWrite]
  (repeat' split)
  · exact h
  · exact h
  · exact h.setRange _ fun x e => by cases e
  · exact h
  · exact h
  · rename_i positive notEmpty
    refine h.setRange _ fun x e => ?_
    obtain rfl := Option.some.inj e
    exact ⟨Nat.not_lt.mp notEmpty, Nat.min_le_right _ _, Nat.le_min.mpr ⟨Nat.one_le_iff_ne_zero.mpr positive, by decide⟩,
      Nat.min_le_right _ _⟩

theorem price_le_of_mem_storePrices {ps : List (BitVec 24)} {row : Vector Nat 15} {i x : Nat}
    (h : ∀ y ∈ row.toList, y ≤ 50000) (hx : x ∈ (storePrices row i ps).toList) : x ≤ 50000 := by
  induction ps generalizing row i with
  | nil => exact h x hx
  | cons p ps ih =>
    refine ih (fun y hy => ?_) hx
    rcases eq_or_mem_of_mem_set hy with rfl | held
    · exact Nat.min_le_right _ _
    · exact h y held

theorem faresOk_farePriceWrite (h : s.fares.ok) (f : FarePriceBody) : (farePriceWrite f s).1.fares.ok := by
  dsimp only [farePriceWrite]
  split
  · exact h
  · obtain ⟨ranges, prices, percents, step, cap, concessions, peaks⟩ := h
    simp only [faresMessage_fares]
    exact ⟨ranges, fun x hx => price_le_of_mem_storePrices prices hx, percents, step, cap, concessions, peaks⟩

theorem clamp_bounds {low high : Nat} (h : low ≤ high) (n : Nat) : low ≤ clamp low high n ∧ clamp low high n ≤ high := by
  unfold clamp
  (repeat' split) <;> omega

theorem stepOf_mem (n : Nat) : stepOf n = 1 ∨ stepOf n = 5 ∨ stepOf n = 10 ∨ stepOf n = 50 := by
  unfold stepOf
  split <;> omega

theorem faresOk_fareParamWrite (h : s.fares.ok) (f : FareParamBody) : (fareParamWrite f s).1.fares.ok := by
  obtain ⟨ranges, prices, -, -, -, concessions, peaks⟩ := h
  obtain ⟨low, high⟩ := clamp_bounds (low := 100) (high := 250) (by decide) f.returnPercent.toNat
  obtain ⟨low', high'⟩ := clamp_bounds (low := 30) (high := 100) (by decide) f.offPeakPercent.toNat
  obtain ⟨-, high''⟩ := clamp_bounds (low := 0) (high := 100) (by decide) f.childPercent.toNat
  exact ⟨ranges, prices, ⟨low, high, low', high', high''⟩, stepOf_mem _,
    clamp_bounds (low := 2) (high := 10) (by decide) _, concessions, peaks⟩

theorem faresOk_fareConcessionWrite (h : s.fares.ok) (f : FareConcessionBody) :
    (fareConcessionWrite f s).1.fares.ok := by
  dsimp only [fareConcessionWrite]
  (repeat' split)
  · exact h
  · exact h
  · obtain ⟨ranges, prices, percents, step, cap, concessions, peaks⟩ := h
    refine ⟨ranges, prices, percents, step, cap, fun c hc => ?_, peaks⟩
    rcases eq_or_mem_of_mem_set hc with rfl | held
    · exact Nat.min_le_right _ _
    · exact concessions c held

theorem faresOk_farePeakWrite (h : s.fares.ok) (f : FarePeakBody) : (farePeakWrite f s).1.fares.ok := by
  dsimp only [farePeakWrite]
  split
  · exact h
  · rename_i inside
    obtain ⟨ranges, prices, percents, step, cap, concessions, peaks⟩ := h
    refine ⟨ranges, prices, percents, step, cap, concessions, fun w hw => ?_⟩
    rcases eq_or_mem_of_mem_set hw with rfl | held
    · dsimp only
      omega
    · exact peaks w held

theorem faresOk_reset : State.reset.fares.ok where
  ranges e h := by simp [State.reset] at h
  prices := by decide
  percents := by decide
  step := by decide
  cap := by decide
  concessions := by decide
  peaks := by decide

/-- Each command's own part keeps the fare tables in their ranges. -/
theorem keeps_fares (i : Instr) : (actOf i).Keeps (fun s => s.fares.ok) := by
  by_cases touched : ∀ b ∈ [Block.fares], b ∉ blocksOf i
  · refine keeps_of_untouched [.fares] (fun s t same h => ?_) touched
    have fares : t.fares = s.fares := same .fares (by simp)
    rwa [fares]
  · cases i <;> simp [blocksOf] at touched
    case fareRangeWrite p b => exact keeps_onFields (fun f _ _ h => faresOk_fareRangeWrite h f) b
    case farePriceWrite p b => exact keeps_onFields (fun f _ _ h => faresOk_farePriceWrite h f) b
    case fareParamWrite p b => exact keeps_onFields (fun f _ _ h => faresOk_fareParamWrite h f) b
    case fareConcessionWrite p b => exact keeps_onFields (fun f _ _ h => faresOk_fareConcessionWrite h f) b
    case farePeakWrite p b => exact keeps_onFields (fun f _ _ h => faresOk_farePeakWrite h f) b
    case coldStart => exact fun _ _ => faresOk_reset

theorem ambient_fares : Ambient (fun s => s.fares.ok) where
  queue _ _ h := h
  port _ _ _ _ _ h := h
  silence _ _ _ h := h
  counted _ _ _ h := h
  drawn _ _ h := h
  cycled _ _ h := h
  frame _ _ _ h := by simpa using h

/-! ## The revocation list (R93, R95) -/

theorem revokedOk_rvlWrite (h : s.revokedOk) (f : RvlWriteBody) : (rvlWrite f s).1.revokedOk := by
  dsimp only [rvlWrite]
  (repeat' split)
  · exact h
  · exact h
  · exact fun e he => h e ((eq_or_mem_of_mem_set he).resolve_left (by simp))
  · intro e he
    rcases eq_or_mem_of_mem_set he with new | held
    · obtain rfl := Option.some.inj new
      exact ⟨f.card.isLt, Nat.min_le_right _ _⟩
    · exact h e held

theorem revokedOk_of_empty (h : s.revoked = Vector.replicate 64 none) : s.revokedOk := by
  intro e he
  rw [h, Vector.toList_replicate] at he
  exact absurd (List.eq_of_mem_replicate he) (by simp)

/-- Each command's own part keeps the revocation entries in their ranges. -/
theorem keeps_revoked (i : Instr) : (actOf i).Keeps State.revokedOk := by
  by_cases touched : ∀ b ∈ [Block.revoked], b ∉ blocksOf i
  · refine keeps_of_untouched [.revoked] (fun s t same h => ?_) touched
    have revoked : t.revoked = s.revoked := same .revoked (by simp)
    rwa [State.revokedOk, revoked]
  · cases i <;> simp [blocksOf] at touched
    case rvlWrite p b => exact keeps_onFields (fun f _ _ h => revokedOk_rvlWrite h f) b
    case rvlClearAll p b => exact keeps_onFields (fun f _ _ _ => revokedOk_of_empty rfl) b
    case coldStart => exact fun _ _ => revokedOk_of_empty rfl

theorem ambient_revoked : Ambient State.revokedOk where
  queue _ _ h := h
  port _ _ _ _ _ h := h
  silence _ _ _ h := h
  counted _ _ _ h := h
  drawn _ _ h := h
  cycled _ _ h := h
  frame _ _ _ h := by simpa [State.revokedOk] using h

/-! ## The serial stock (R88 to R92) -/

/-- Two sales controllers with the same stock. -/
structure Sales.SameStock (x y : Sales) : Prop where
  blocks : y.blocks = x.blocks
  horizon : y.horizon = x.horizon
  lowMark : y.lowMark = x.lowMark

theorem Sales.stockOk.of_same {x y : Sales} (h : x.stockOk) (same : x.SameStock y) : y.stockOk := by
  obtain ⟨blocks, horizon, lowMark⟩ := same
  obtain ⟨count, left, long, rising, bound, low⟩ := h
  constructor <;> simpa only [Sales.remaining, blocks, horizon, lowMark]

theorem Sales.SameStock.trans {x y z : Sales} (a : x.SameStock y) (b : y.SameStock z) : x.SameStock z :=
  ⟨b.blocks.trans a.blocks, b.horizon.trans a.horizon, b.lowMark.trans a.lowMark⟩

/-- A change of the reasons and the per-port records alone leaves the stock as it was. -/
theorem sameStock_of_eq {x y : Sales} {reasons : List Reason} {ports : PerPort PortSales}
    (h : y = { x with reasons := reasons, ports := ports }) : x.SameStock y := by
  subst h
  exact ⟨rfl, rfl, rfl⟩

theorem sameStock_append (k : EntryKind) (s : State) : s.sales.SameStock (append k s).sales :=
  sameStock_of_eq (append_sales_eq k s)

theorem stockOk_append (k : EntryKind) (s : State) (h : s.sales.stockOk) : (append k s).sales.stockOk :=
  h.of_same (sameStock_append k s)

theorem minuteTick_sales_eq (s : State) : (minuteTick s).sales =
    { s.sales with reasons := (minuteTick s).sales.reasons, ports := (minuteTick s).sales.ports } := by
  have lapse (c : Call) (t : State) : (lapseCall c t).sales =
      { t.sales with reasons := (lapseCall c t).sales.reasons, ports := (lapseCall c t).sales.ports } := by
    simp only [lapseCall, count_sales]
    rw [append_sales_eq]
    rfl
  have run (due : List Call) (t : State) : (due.foldl (fun t c => lapseCall c t) t).sales =
      { t.sales with
        reasons := (due.foldl (fun t c => lapseCall c t) t).sales.reasons
        ports := (due.foldl (fun t c => lapseCall c t) t).sales.ports } := by
    induction due generalizing t with
    | nil => rfl
    | cons c due ih =>
      rw [List.foldl_cons, ih, lapse]
  have kept : (minuteTick s).sales = (lapseCalls s).sales := by simp [minuteTick, flagCalls]
  rw [kept]
  exact run _ s

/-- The stock in order but for the low mark, which the stock test after an issue brings in order. -/
structure Sales.BlocksOk (x : Sales) : Prop where
  count : x.blocks.length ≤ 4
  left : ∀ b ∈ x.blocks, 1 ≤ b.first ∧ b.first ≤ b.next ∧ b.next ≤ b.last ∧ b.last ≤ x.horizon
  long : ∀ b ∈ x.blocks, b.last ≤ b.first + 99999
  rising : x.blocks.Pairwise (fun a b => a.last < b.first)
  horizon : x.horizon ≤ 99999999

theorem stockOk_iff {x : Sales} : x.stockOk ↔ x.BlocksOk ∧ (x.remaining < 200 → x.lowMark = true) :=
  ⟨fun ⟨a, b, c, d, e, low⟩ => ⟨⟨a, b, c, d, e⟩, low⟩, fun ⟨⟨a, b, c, d, e⟩, low⟩ => ⟨a, b, c, d, e, low⟩⟩

theorem Sales.BlocksOk.congr {x y : Sales} (h : x.BlocksOk) (blocks : y.blocks = x.blocks)
    (horizon : y.horizon = x.horizon) : y.BlocksOk := by
  obtain ⟨count, left, long, rising, bound⟩ := h
  constructor <;> simpa only [blocks, horizon]

theorem stockOk_stockTests (h : s.sales.BlocksOk) : (stockTests s).sales.stockOk := by
  have emptied : (stockEmptyTest s).sales.BlocksOk ∧ (stockEmptyTest s).sales.lowMark = s.sales.lowMark := by
    unfold stockEmptyTest
    split
    · exact ⟨h.congr (by simp) (by simp), by simp⟩
    · exact ⟨h, rfl⟩
  rw [stockTests_eq, stockOk_iff]
  unfold stockLowTest
  split
  · exact ⟨emptied.1.congr rfl rfl, fun _ => rfl⟩
  · rename_i noLow
    exact ⟨emptied.1, fun low => by simpa [low] using noLow⟩

/-- A serial taken from the oldest block leaves the blocks in order (R91). -/
theorem blocksOk_takeSerial {x : Sales} (h : x.BlocksOk) : Sales.BlocksOk { x with blocks := takeSerial x.blocks } := by
  obtain ⟨count, left, long, rising, bound⟩ := h
  cases blocks : x.blocks with
  | nil => simp [takeSerial]; constructor <;> simp [bound]
  | cons b bs =>
    rw [blocks] at count left long rising
    obtain ⟨first, rest⟩ := List.pairwise_cons.mp rising
    have taken : takeSerial (b :: bs) = if b.next = b.last then bs else { b with next := b.next + 1 } :: bs := rfl
    rw [taken]
    split
    · exact ⟨Nat.le_trans (Nat.le_succ _) count, fun c hc => left c (List.mem_cons_of_mem _ hc),
        fun c hc => long c (List.mem_cons_of_mem _ hc), rest, bound⟩
    · rename_i more
      refine ⟨count, fun c hc => ?_, fun c hc => ?_, List.pairwise_cons.mpr ⟨first, rest⟩, bound⟩
      · rcases List.mem_cons.mp hc with rfl | hc
        · obtain ⟨low, next, last, top⟩ := left b List.mem_cons_self
          exact ⟨low, Nat.le_succ_of_le next, Nat.lt_of_le_of_ne last more, top⟩
        · exact left c (List.mem_cons_of_mem _ hc)
      · rcases List.mem_cons.mp hc with rfl | hc
        · exact long b List.mem_cons_self
        · exact long c (List.mem_cons_of_mem _ hc)

theorem stockOk_issueTicket (h : s.sales.stockOk) (p : Port) (r : FareRequest) (x : Fare) (requoted : Bool) :
    (issueTicket p r x requoted s).1.sales.stockOk := by
  have taken := blocksOk_takeSerial (stockOk_iff.mp h).1
  dsimp only [issueTicket]
  refine stockOk_stockTests ?_
  have sold := sameStock_append (.sale (nextSerial s.sales.blocks) p r x.band x.total)
    { s with sales := { s.sales with blocks := takeSerial s.sales.blocks } }
  refine taken.congr ?_ ?_
  · cases requoted <;> simpa using sold.blocks
  · cases requoted <;> simpa using sold.horizon

theorem stockOk_issue (h : s.sales.stockOk) (p : Port) (f : IssueBody) : (issue p f s).1.sales.stockOk := by
  have refused (a : Answer) : (refuseIssue p a s).1.sales.stockOk :=
    h.of_same ⟨by simp [refuseIssue], by simp [refuseIssue], by simp [refuseIssue]⟩
  unfold issue
  split
  · exact h
  · cases (s.sales.ports.get p).issueCase f.number.toNat with
    | noQuote => exact refused _
    | invalidated => exact refused _
    | held q =>
      cases checks : s.heldChecks q with
      | error a => simpa only [checks] using refused a
      | ok x => simpa only [checks] using stockOk_issueTicket h p _ _ _
    | requote q =>
      cases checks : s.requoteChecks q with
      | error a => simpa only [checks] using refused a
      | ok x => simpa only [checks] using stockOk_issueTicket h p _ _ _

theorem stockOk_stockAdd (h : s.sales.stockOk) (f : StockAddBody) : (stockAdd f s).1.sales.stockOk := by
  dsimp only [stockAdd]
  cases checks : s.stockChecks f with
  | error r => exact h
  | ok b =>
    obtain ⟨above, low, le, long, high, next, room⟩ := stockChecks_ok checks
    obtain ⟨count, left, longs, rising, bound, lowMark⟩ := h
    have added : Sales.BlocksOk { s.sales with blocks := s.sales.blocks ++ [b], horizon := b.last } := by
      refine ⟨?_, fun c hc => ?_, fun c hc => ?_, ?_, high⟩
      · simp only [List.length_append, List.length_singleton]
        omega
      · rcases List.mem_append.mp hc with hc | hc
        · obtain ⟨one, first, last, top⟩ := left c hc
          exact ⟨one, first, last, by dsimp only; omega⟩
        · obtain rfl := List.mem_singleton.mp hc
          exact ⟨low, Nat.le_of_eq next.symm, Nat.le_trans (Nat.le_of_eq next) le, Nat.le_refl _⟩
      · rcases List.mem_append.mp hc with hc | hc
        · exact longs c hc
        · obtain rfl := List.mem_singleton.mp hc
          exact long
      · refine List.pairwise_append.mpr ⟨rising, List.pairwise_singleton _ _, fun c hc d hd => ?_⟩
        obtain rfl := List.mem_singleton.mp hd
        exact Nat.lt_of_le_of_lt (left c hc).2.2.2 above
    dsimp only
    split
    · rename_i stocked
      refine stockOk_iff.mpr ⟨added.congr (by simp) (by simp), fun few => ?_⟩
      exact absurd stocked (Nat.not_le.mpr few)
    · refine stockOk_iff.mpr ⟨added.congr (by simp) (by simp), fun few => ?_⟩
      have before : s.sales.remaining < 200 := by
        simp only [removeReason_sales, Sales.remaining, List.map_append, List.sum_append] at few
        exact Nat.lt_of_le_of_lt (Nat.le_add_right _ _) few
      simpa using lowMark before

theorem stockOk_reset : State.reset.sales.stockOk := by
  constructor <;> decide

theorem stockOk_quote (h : s.sales.stockOk) (p : Port) (b : Body QuoteBody) : (quote p b s).1.sales.stockOk := by
  dsimp only [quote]
  split
  · exact h.of_same ⟨by simp, by simp, by simp⟩
  · exact h.of_same ⟨rfl, rfl, rfl⟩

theorem stockOk_voidSale (h : s.sales.stockOk) (p : Port) (f : VoidBody) : (voidSale p f s).1.sales.stockOk := by
  dsimp only [voidSale]
  (repeat' split)
  · exact h
  · exact h
  · exact h
  · exact (stockOk_append _ s h).of_same ⟨rfl, rfl, rfl⟩

theorem stockOk_resetPort (h : s.sales.stockOk) (p : Port) : (resetPort p s).sales.stockOk := by
  refine h.of_same ⟨?_, ?_, ?_⟩ <;> simp [resetPort, resetSales]

theorem stockOk_portReset (h : s.sales.stockOk) (p : Port) (f : PortResetBody) :
    (portReset p f s).1.sales.stockOk := by
  unfold portReset
  (repeat' split)
  · exact h
  · exact stockOk_resetPort h .terminal
  · exact stockOk_resetPort h .link
  · exact h
  · exact h

theorem stockOk_resetLineActive (h : s.sales.stockOk) (p : Port) : (resetLineActive p s).sales.stockOk := by
  unfold resetLineActive
  split
  · exact stockOk_resetPort h p
  · exact h

theorem stockOk_minuteTick (h : s.sales.stockOk) : (minuteTick s).sales.stockOk :=
  h.of_same (sameStock_of_eq (minuteTick_sales_eq s))

theorem stockOk_dayBoundary (k : DayKind) (s : State) (h : s.sales.stockOk) : (dayBoundary k s).sales.stockOk :=
  h.of_same (sameStock_of_eq (reasons := s.sales.reasons) (dayBoundary_sales_eq k s))

theorem stockOk_timeSet (h : s.sales.stockOk) (f : TimeSetBody) : (timeSet f s).1.sales.stockOk := by
  dsimp only [timeSet]
  (repeat' split)
  · exact h
  · exact h
  · exact stockOk_minuteTick (h.of_same ⟨by simp, by simp, by simp⟩)
  · exact h
  · dsimp only [timeWithin]
    split
    · exact stockOk_minuteTick h
    · exact h
  · exact stockOk_minuteTick (stockOk_dayBoundary _ _ h)

theorem stockOk_secondElapses (h : s.sales.stockOk) : (secondElapses s).sales.stockOk :=
  secondElapses_keeps (P := fun t => t.sales.stockOk) (fun _ => h) (fun _ => h.of_same ⟨rfl, rfl, rfl⟩)
    (fun _ _ _ h => h) (fun _ h => stockOk_minuteTick h) (fun _ _ _ h => stockOk_dayBoundary _ _ h)

theorem stockOk_warmStarted (h : s.sales.stockOk) (l : DataLine) : (warmStarted l s).sales.stockOk := by
  have lost : (coreLost { s with core := .up }).sales.stockOk := h.of_same ⟨rfl, rfl, rfl⟩
  have begun : (warmBegun s).sales.stockOk :=
    (lost.of_same (sameStock_append (.start .warm) _)).of_same
      ⟨by simp [warmBegun, rebuildReasons], by simp [warmBegun, rebuildReasons],
        by simp [warmBegun, rebuildReasons]⟩
  exact warmStarted_keeps (P := fun t => t.sales.stockOk) begun (fun _ _ h => stockOk_dayBoundary _ _ h)
    (fun _ h => stockOk_minuteTick h) (fun _ h => by simpa using h)

theorem stockOk_ttEnd (h : s.sales.stockOk) (p : Port) (f : NoFields) : (ttEnd p f s).1.sales.stockOk := by
  have placed (g : Staging) (name : TableName) (t : State) (ht : t.sales.stockOk) :
      (placeStaging g name t).sales.stockOk := by
    dsimp only [placeStaging]
    rw [setClock_sales]
    exact stockOk_append _ _ (ht.of_same ⟨rfl, rfl, rfl⟩)
  dsimp only [ttEnd, onStaging]
  (repeat' split) <;> first | exact h | exact placed _ _ _ h

theorem stockOk_svcCancel (h : s.sales.stockOk) (f : SvcCallBody) : (svcCancel f s).1.sales.stockOk := by
  dsimp only [svcCancel, svcUpdate]
  (repeat' split) <;> first | exact h | exact h.of_same ⟨rfl, rfl, rfl⟩

theorem stockOk_farePriceWrite (h : s.sales.stockOk) (f : FarePriceBody) :
    (farePriceWrite f s).1.sales.stockOk := by
  dsimp only [farePriceWrite]
  split
  · exact h
  · exact h.of_same (sameStock_of_eq (ports := s.sales.ports) (faresMessage_sales_eq _ _ _))

theorem stockOk_batchAck (h : s.sales.stockOk) (p : Port) (f : BatchIdBody) : (batchAck p f s).1.sales.stockOk := by
  dsimp only [batchAck]
  (repeat' split)
  · exact h
  · exact h
  · rw [uploadDue_sales]
    exact Sales.stockOk.of_same (by cases p <;> exact h)
      (sameStock_of_eq (ports := Sales.ports _) (freeMessage_sales_eq _ _))

theorem stockOk_salesSuspend (h : s.sales.stockOk) (p : Port) (f : NoFields) :
    (salesSuspend p f s).1.sales.stockOk := by
  cases p with
  | terminal => exact h
  | link => exact h
  | service => exact h.of_same ⟨by simp [salesSuspend], by simp [salesSuspend], by simp [salesSuspend]⟩

theorem stockOk_salesResume (h : s.sales.stockOk) (p : Port) (f : NoFields) :
    (salesResume p f s).1.sales.stockOk := by
  cases p with
  | terminal => exact h
  | link => exact h
  | service => exact h.of_same ⟨by simp [salesResume], by simp [salesResume], by simp [salesResume]⟩

theorem stockOk_passageClosed (h : s.sales.stockOk) : (passageClosed s).sales.stockOk := by
  dsimp only [passageClosed, closePassage]
  (repeat' split)
  · exact h
  · exact h
  · exact h.of_same ⟨rfl, rfl, rfl⟩
  · exact stockOk_append _ _ h
  · exact h

theorem stockOk_quoteExpired (h : s.sales.stockOk) (p : Port) : (quoteExpired p s).sales.stockOk := by
  dsimp only [quoteExpired]
  (repeat' split) <;> first | exact h | exact h.of_same ⟨rfl, rfl, rfl⟩

theorem stockOk_voidWindowExpired (h : s.sales.stockOk) (p : Port) : (voidWindowExpired p s).sales.stockOk := by
  dsimp only [voidWindowExpired]
  (repeat' split) <;> first | exact h | exact h.of_same ⟨rfl, rfl, rfl⟩

theorem stockOk_silenceExpired (h : s.sales.stockOk) : (silenceExpired s).sales.stockOk := by
  unfold silenceExpired
  split
  · exact h.of_same ⟨rfl, rfl, rfl⟩
  · exact h

theorem stockOk_dip (h : s.sales.stockOk) : (dip s).sales.stockOk := by
  unfold dip
  split
  · exact h.of_same ⟨rfl, rfl, rfl⟩
  · exact h

theorem ambient_stock : Ambient (fun s => s.sales.stockOk) where
  queue _ _ h := h
  port _ _ _ _ _ h := h
  silence _ _ _ h := h.of_same ⟨rfl, rfl, rfl⟩
  counted _ _ _ h := h
  drawn _ _ h := h
  cycled _ _ h := h
  frame _ _ _ h := by simpa using h

/-- Each command's own part keeps the serial stock in order. -/
theorem keeps_stock (i : Instr) : (actOf i).Keeps (fun s => s.sales.stockOk) := by
  by_cases touched : ∀ b ∈ [Block.sales], b ∉ blocksOf i
  · refine keeps_of_untouched [.sales] (fun s t same h => ?_) touched
    have sales : t.sales = s.sales := same .sales (by simp)
    rwa [sales]
  · cases i <;> simp [blocksOf] at touched
    case timeSet p b => exact keeps_onFields (fun f _ _ h => stockOk_timeSet h f) b
    case ttEnd p b => exact keeps_onFields (fun f _ _ h => stockOk_ttEnd h p f) b
    case svcUpdateCancel p f => exact fun s _ h => stockOk_svcCancel h f
    case quote p b => exact fun s _ h => stockOk_quote h p b
    case issue p b => exact keeps_onFields (fun f _ _ h => stockOk_issue h p f) b
    case void p b => exact keeps_onFields (fun f _ _ h => stockOk_voidSale h p f) b
    case farePriceWrite p b => exact keeps_onFields (fun f _ _ h => stockOk_farePriceWrite h f) b
    case stockAdd p b => exact keeps_onFields (fun f _ _ h => stockOk_stockAdd h f) b
    case batchAck p b => exact keeps_onFields (fun f _ _ h => stockOk_batchAck h p f) b
    case salesSuspend p b => exact keeps_onFields (fun f _ _ h => stockOk_salesSuspend h p f) b
    case salesResume p b => exact keeps_onFields (fun f _ _ h => stockOk_salesResume h p f) b
    case portReset p b => exact keeps_onFields (fun f _ _ h => stockOk_portReset h p f) b
    case unknownRequest p code body => exact keeps_unknownFrame ambient_stock p code body
    case portResetLineActive p => exact fun s _ h => stockOk_resetLineActive h p
    case clockSecond => exact fun s h => stockOk_secondElapses h
    case passageClose => exact fun s _ h => stockOk_passageClosed h
    case quoteExpiry p => exact fun s _ h => stockOk_quoteExpired h p
    case voidWindowExpiry p => exact fun s _ h => stockOk_voidWindowExpired h p
    case terminalSilenceExpiry => exact fun s _ h => stockOk_silenceExpired h
    case sample mv l => exact fun s _ h => h.of_same (sameStock_of_eq (ports := s.sales.ports) (sampleTaken_sales_eq mv l s))
    case coldStart => exact fun _ _ => stockOk_reset
    case warmStart l => exact fun s h => stockOk_warmStarted h l
    case coreSupplyDip => exact fun s h => stockOk_dip h

/-- Settles O57: the three parts are invariants of their own blocks, each kept by each command's own part
(`keeps_stock`, `keeps_fares`, `keeps_revoked`). -/
theorem stepKeepsStockAndTablesOk : Obligations.StepKeepsStockAndTablesOk := by
  unfold Obligations.StepKeepsStockAndTablesOk
  exact fun s t stock fares revoked e => ⟨step_keeps ambient_stock keeps_stock stock e,
    step_keeps ambient_fares keeps_fares fares e, step_keeps ambient_revoked keeps_revoked revoked e⟩

end Sys2Proof.Machine
end

section
/-! PROOFS. The supply monitor, the counters and the ports' sets in order (O58). -/

namespace Sys2Proof.Machine

variable {s t : State}

/-! ## Counters, notices, rights and reasons through the shared operations -/

theorem State.portsOk.of_same (h : s.portsOk) (counters : t.counters = s.counters) (ports : t.ports = s.ports)
    (reasons : t.sales.reasons = s.sales.reasons) : t.portsOk := by
  obtain ⟨values, notices, rights, closed, config⟩ := h
  exact ⟨by simpa only [State.counter, counters] using values, by simpa only [ports] using notices,
    by simpa only [ports] using rights, by rwa [reasons], by rwa [ports]⟩

theorem State.portsOk.counted (h : s.portsOk) (c : Counter) (n : Nat) : (countBy c n s).portsOk := by
  obtain ⟨values, notices, rights, closed, config⟩ := h
  refine ⟨fun d => ?_, notices, rights, closed, config⟩
  rw [counter_countBy]
  split
  · exact Nat.min_le_right _ _
  · exact values d

/-- The ports' records replaced by ones whose sets are in order. -/
theorem State.portsOk.reported (h : s.portsOk) (counters : t.counters = s.counters)
    (reasons : t.sales.reasons = s.sales.reasons)
    (notices : ∀ p, (t.ports.get p).notices.Sublist Notice.all)
    (rights : ∀ p, (t.ports.get p).rights = (s.ports.get p).rights) : t.portsOk :=
  ⟨by simpa only [State.counter, counters] using h.counters, notices, fun p => by simpa only [rights] using h.rights p,
    by simpa only [reasons] using h.reasons, by simpa only [rights] using h.config⟩

theorem State.portsOk.posted (h : s.portsOk) (k : Notice) (names : List Port) : (postTo k names s).portsOk := by
  refine h.reported rfl rfl (fun p => ?_) fun p => ?_
  · simp only [postTo, PerPort.get_imap]
    split
    · exact setInsert_sublist _ _ _
    · exact h.notices p
  · simp only [postTo, PerPort.get_imap]
    split <;> rfl

/-- One port's record replaced, its rights kept. -/
theorem State.portsOk.portSet (h : s.portsOk) {p : Port} {c : PortControl} (notices : c.notices.Sublist Notice.all)
    (rights : c.rights = (s.ports.get p).rights) : (setPort p c s).portsOk := by
  refine h.reported rfl rfl (fun q => ?_) fun q => ?_
  · by_cases own : q = p
    · subst own
      simpa using notices
    · simpa [PerPort.get_set_of_ne _ _ own] using h.notices q
  · by_cases own : q = p
    · subst own
      simpa using rights
    · simp [PerPort.get_set_of_ne _ _ own]

theorem State.portsOk.reasoned (h : s.portsOk) {rs : List Reason} (sub : rs.Sublist Reason.all) :
    (changeReasons rs s).portsOk := by
  unfold changeReasons
  split
  · exact h
  · refine State.portsOk.posted ?_ _ _
    exact ⟨h.counters, h.notices, h.rights, sub, h.config⟩

theorem State.portsOk.added (h : s.portsOk) (r : Reason) : (addReason r s).portsOk :=
  h.reasoned (setInsert_sublist _ _ _)

theorem State.portsOk.removed (h : s.portsOk) (r : Reason) : (removeReason r s).portsOk :=
  h.reasoned (setErase_sublist _ h.reasons)

theorem portsOk_freeMessage (j : Journal) (h : s.portsOk) : (freeMessage j s).portsOk := by
  unfold freeMessage
  (repeat' split)
  · exact h.added _
  · exact h.removed _
  · exact h

theorem portsOk_uploadDue (b : State) (h : s.portsOk) : (uploadDue b s).portsOk := by
  unfold uploadDue
  split
  · exact h.posted _ _
  · exact h

theorem portsOk_append (k : EntryKind) (h : s.portsOk) : (append k s).portsOk := by
  rcases append_eq k s with ⟨-, e⟩ | ⟨-, e⟩ <;> rw [e]
  · exact h.counted _ 1
  · exact portsOk_uploadDue _ (portsOk_freeMessage _ (h.of_same rfl rfl rfl))

/-! ## The timetable -/

theorem portsOk_minuteTick (h : s.portsOk) : (minuteTick s).portsOk := by
  have lapse (c : Call) (t : State) (ht : t.portsOk) : (lapseCall c t).portsOk := by
    refine State.portsOk.counted (portsOk_append _ ?_) _ 1
    exact ht.of_same rfl rfl rfl
  have run (due : List Call) (t : State) (ht : t.portsOk) : (due.foldl (fun t c => lapseCall c t) t).portsOk := by
    induction due generalizing t with
    | nil => exact ht
    | cons c due ih => exact ih _ (lapse c t ht)
  have flagged : (flagCalls (lapseCalls s)).portsOk := (run _ s h).of_same rfl rfl rfl
  have evening : (eveningTest (flagCalls (lapseCalls s))).portsOk := by
    unfold eveningTest
    split
    · refine State.portsOk.posted ?_ _ _
      exact flagged.of_same rfl rfl rfl
    · exact flagged
  exact evening.of_same (by simp [minuteTick]) (by simp [minuteTick]) (by simp [minuteTick])

theorem portsOk_needToday (h : s.portsOk) : (needToday s).portsOk := by
  unfold needToday
  split
  · exact h.posted _ _
  · exact h

theorem portsOk_dayBoundary (k : DayKind) (s : State) (h : s.portsOk) : (dayBoundary k s).portsOk := by
  have reasons : (dayBoundary k s).sales.reasons = s.sales.reasons := by rw [dayBoundary_sales_eq]
  have needed := portsOk_needToday (s := { s with store := (dayBoundary k s).store }) (h.of_same rfl rfl rfl)
  refine needed.of_same (by simp) ?_ ?_
  · rw [dayBoundary_ports, needToday_ports]
    simp
  · rw [reasons]
    simp

theorem portsOk_timeSet (h : s.portsOk) (f : TimeSetBody) : (timeSet f s).1.portsOk := by
  dsimp only [timeSet]
  (repeat' split)
  · exact h
  · exact h
  · refine portsOk_minuteTick (portsOk_needToday (State.portsOk.removed ?_ _))
    exact h.of_same rfl rfl rfl
  · exact h
  · dsimp only [timeWithin]
    split
    · exact portsOk_minuteTick (h.of_same rfl rfl rfl)
    · exact h.of_same rfl rfl rfl
  · exact portsOk_minuteTick (portsOk_dayBoundary _ _ (h.of_same rfl rfl rfl))

theorem portsOk_ttEnd (h : s.portsOk) (p : Port) (f : NoFields) : (ttEnd p f s).1.portsOk := by
  have placed (g : Staging) (name : TableName) (t : State) (ht : t.portsOk) : (placeStaging g name t).portsOk := by
    dsimp only [placeStaging]
    refine State.portsOk.of_same (s := append _ _) (portsOk_append _ ?_) rfl rfl rfl
    exact ht.of_same rfl rfl rfl
  dsimp only [ttEnd, onStaging]
  (repeat' split) <;> first | exact h | exact h.of_same rfl rfl rfl | exact placed _ _ _ (h.of_same rfl rfl rfl)

theorem portsOk_stagingExpired (h : s.portsOk) : (stagingExpired s).portsOk := by
  unfold stagingExpired
  (repeat' split)
  · exact h
  · refine State.portsOk.posted ?_ _ _
    exact h.of_same rfl rfl rfl
  · exact h

/-! ## Sales, fares, the journal -/

theorem portsOk_countRevoked (a : Answer) (h : s.portsOk) : (countRevoked a s).portsOk := by
  unfold countRevoked
  split
  · exact h.counted _ 1
  · exact h

theorem portsOk_setSales (p : Port) (x : PortSales) (h : s.portsOk) : (setSales p x s).portsOk :=
  h.of_same rfl rfl rfl

theorem portsOk_quote (h : s.portsOk) (p : Port) (b : Body QuoteBody) : (quote p b s).1.portsOk := by
  dsimp only [quote]
  split
  · exact portsOk_countRevoked _ (h.counted _ 1)
  · exact portsOk_setSales _ _ h

theorem portsOk_stockTests (h : s.portsOk) : (stockTests s).portsOk := by
  have emptied : (stockEmptyTest s).portsOk := by
    unfold stockEmptyTest
    split
    · exact h.added _
    · exact h
  rw [stockTests_eq]
  unfold stockLowTest
  split
  · refine State.portsOk.posted ?_ _ _
    exact emptied.of_same rfl rfl rfl
  · exact emptied

theorem portsOk_issueTicket (h : s.portsOk) (p : Port) (r : FareRequest) (x : Fare) (requoted : Bool) :
    (issueTicket p r x requoted s).1.portsOk := by
  have sold : (append (.sale (nextSerial s.sales.blocks) p r x.band x.total)
      { s with sales := { s.sales with blocks := takeSerial s.sales.blocks } }).portsOk := by
    refine portsOk_append _ ?_
    exact h.of_same rfl rfl rfl
  have counted := (sold.counted (match r.ticket with
    | .single => .issuedSingle
    | .ret => .issuedReturn) 1).counted (match x.band with
    | .peak => .revenuePeak
    | .offPeak => .revenueOffPeak) x.total
  dsimp only [issueTicket]
  refine portsOk_stockTests (portsOk_setSales _ _ ?_)
  cases requoted with
  | false => exact counted
  | true => exact counted.counted _ 1

theorem portsOk_issue (h : s.portsOk) (p : Port) (f : IssueBody) : (issue p f s).1.portsOk := by
  have refused (a : Answer) : (refuseIssue p a s).1.portsOk :=
    portsOk_setSales _ _ (portsOk_countRevoked _ (h.counted _ 1))
  unfold issue
  split
  · exact h.counted _ 1
  · cases (s.sales.ports.get p).issueCase f.number.toNat with
    | noQuote => exact refused _
    | invalidated => exact refused _
    | held q =>
      cases checks : s.heldChecks q with
      | error a => simpa only [checks] using refused a
      | ok x => simpa only [checks] using portsOk_issueTicket h p _ _ _
    | requote q =>
      cases checks : s.requoteChecks q with
      | error a => simpa only [checks] using refused a
      | ok x => simpa only [checks] using portsOk_issueTicket h p _ _ _

theorem portsOk_voidSale (h : s.portsOk) (p : Port) (f : VoidBody) : (voidSale p f s).1.portsOk := by
  dsimp only [voidSale]
  (repeat' split)
  · exact h
  · exact h
  · exact h
  · exact portsOk_setSales _ _ ((portsOk_append _ h).counted _ 1)

theorem portsOk_farePriceWrite (h : s.portsOk) (f : FarePriceBody) : (farePriceWrite f s).1.portsOk := by
  have told (before after : Bool) (t : State) (ht : t.portsOk) : (faresMessage before after t).portsOk := by
    unfold faresMessage
    (repeat' split)
    · exact ht
    · exact ht.removed _
    · exact ht.added _
  dsimp only [farePriceWrite]
  split
  · exact h
  · refine told _ _ _ ?_
    exact h.of_same rfl rfl rfl

theorem portsOk_stockAdd (h : s.portsOk) (f : StockAddBody) : (stockAdd f s).1.portsOk := by
  dsimp only [stockAdd]
  split
  · exact h
  · have added : (removeReason .stockEmpty
        { s with sales := { s.sales with blocks := s.sales.blocks ++ [‹_›], horizon := StockBlock.last ‹_› } }).portsOk := by
      refine State.portsOk.removed ?_ _
      exact h.of_same rfl rfl rfl
    dsimp only
    split
    · exact added.of_same rfl rfl rfl
    · exact added

theorem portsOk_batchAck (h : s.portsOk) (p : Port) (f : BatchIdBody) : (batchAck p f s).1.portsOk := by
  have told (holder : Port) (t : State) (ht : t.portsOk) : (ifLink holder schedulerSuccess t).portsOk := by
    cases holder with
    | link => exact ht.of_same rfl rfl rfl
    | terminal => exact ht
    | service => exact ht
  dsimp only [batchAck]
  (repeat' split)
  · exact h
  · exact h
  · refine portsOk_uploadDue _ (portsOk_freeMessage _ (told _ _ (State.portsOk.counted ?_ _ 1)))
    exact h.of_same rfl rfl rfl

theorem portsOk_failBatch (holder : Port) (h : s.portsOk) : (failBatch holder s).portsOk := by
  have counted : (count .batchesFailed { s with journal := s.journal.returned }).portsOk := by
    refine State.portsOk.counted ?_ _ 1
    exact h.of_same rfl rfl rfl
  cases holder with
  | link => exact counted.of_same (by simp [failBatch, ifLink]) (by simp [failBatch, ifLink]) (by simp [failBatch, ifLink])
  | terminal => exact counted
  | service => exact counted

theorem portsOk_batchFail (h : s.portsOk) (p : Port) (f : BatchIdBody) : (batchFail p f s).1.portsOk := by
  dsimp only [batchFail]
  (repeat' split)
  · exact h
  · exact h
  · exact portsOk_uploadDue _ (portsOk_failBatch p h)

theorem portsOk_batchTimedOut (h : s.portsOk) : (batchTimedOut s).portsOk := by
  unfold batchTimedOut
  (repeat' split)
  · exact h
  · exact portsOk_uploadDue _ ((portsOk_failBatch _ h).posted _ _)
  · exact h

theorem portsOk_linkResume (h : s.portsOk) (p : Port) (f : NoFields) : (linkResume p f s).1.portsOk := by
  cases p with
  | terminal => exact h
  | service => exact h
  | link =>
    refine portsOk_uploadDue s ?_
    exact h.of_same rfl rfl rfl

theorem portsOk_waitExpired (h : s.portsOk) : (waitExpired s).portsOk := by
  unfold waitExpired
  split
  · refine portsOk_uploadDue s ?_
    exact h.of_same rfl rfl rfl
  · exact h

theorem portsOk_salesSuspend (h : s.portsOk) (p : Port) (f : NoFields) : (salesSuspend p f s).1.portsOk := by
  cases p with
  | terminal => exact h
  | link => exact h
  | service => exact h.added _

theorem portsOk_salesResume (h : s.portsOk) (p : Port) (f : NoFields) : (salesResume p f s).1.portsOk := by
  cases p with
  | terminal => exact h
  | link => exact h
  | service => exact h.removed _

/-! ## Treadles and passages -/

theorem portsOk_treadleFalls (h : s.portsOk) (x : TreadleId) : (treadleFalls x s).portsOk := by
  dsimp only [treadleFalls, fall, unpaired]
  (repeat' split)
  · exact h.of_same rfl rfl rfl
  · exact h.of_same rfl rfl rfl
  · refine State.portsOk.posted (State.portsOk.counted ?_ _ 1) _ _
    exact h.of_same rfl rfl rfl
  · refine State.portsOk.counted ?_ _ 1
    exact h.of_same rfl rfl rfl
  · exact h.of_same rfl rfl rfl
  · exact h

theorem portsOk_passageClosed (h : s.portsOk) : (passageClosed s).portsOk := by
  dsimp only [passageClosed, closePassage]
  (repeat' split)
  · exact h
  · refine State.portsOk.counted ?_ _ 1
    exact h.of_same rfl rfl rfl
  · refine State.portsOk.counted ?_ _ 1
    exact h.of_same rfl rfl rfl
  · refine State.portsOk.counted (portsOk_append _ ?_) _ 1
    exact h.of_same rfl rfl rfl
  · exact h

/-! ## The display bus controller -/

theorem portsOk_setBus (x : DisplayBus) (h : s.portsOk) : (setBus x s).portsOk := h.of_same rfl rfl rfl

theorem portsOk_enterFault (c : FaultCause) (h : s.portsOk) : (enterFault c s).portsOk :=
  (portsOk_setBus _ h).posted _ _

theorem portsOk_completeFrame (h : s.portsOk) : (completeFrame s).portsOk := by
  have counted : (count .framesSent s).portsOk := h.counted _ 1
  unfold completeFrame
  dsimp only
  (repeat' split)
  · exact portsOk_setBus _ counted
  · exact (portsOk_setBus _ (portsOk_setBus _ counted)).posted _ _
  · exact portsOk_setBus _ (portsOk_setBus _ counted)

theorem portsOk_startNext (l : DataLine) (h : s.portsOk) : (startNext l s).portsOk := by
  dsimp only [startNext, stuckData]
  (repeat' split)
  · exact portsOk_completeFrame h
  · exact portsOk_setBus _ h
  · exact (portsOk_setBus _ (portsOk_setBus _ h)).counted _ 1
  · exact portsOk_enterFault _ (portsOk_setBus _ h)

theorem portsOk_beginFrame (l : DataLine) (h : s.portsOk) : (beginFrame l s).portsOk := by
  refine portsOk_startNext l ?_
  exact h.of_same rfl rfl rfl

theorem portsOk_overrun (h : s.portsOk) : (overrun s).portsOk := (h.counted _ 1).posted _ _

theorem portsOk_frameStart (l : DataLine) (h : s.portsOk) : (frameStart l s).portsOk := by
  unfold frameStart
  split
  · exact portsOk_beginFrame l h
  · exact portsOk_overrun h
  · exact portsOk_overrun h
  · exact h
  · exact h
  · exact h

theorem portsOk_takeDue (l : DataLine) (fuel : Nat) (h : s.portsOk) : (takeDue l fuel s).portsOk := by
  induction fuel generalizing s with
  | zero => exact h
  | succ fuel ih =>
    unfold takeDue
    split
    · exact ih (portsOk_beginFrame l h)
    · exact h

theorem ambient_ports : Ambient State.portsOk where
  queue _ _ h := h.of_same rfl rfl rfl
  port p _ _ notices rights h := h.portSet (notices ▸ h.notices p) rights
  silence _ _ _ h := h.of_same rfl rfl rfl
  counted _ _ _ h := h.counted _ _
  drawn _ _ h := h.of_same rfl rfl rfl
  cycled _ _ h := portsOk_setBus _ h
  frame l _ _ h := portsOk_beginFrame l h

theorem portsOk_intervalChanged (old : Nat) (l : DataLine) (h : s.portsOk) : (intervalChanged old l s).portsOk := by
  dsimp only [intervalChanged]
  (repeat' split)
  · exact portsOk_setBus _ h
  · exact portsOk_beginFrame l (portsOk_setBus _ h)
  · exact portsOk_setBus _ h
  · exact h
  · exact h

theorem portsOk_intervalPacingTaken (l : DataLine) (h : s.portsOk) : (intervalPacingTaken l s).portsOk := by
  unfold intervalPacingTaken
  (repeat' split)
  · exact h
  · exact portsOk_beginFrame l h
  · exact h
  · exact portsOk_setBus _ h

theorem portsOk_startFrames (l : DataLine) (h : s.portsOk) : (startFrames l s).portsOk := by
  unfold startFrames
  (repeat' split)
  · exact h
  · exact portsOk_beginFrame l h
  · exact portsOk_beginFrame l (portsOk_setBus _ h)

theorem portsOk_displayStart (l : DataLine) (h : s.portsOk) : (displayStart l s).1.portsOk := by
  dsimp only [displayStart, displayAnswer]
  split
  · exact ambient_ports.settleAt l (portsOk_startFrames l (portsOk_setBus _ h))
  · exact portsOk_setBus _ h
  · exact portsOk_setBus _ h
  · exact h
  · exact h

theorem portsOk_displayRecover (p : Port) (l : ClockLine) (h : s.portsOk) : (displayRecover p l s).1.portsOk := by
  dsimp only [displayRecover, displayAnswer]
  (repeat' split)
  · exact h
  · exact h
  · exact (portsOk_setBus _ h).counted _ 1
  · exact h

theorem portsOk_displayPacing (f : DisplayPacingBody) (l : DataLine) (h : s.portsOk) :
    (displayPacing f l s).1.portsOk := by
  dsimp only [displayPacing, displayAnswer]
  (repeat' split)
  · exact portsOk_setBus _ (portsOk_setBus _ h)
  · exact ambient_ports.settleAt l (portsOk_intervalPacingTaken l (portsOk_setBus _ h))
  · exact ambient_ports.settleAt l (portsOk_intervalChanged _ l (portsOk_setBus _ h))
  · exact portsOk_setBus _ h
  · exact h

theorem portsOk_frameTimerExpired (l : DataLine) (h : s.portsOk) : (frameTimerExpired l s).portsOk := by
  unfold frameTimerExpired
  split
  · exact portsOk_frameStart l (portsOk_setBus _ h)
  · exact h

theorem portsOk_triggerEdge (high : Bool) (l : DataLine) (h : s.portsOk) : (triggerEdge high l s).portsOk := by
  dsimp only [triggerEdge]
  (repeat' split)
  · exact portsOk_frameStart l (portsOk_setBus _ (portsOk_setBus _ h))
  · exact portsOk_setBus _ (portsOk_setBus _ h)
  · exact portsOk_setBus _ h
  · exact h

theorem portsOk_reportOutcome (x : Transaction) (o : OutcomeReport) (h : s.portsOk) :
    (reportOutcome x o s).portsOk := by
  have set (r : Panel) : (setPanel x.panel r s).portsOk := h.of_same rfl rfl rfl
  dsimp only [reportOutcome]
  (repeat' split)
  · exact h
  · exact h
  · exact (set _).counted _ 1
  · exact set _
  · exact set _
  · exact set _
  · exact (set _).posted _ _
  · exact set _

theorem portsOk_afterTransaction (l : DataLine) (h : s.portsOk) : (afterTransaction l s).portsOk := by
  unfold afterTransaction
  split
  · exact portsOk_setBus _ h
  · exact portsOk_startNext l (portsOk_setBus _ h)

theorem portsOk_transactionEnded (e : TransactionEnd) (l : DataLine) (h : s.portsOk) :
    (transactionEnded e l s).portsOk := by
  unfold transactionEnded
  (repeat' split)
  · exact h
  · exact portsOk_afterTransaction l (portsOk_reportOutcome _ _ h)
  · exact portsOk_afterTransaction l (portsOk_setBus _ (portsOk_reportOutcome _ _ h))

theorem portsOk_busDisturbed (l : DataLine) (h : s.portsOk) : (busDisturbed l s).portsOk := by
  unfold busDisturbed
  split
  · exact h
  · exact portsOk_afterTransaction l (portsOk_reportOutcome _ _ h)

theorem portsOk_stuckClock (h : s.portsOk) : (stuckClock s).portsOk := by
  unfold stuckClock
  split
  · exact portsOk_enterFault _ h
  · exact portsOk_enterFault _ h
  · exact h
  · exact h
  · exact h

theorem portsOk_recoveryEndedAuto (r : RecoveryResult) (l : DataLine) (h : s.portsOk) :
    (recoveryEndedAuto r l s).portsOk := by
  unfold recoveryEndedAuto
  (repeat' split)
  · exact portsOk_enterFault _ h
  · exact portsOk_setBus _ h
  · exact portsOk_startNext l h
  · exact h

theorem portsOk_recoveryEndedManual (r : RecoveryResult) (h : s.portsOk) : (recoveryEndedManual r s).portsOk := by
  unfold recoveryEndedManual
  (repeat' split)
  · exact portsOk_enterFault _ h
  · exact portsOk_setBus _ h
  · exact portsOk_setBus _ h
  · exact h

/-! ## Supply, rights, notices, counters read -/

theorem portsOk_sampleTaken (millivolts : Nat) (l : DataLine) (h : s.portsOk) :
    (sampleTaken millivolts l s).portsOk := by
  have told (old new : SupplyState) (t : State) (ht : t.portsOk) : (tellSales old new t).portsOk := by
    unfold tellSales
    (repeat' split)
    · exact ht.added _
    · exact ht.removed _
    · exact ht
  have changed (new : SupplyState) (t : State) (ht : t.portsOk) : (changeSupply new l t).portsOk := by
    have moved : (post .supplyChanged (append (.supply new) (tellSales t.supply.state new
        (setSupply { t.supply.runsCleared with state := new } t)))).portsOk := by
      refine State.portsOk.posted (portsOk_append _ (told _ _ _ ?_)) _ _
      exact ht.of_same rfl rfl rfl
    dsimp only [changeSupply]
    refine portsOk_intervalChanged _ l ?_
    split
    · exact moved.counted _ 1
    · exact moved
  have sampled : (setSupply (s.supply.sampled (classOf millivolts)) s).portsOk := h.of_same rfl rfl rfl
  dsimp only [sampleTaken, applySample]
  (repeat' split)
  · exact sampled
  · exact changed _ _ sampled
  · exact h

theorem portsOk_overrunLoad (h : s.portsOk) : (overrunLoad s).portsOk := by
  refine State.portsOk.counted ?_ _ 1
  exact h.of_same rfl rfl rfl

theorem portsOk_loadBegin (h : s.portsOk) (f : NoFields) : (loadBegin f s).1.portsOk := by
  have ended : (endLoadAtLimit s).portsOk := by
    unfold endLoadAtLimit
    (repeat' split)
    · exact h
    · exact portsOk_overrunLoad h
    · exact h
  exact ended.of_same rfl rfl rfl

theorem portsOk_loadTimedOut (h : s.portsOk) : (loadTimedOut s).portsOk := by
  unfold loadTimedOut
  (repeat' split)
  · exact h
  · exact portsOk_overrunLoad h
  · exact h

theorem setOfBits_sublist {α : Type} (all : List α) (n : Nat) : (setOfBits all n).Sublist all := by
  induction all generalizing n with
  | nil => exact List.Sublist.refl _
  | cons x xs ih =>
    unfold setOfBits
    split
    · exact (ih _).cons_cons x
    · exact (ih _).cons x

theorem rightsOf_sublist {b : Byte} {rs : List RightsClass} (h : rightsOf b = some rs) :
    rs.Sublist RightsClass.all := by
  unfold rightsOf at h
  split at h
  · obtain rfl := Option.some.inj h
    exact setOfBits_sublist _ _
  · cases h

theorem portsOk_setRights (h : s.portsOk) (p : Port) (f : SetRightsBody) : (setRights p f s).1.portsOk := by
  dsimp only [setRights]
  (repeat' split)
  · exact h
  · exact h
  · rename_i _ _ q rs _ rights config
    obtain ⟨values, notices, held, closed, service⟩ := h
    have get (q' : Port) : (setRightsOf q rs s).ports.get q' =
        if q' = q then { s.ports.get q with rights := rs } else s.ports.get q' := PerPort.get_set _ _ _ _
    refine ⟨values, fun q' => ?_, fun q' => ?_, closed, ?_⟩
    · rw [get]
      split
      · exact notices q
      · exact notices q'
    · rw [get]
      split
      · exact rightsOf_sublist rights
      · exact held q'
    · rw [get]
      split
      · rename_i own
        refine Decidable.byContradiction fun out => ?_
        exact config ⟨own.symm, out⟩
      · exact service
  · exact h

theorem portsOk_resetPort (h : s.portsOk) (p : Port) : (resetPort p s).portsOk := by
  have cleared : (setPort p (s.ports.get p).cleared s).portsOk := h.portSet (List.nil_sublist _) rfl
  have released (t : State) (ht : t.portsOk) : (releaseBatch p t).portsOk := by
    unfold releaseBatch
    (repeat' split)
    · exact ht
    · refine portsOk_uploadDue t ?_
      exact ht.of_same rfl rfl rfl
    · exact ht
  have staged : (releaseBatch p (releaseStaging p (resetSales p (setPort p (s.ports.get p).cleared s)))).portsOk :=
    released _ (cleared.of_same (by simp) (by simp) (by simp [resetSales]))
  dsimp only [resetPort]
  cases p <;> exact staged.of_same rfl rfl rfl

theorem portsOk_portReset (h : s.portsOk) (p : Port) (f : PortResetBody) : (portReset p f s).1.portsOk := by
  unfold portReset
  (repeat' split)
  · exact h
  · exact portsOk_resetPort h .terminal
  · exact portsOk_resetPort h .link
  · exact h
  · exact h

theorem portsOk_resetLineActive (h : s.portsOk) (p : Port) : (resetLineActive p s).portsOk := by
  unfold resetLineActive
  split
  · have reset := portsOk_resetPort h p
    exact reset.portSet (reset.notices p) rfl
  · exact h

theorem counter_zeroCounters (first n : Nat) (c : Counter) (s : State) : (zeroCounters first n s).counter c =
    if first ≤ c.index.val + 1 ∧ c.index.val + 1 < first + n then 0 else s.counter c := by
  simp [State.counter, zeroCounters]

theorem portsOk_readCounters (h : s.portsOk) (p : Port) (f : ReadCountersBody) : (readCounters p f s).1.portsOk := by
  have zeroed (first n : Nat) : (zeroCounters first n s).portsOk := by
    obtain ⟨values, notices, rights, closed, config⟩ := h
    refine ⟨fun c => ?_, by simpa using notices, by simpa using rights, by simpa using closed, by simpa using config⟩
    rw [counter_zeroCounters]
    split
    · exact Nat.zero_le _
    · exact values c
  dsimp only [readCounters]
  (repeat' split)
  · exact h
  · exact h
  · exact h
  · exact zeroed _ _
  · exact h

theorem portsOk_readNotices (h : s.portsOk) (p : Port) (f : ReadNoticesBody) : (readNotices p f s).1.portsOk := by
  dsimp only [readNotices]
  split
  · exact h
  · exact h.portSet (List.filter_sublist.trans (h.notices p)) rfl

/-! ## Elapsed time and starts -/

theorem portsOk_secondElapses (h : s.portsOk) : (secondElapses s).portsOk :=
  secondElapses_keeps (P := State.portsOk) (fun _ => h.of_same rfl rfl rfl) (fun _ => h.of_same rfl rfl rfl)
    (fun _ _ _ h => h.of_same rfl rfl rfl) (fun _ h => portsOk_minuteTick h)
    (fun _ _ _ h => portsOk_dayBoundary _ _ (h.of_same rfl rfl rfl))

theorem portsOk_reset : State.reset.portsOk :=
  ⟨by intro c; cases c <;> decide, by intro p; cases p <;> decide, by intro p; cases p <;> decide,
    by decide, by decide⟩

/-- A lost core domain keeps the rights and clears the notices. -/
theorem portsOk_coreLost (h : s.portsOk) : (coreLost s).portsOk := by
  refine h.reported rfl rfl (fun p => ?_) fun p => ?_
  · simp [coreLost, PortControl.lost, PortControl.initial]
  · simp [coreLost, PortControl.lost, PortControl.initial]

theorem portsOk_dip (h : s.portsOk) : (dip s).portsOk := by
  unfold dip
  split
  · refine portsOk_coreLost ?_
    exact h.of_same rfl rfl rfl
  · exact h

theorem portsOk_warmStarted (h : s.portsOk) (l : DataLine) : (warmStarted l s).portsOk := by
  have lost : (coreLost { s with core := .up }).portsOk := by
    refine portsOk_coreLost ?_
    exact h.of_same rfl rfl rfl
  have entered := portsOk_append (.start .warm) lost
  have rebuilt : (rebuildReasons (append (.start .warm) (coreLost { s with core := .up }))).portsOk :=
    ⟨entered.counters, entered.notices, entered.rights, List.filter_sublist, entered.config⟩
  have restarted (t : State) (ht : t.portsOk) : (restarted t).portsOk := by
    refine State.portsOk.posted ?_ _ _
    refine ht.reported rfl rfl (fun p => ?_) fun p => ?_
    · simp
    · simp
  have begun : (warmBegun s).portsOk := by
    unfold warmBegun startUpload
    split
    · exact (restarted _ rebuilt).posted _ _
    · exact restarted _ rebuilt
  refine warmStarted_keeps (P := State.portsOk) begun (fun _ _ h => portsOk_dayBoundary _ _ h)
    (fun _ h => portsOk_minuteTick h) (fun t h => ?_)
  unfold resumeFrames
  split
  · exact portsOk_startFrames l h
  · exact h

theorem svcCancel_reasons (f : SvcCallBody) (s : State) : (svcCancel f s).1.sales.reasons = s.sales.reasons := by
  dsimp only [svcCancel, svcUpdate]
  (repeat' split) <;> rfl

/-- The blocks that the order of the counters and the sets is about. -/
abbrev portBlocks : List Block := [.sales, .counters, .ports]

/-- Each command's own part keeps the counters and the sets in order. -/
theorem keeps_ports (i : Instr) : (actOf i).Keeps State.portsOk := by
  by_cases touched : ∀ b ∈ portBlocks, b ∉ blocksOf i
  · refine keeps_of_untouched portBlocks (fun s t same h => ?_) touched
    have sales : t.sales = s.sales := same .sales (by simp)
    exact h.of_same (same .counters (by simp)) (same .ports (by simp)) (by rw [sales])
  · cases i <;> simp [blocksOf] at touched
    case timeSet p b => exact keeps_onFields (fun f _ _ h => portsOk_timeSet h f) b
    case ttEnd p b => exact keeps_onFields (fun f _ _ h => portsOk_ttEnd h p f) b
    case svcUpdateCancel p f =>
      refine fun s _ h => ?_
      have kept := svcCancel_changesOnly f s
      exact h.of_same (kept.2 .counters (by simp)) (kept.2 .ports (by simp)) (svcCancel_reasons f s)
    case quote p b => exact fun s _ h => portsOk_quote h p b
    case issue p b => exact keeps_onFields (fun f _ _ h => portsOk_issue h p f) b
    case void p b => exact keeps_onFields (fun f _ _ h => portsOk_voidSale h p f) b
    case loadBegin p b => exact keeps_onFields (fun f _ _ h => portsOk_loadBegin h f) b
    case farePriceWrite p b => exact keeps_onFields (fun f _ _ h => portsOk_farePriceWrite h f) b
    case stockAdd p b => exact keeps_onFields (fun f _ _ h => portsOk_stockAdd h f) b
    case batchAck p b => exact keeps_onFields (fun f _ _ h => portsOk_batchAck h p f) b
    case batchFail p b => exact keeps_onFields (fun f _ _ h => portsOk_batchFail h p f) b
    case linkResume p b => exact keeps_onFields (fun f _ _ h => portsOk_linkResume h p f) b
    case displayStart p l => exact fun s _ h => portsOk_displayStart l h
    case displayRecover p l => exact fun s _ h => portsOk_displayRecover p l h
    case displayPacing p f l => exact fun s _ h => portsOk_displayPacing f l h
    case salesSuspend p b => exact keeps_onFields (fun f _ _ h => portsOk_salesSuspend h p f) b
    case salesResume p b => exact keeps_onFields (fun f _ _ h => portsOk_salesResume h p f) b
    case setRights p b => exact keeps_onFields (fun f _ _ h => portsOk_setRights h p f) b
    case portReset p b => exact keeps_onFields (fun f _ _ h => portsOk_portReset h p f) b
    case readCounters p b => exact keeps_onFields (fun f _ _ h => portsOk_readCounters h p f) b
    case readNotices p b => exact keeps_onFields (fun f _ _ h => portsOk_readNotices h p f) b
    case unknownRequest p code body => exact keeps_unknownFrame ambient_ports p code body
    case frameCut p received => exact keeps_cutFrame ambient_ports p received
    case replyRead p n => exact keeps_readReply ambient_ports p n
    case portResetLineActive p => exact fun s _ h => portsOk_resetLineActive h p
    case portResetLineInactive p => exact keeps_resetLineInactive ambient_ports p
    case portResetLineFirstAcceptance p active => exact keeps_resetLineFirst ambient_ports p active
    case clockSecond => exact fun s h => portsOk_secondElapses h
    case stagingIdleTimeout => exact fun s _ h => portsOk_stagingExpired h
    case passageClose => exact fun s _ h => portsOk_passageClosed h
    case quoteExpiry p =>
      refine fun s _ h => ?_
      dsimp only [quoteExpired]
      (repeat' split) <;> first | exact h | exact portsOk_setSales _ _ h
    case voidWindowExpiry p =>
      refine fun s _ h => ?_
      dsimp only [voidWindowExpired]
      (repeat' split) <;> first | exact h | exact portsOk_setSales _ _ h
    case terminalSilenceExpiry =>
      refine fun s _ h => ?_
      unfold silenceExpired
      split
      · exact h.of_same rfl rfl rfl
      · exact h
    case batchTimeout => exact fun s _ h => portsOk_batchTimedOut h
    case waitExpiry => exact fun s _ h => portsOk_waitExpired h
    case frameTimerExpiry l => exact fun s _ h => portsOk_frameTimerExpired l h
    case sample mv l => exact fun s _ h => portsOk_sampleTaken mv l h
    case loadPeriodTimeout => exact fun s _ h => portsOk_loadTimedOut h
    case treadleFallingEdge x => exact fun s _ h => portsOk_treadleFalls h x
    case triggerEdge high l => exact fun s _ h => portsOk_triggerEdge high l h
    case transactionEnd e l => exact fun s _ h => portsOk_transactionEnded e l h
    case busDisturbed l => exact fun s _ h => portsOk_busDisturbed l h
    case stuckClock => exact fun s _ h => portsOk_stuckClock h
    case recoveryEndAuto r l => exact fun s _ h => portsOk_recoveryEndedAuto r l h
    case recoveryEndManual r l => exact fun s _ h => portsOk_recoveryEndedManual r h
    case coldStart => exact fun _ _ => portsOk_reset.of_same rfl rfl rfl
    case warmStart l => exact fun s h => portsOk_warmStarted h l
    case coreSupplyDip => exact fun s h => portsOk_dip h

/-! ## The supply monitor (R166 to R175) -/

/-- A load period's timers within their limits (R173). -/
def LoadPeriod.ok (l : LoadPeriod) : Prop := l.endTimer ≤ 20 ∧ l.endTimer ≤ l.limitTimer ∧ l.limitTimer ≤ 60

/-- A monitor whose runs are 0, with its levels ordered and its load period within its limits, is in order. -/
theorem supplyOk_of_runs_zero {x : Supply} (levels : x.reserve < x.economy ∧ x.economy ≤ 7)
    (runs : x.reserveRun = 0 ∧ x.economyRun = 0 ∧ x.upgradeRun = 0) (load : ∀ l, x.load = some l → l.ok) : x.ok := by
  obtain ⟨reserve, economy, upgrade⟩ := runs
  exact ⟨levels, by omega, fun _ => upgrade, fun _ => economy, fun _ => ⟨reserve, economy⟩, load⟩

/-- The load period replaced by one within its limits. -/
theorem Supply.ok.withLoad {x : Supply} (h : x.ok) {o : Option LoadPeriod} (load : ∀ l, o = some l → l.ok) :
    Supply.ok { x with load := o } := by
  obtain ⟨levels, runs, normal, economy, reserve, -⟩ := h
  exact ⟨levels, runs, normal, economy, reserve, load⟩

theorem Supply.ok.unloaded {x : Supply} (h : x.ok) : Supply.ok { x with load := none } :=
  h.withLoad fun _ e => by cases e

theorem supplyOk_loadBegin (h : s.supply.ok) (f : NoFields) : (loadBegin f s).1.supply.ok := by
  have ended : (endLoadAtLimit s).supply.ok := by
    unfold endLoadAtLimit
    (repeat' split)
    · exact h
    · exact h.unloaded
    · exact h
  refine ended.withLoad fun l e => ?_
  obtain rfl := Option.some.inj e
  cases load : (endLoadAtLimit s).supply.load with
  | none => exact ⟨Nat.le_refl 20, show 20 ≤ 60 by decide, Nat.le_refl 60⟩
  | some o =>
    obtain ⟨-, -, limit⟩ := ended.load o load
    exact ⟨Nat.min_le_left _ _, Nat.min_le_right _ _, limit⟩

theorem supplyOk_supplyLevels (h : s.supply.ok) (f : SupplyLevelsBody) : (supplyLevels f s).1.supply.ok := by
  dsimp only [supplyLevels]
  split
  · exact h
  · rename_i valid
    refine supplyOk_of_runs_zero ?_ ⟨rfl, rfl, rfl⟩ h.load
    simp only [setSupply_supply]
    omega

theorem Supply.nextState_eq_none {x : Supply} (h : x.nextState = none) :
    x.reserveRun < 3 ∧ x.economyRun < 3 ∧ x.upgradeRun < 30 := by
  unfold Supply.nextState at h
  split at h
  · cases h
  · split at h
    · cases h
    · split at h
      · cases h
      · omega

/-- A sample moves each run that its state counts, and leaves the others at 0 (R170). -/
theorem Supply.sampled_zero (x : Supply) (c : SampleClass) :
    (x.state = .normal → (x.sampled c).upgradeRun = 0) ∧ (x.state = .economy → (x.sampled c).economyRun = 0) ∧
      (x.state = .reserve → (x.sampled c).reserveRun = 0 ∧ (x.sampled c).economyRun = 0) := by
  refine ⟨fun e => ?_, fun e => ?_, fun e => ⟨?_, ?_⟩⟩
  · simp [Supply.sampled, Supply.upgradeRunAfter, Supply.recoveryLevel, e]
  · simp [Supply.sampled, Supply.economyRunAfter, e]
  · simp [Supply.sampled, Supply.reserveRunAfter, e]
  · simp [Supply.sampled, Supply.economyRunAfter, e]

theorem changeSupply_supply (new : SupplyState) (l : DataLine) (s : State) :
    (changeSupply new l s).supply = { s.supply.runsCleared with state := new } := by
  unfold changeSupply
  dsimp only
  split <;> simp

/-- A sample that calls for no change leaves the runs below their limits; one that does clears them. -/
theorem supplyOk_sampleTaken (h : s.supply.ok) (millivolts : Nat) (l : DataLine) :
    (sampleTaken millivolts l s).supply.ok := by
  obtain ⟨levels, runs, normal, economy, reserve, load⟩ := h
  dsimp only [sampleTaken, applySample]
  (repeat' split)
  · rename_i same
    obtain ⟨reserveRun, economyRun, upgradeRun⟩ := Supply.nextState_eq_none same
    obtain ⟨normal, economy, reserve⟩ := s.supply.sampled_zero (classOf millivolts)
    exact ⟨levels, ⟨Nat.le_of_lt_succ reserveRun, Nat.le_of_lt_succ economyRun, Nat.le_of_lt_succ upgradeRun⟩,
      normal, economy, reserve, load⟩
  · rw [changeSupply_supply]
    exact supplyOk_of_runs_zero levels ⟨rfl, rfl, rfl⟩ load
  · exact ⟨levels, runs, normal, economy, reserve, load⟩

theorem supplyOk_loadTimedOut (h : s.supply.ok) : (loadTimedOut s).supply.ok := by
  unfold loadTimedOut
  (repeat' split)
  · exact h
  · exact h.unloaded
  · exact h

theorem supplyOk_resetPort (h : s.supply.ok) (p : Port) : (resetPort p s).supply.ok := by
  have kept : (releaseBatch p (releaseStaging p (resetSales p (setPort p (s.ports.get p).cleared s)))).supply.ok := by
    simpa using h
  cases p with
  | terminal => exact kept.unloaded
  | link => exact kept
  | service => exact kept

theorem supplyOk_portReset (h : s.supply.ok) (p : Port) (f : PortResetBody) : (portReset p f s).1.supply.ok := by
  unfold portReset
  (repeat' split)
  · exact h
  · exact supplyOk_resetPort h .terminal
  · exact supplyOk_resetPort h .link
  · exact h
  · exact h

theorem supplyOk_resetLineActive (h : s.supply.ok) (p : Port) : (resetLineActive p s).supply.ok := by
  unfold resetLineActive
  split
  · exact supplyOk_resetPort h p
  · exact h

theorem supplyOk_elapse (h : s.supply.ok) : (elapse s).supply.ok := by
  obtain ⟨levels, runs, normal, economy, reserve, load⟩ := h
  refine ⟨levels, runs, normal, economy, reserve, fun l hl => ?_⟩
  obtain ⟨o, ho, rfl⟩ := Option.map_eq_some_iff.mp hl
  obtain ⟨one, two, three⟩ := load o ho
  dsimp only
  omega

theorem supplyOk_secondElapses (h : s.supply.ok) : (secondElapses s).supply.ok :=
  secondElapses_keeps (P := fun t => t.supply.ok) (fun _ => h) (fun _ => supplyOk_elapse h)
    (fun _ _ _ h => h) (fun _ h => by simpa using h) (fun _ _ _ h => by simpa using h)

/-- A lost core domain keeps the levels; the monitor begins again in ECONOMY (R177). -/
theorem supplyOk_coreLost (h : s.supply.ok) : (coreLost s).supply.ok :=
  supplyOk_of_runs_zero h.levels ⟨rfl, rfl, rfl⟩ fun l e => by cases e

theorem supplyOk_dip (h : s.supply.ok) : (dip s).supply.ok := by
  unfold dip
  split
  · exact supplyOk_coreLost h
  · exact h

theorem supplyOk_warmStarted (h : s.supply.ok) (l : DataLine) : (warmStarted l s).supply.ok := by
  have lost : (coreLost { s with core := .up }).supply.ok := supplyOk_coreLost h
  refine warmStarted_keeps (P := fun t => t.supply.ok) ?_ (fun _ _ h => by simpa using h)
    (fun _ h => by simpa using h) (fun _ h => by simpa using h)
  simpa [warmBegun] using lost

theorem supplyOk_reset : State.reset.supply.ok :=
  supplyOk_of_runs_zero (by decide) (by decide) fun l e => by cases e

theorem ambient_supply : Ambient (fun s => s.supply.ok) where
  queue _ _ h := h
  port _ _ _ _ _ h := h
  silence _ _ _ h := h
  counted _ _ _ h := h
  drawn _ _ h := h
  cycled _ _ h := h
  frame _ _ _ h := by simpa using h

/-- Each command's own part keeps the supply monitor in order. -/
theorem keeps_supply (i : Instr) : (actOf i).Keeps (fun s => s.supply.ok) := by
  by_cases touched : ∀ b ∈ [Block.supply], b ∉ blocksOf i
  · refine keeps_of_untouched [.supply] (fun s t same h => ?_) touched
    have supply : t.supply = s.supply := same .supply (by simp)
    rwa [supply]
  · cases i <;> simp [blocksOf] at touched
    case loadBegin p b => exact keeps_onFields (fun f _ _ h => supplyOk_loadBegin h f) b
    case loadEnd p b => exact keeps_onFields (fun f _ _ h => Supply.ok.unloaded h) b
    case supplyLevels p b => exact keeps_onFields (fun f _ _ h => supplyOk_supplyLevels h f) b
    case portReset p b => exact keeps_onFields (fun f _ _ h => supplyOk_portReset h p f) b
    case portResetLineActive p => exact fun s _ h => supplyOk_resetLineActive h p
    case clockSecond => exact fun s h => supplyOk_secondElapses h
    case sample mv l => exact fun s _ h => supplyOk_sampleTaken h mv l
    case loadPeriodTimeout => exact fun s _ h => supplyOk_loadTimedOut h
    case coldStart => exact fun _ _ => supplyOk_reset
    case warmStart l => exact fun s h => supplyOk_warmStarted h l
    case coreSupplyDip => exact fun s h => supplyOk_dip h

/-- Settles O58: the monitor, and the counters with the sets, are invariants of their own blocks (`keeps_supply`,
`keeps_ports`). -/
theorem stepKeepsSupplyAndPortsOk : Obligations.StepKeepsSupplyAndPortsOk := by
  unfold Obligations.StepKeepsSupplyAndPortsOk
  exact fun s t supply ports e =>
    ⟨step_keeps ambient_supply keeps_supply supply e, step_keeps ambient_ports keeps_ports ports e⟩

end Sys2Proof.Machine
end

section
/-! PROOFS. The display bus controller and the panel records in order (O59). -/

namespace Sys2Proof.Machine

variable {s t : State} {up : Prop} {n : Nat} {b : DisplayBus}

/-! ## The controller's part and the compositor's -/

/-- The controller in order, with the interval in force `n`; the frame timer and the due start count while the core
domain is up. -/
structure DisplayBus.ok (up : Prop) (n : Nat) (b : DisplayBus) : Prop where
  mark : b.runMark = true ↔ b.state ≠ .stopped
  running : b.state = .running → b.position < b.list.length
  list : b.state = .idle ∨ b.state = .stopped ∨ b.state = .fault → b.list = []
  cause : b.cause.isSome = true ↔ b.state = .fault ∨ b.state = .recovering .manual
  stop : b.stopMark = true → b.state = .running ∨ ∃ k, b.state = .recovering k
  timer : up → (b.frameTimer.isSome = true ↔ b.pacing = .interval ∧ b.state ≠ .stopped ∧ n ≠ 0)
  due : up → b.state = .idle → b.pacing = .interval ∧ n = 0 → b.startDue = true
  settings : b.interval ≤ 60 ∧ b.countSetting ≤ 255 ∧ b.cycle ≤ 29

/-- The panel records and the sleep-after setting in order. -/
structure Compositor.ok (x : Compositor) : Prop where
  panels : ∀ i : Fin 8, x.panels[i].ok
  sleepAfter : 1 ≤ x.sleepAfter ∧ x.sleepAfter ≤ 60

/-- The controller of a state in order. -/
def State.controllerOk (s : State) : Prop := s.bus.ok (s.core = .up) s.intervalInForce

theorem inProgress_isSome_iff (running : s.bus.state = .running) :
    s.inProgress.isSome = true ↔ s.bus.position < s.bus.list.length := by
  simp [State.inProgress, running]

theorem backToBack_iff : s.backToBack = true ↔ s.bus.pacing = .interval ∧ s.intervalInForce = 0 :=
  decide_eq_true_iff

theorem busOk_iff : s.busOk ↔ s.controllerOk ∧ s.compositor.ok := by
  constructor
  · rintro ⟨mark, running, list, cause, stop, timer, due, settings, panels, sleepAfter⟩
    exact ⟨⟨mark, fun e => (inProgress_isSome_iff e).mp (running e), list, cause, stop, timer,
      fun up idle back => due up idle (backToBack_iff.mpr back), settings⟩, panels, sleepAfter⟩
  · rintro ⟨⟨mark, running, list, cause, stop, timer, due, settings⟩, panels, sleepAfter⟩
    exact ⟨mark, fun e => (inProgress_isSome_iff e).mpr (running e), list, cause, stop, timer,
      fun up idle back => due up idle (backToBack_iff.mp back), settings, panels, sleepAfter⟩

theorem State.controllerOk.of_same (h : s.controllerOk) (core : t.core = s.core) (bus : t.bus = s.bus)
    (supply : t.supply.state = s.supply.state) : t.controllerOk := by
  have interval : t.intervalInForce = s.intervalInForce := by simp only [State.intervalInForce, bus, supply]
  simpa only [State.controllerOk, core, bus, interval] using h

/-! ## A frame that runs -/

/-- A controller that may begin a frame or go on with one: outside STOPPED, with no fault and no stop to act on. -/
structure DisplayBus.frameOk (up : Prop) (n : Nat) (b : DisplayBus) : Prop where
  mark : b.runMark = true
  cause : b.cause = none
  stop : b.stopMark = false
  timer : up → (b.frameTimer.isSome = true ↔ b.pacing = .interval ∧ n ≠ 0)
  settings : b.interval ≤ 60 ∧ b.countSetting ≤ 255 ∧ b.cycle ≤ 29

theorem DisplayBus.ok.cause_eq_none (h : b.ok up n) (noFault : b.state ≠ .fault)
    (noManual : b.state ≠ .recovering .manual) : b.cause = none := by
  refine Decidable.byContradiction fun some => ?_
  rcases h.cause.mp (Option.isSome_iff_ne_none.mpr some) with e | e
  · exact noFault e
  · exact noManual e

/-- A controller in order that is not STOPPED, in FAULT or in a MANUAL recovery, with no stop mark, may run a frame. -/
theorem DisplayBus.ok.frameOk (h : b.ok up n) (running : b.state ≠ .stopped) (noFault : b.state ≠ .fault)
    (noManual : b.state ≠ .recovering .manual) (stop : b.stopMark = false) : b.frameOk up n where
  mark := h.mark.mpr running
  cause := h.cause_eq_none noFault noManual
  stop := stop
  timer u := (h.timer u).trans ⟨fun ⟨pacing, _, interval⟩ => ⟨pacing, interval⟩,
    fun ⟨pacing, interval⟩ => ⟨pacing, running, interval⟩⟩
  settings := h.settings

theorem DisplayBus.ok.stop_eq_false (h : b.ok up n) (notRunning : b.state ≠ .running)
    (notRecovering : ∀ k, b.state ≠ .recovering k) : b.stopMark = false := by
  refine Decidable.byContradiction fun mark => ?_
  rcases h.stop (by simpa using mark) with e | ⟨k, e⟩
  · exact notRunning e
  · exact notRecovering k e

theorem DisplayBus.ok.frameOk_of_idle (h : b.ok up n) (idle : b.state = .idle) : b.frameOk up n :=
  h.frameOk (by simp [idle]) (by simp [idle]) (by simp [idle])
    (h.stop_eq_false (by simp [idle]) (by simp [idle]))

/-- STOPPED is in order, whatever stood before. -/
theorem controllerOk_stopDisplay (settings : s.bus.interval ≤ 60 ∧ s.bus.countSetting ≤ 255 ∧ s.bus.cycle ≤ 29) :
    (stopDisplay s).controllerOk := by
  constructor <;> simp [stopDisplay, settings]

/-- A controller to run a frame is in order in IDLE. -/
theorem controllerOk_enterIdle (h : s.bus.frameOk (s.core = .up) s.intervalInForce) : (enterIdle s).controllerOk := by
  obtain ⟨mark, cause, stop, timer, settings⟩ := h
  constructor <;> simp [enterIdle, mark, stop, settings]
  · simpa [State.intervalInForce] using timer
  · exact fun _ pacing zero => backToBack_iff.mpr ⟨pacing, zero⟩

theorem controllerOk_enterFault (c : FaultCause) (h : s.bus.frameOk (s.core = .up) s.intervalInForce) :
    (enterFault c s).controllerOk := by
  obtain ⟨mark, -, -, timer, settings⟩ := h
  constructor <;> simp [enterFault, mark, settings]
  simpa [State.intervalInForce] using timer

theorem controllerOk_completeFrame (h : s.bus.frameOk (s.core = .up) s.intervalInForce) :
    (completeFrame s).controllerOk := by
  unfold completeFrame
  dsimp only
  split
  · exact controllerOk_enterIdle h
  · split
    · refine State.controllerOk.of_same (controllerOk_stopDisplay (s := setBus _ _) ?_) rfl rfl rfl
      exact h.settings
    · refine controllerOk_enterIdle ?_
      exact ⟨h.mark, h.cause, h.stop, h.timer, h.settings⟩

theorem controllerOk_startNext (l : DataLine) (h : s.bus.frameOk (s.core = .up) s.intervalInForce) :
    (startNext l s).controllerOk := by
  dsimp only [startNext, stuckData]
  split
  · exact controllerOk_completeFrame h
  · rename_i more
    obtain ⟨mark, cause, stop, timer, settings⟩ := h
    split
    · constructor <;> simp [mark, cause, stop, settings]
      · exact Nat.not_le.mp more
      · simpa [State.intervalInForce] using timer
    · split
      · constructor <;> simp [mark, cause, stop, settings]
        simpa [State.intervalInForce] using timer
      · exact controllerOk_enterFault _ ⟨mark, cause, stop, timer, settings⟩

/-- A frame begun by a controller that may run one leaves it in order. -/
theorem controllerOk_beginFrame (l : DataLine) (h : s.bus.frameOk (s.core = .up) s.intervalInForce) :
    (beginFrame l s).controllerOk := by
  refine controllerOk_startNext l ?_
  obtain ⟨mark, cause, stop, timer, interval, count, cycle⟩ := h
  refine ⟨mark, cause, stop, timer, interval, count, ?_⟩
  show (if s.routineFrame = true then 0 else s.bus.cycle + 1) ≤ 29
  split
  · exact Nat.zero_le _
  · rename_i early
    simp only [State.routineFrame, decide_eq_true_eq] at early
    omega

theorem State.controllerOk.beginFrame (h : s.controllerOk) (l : DataLine) (idle : s.bus.state = .idle) :
    (beginFrame l s).controllerOk :=
  controllerOk_beginFrame l (DisplayBus.ok.frameOk_of_idle h idle)

theorem State.controllerOk.frameStart (h : s.controllerOk) (l : DataLine) : (frameStart l s).controllerOk := by
  unfold Machine.frameStart
  split
  · exact h.beginFrame l ‹_›
  · exact h.of_same rfl rfl rfl
  · exact h.of_same rfl rfl rfl
  · exact h
  · exact h
  · exact h

/-! ## Pacing (R147 to R150) -/

/-- The frame timer follows a change of the interval in force from `old` (R148). -/
theorem controllerOk_intervalChanged {old : Nat} (l : DataLine)
    (h : s.bus.ok (s.core = .up) old) : (intervalChanged old l s).controllerOk := by
  obtain ⟨mark, running, list, cause, stop, timer, due, settings⟩ := id h
  have same : (s.bus.pacing = .interval ∧ s.bus.state ≠ .stopped → (old = 0 ↔ s.intervalInForce = 0)) →
      s.controllerOk := by
    intro agree
    refine ⟨mark, running, list, cause, stop, fun u => ?_, fun u idle => ?_, settings⟩
    · rw [timer u]
      constructor
      · exact fun ⟨pacing, outside, nonzero⟩ => ⟨pacing, outside, (not_congr (agree ⟨pacing, outside⟩)).mp nonzero⟩
      · exact fun ⟨pacing, outside, nonzero⟩ => ⟨pacing, outside, (not_congr (agree ⟨pacing, outside⟩)).mpr nonzero⟩
    · exact fun ⟨pacing, zero⟩ => due u idle ⟨pacing, (agree ⟨pacing, by simp [idle]⟩).mpr zero⟩
  dsimp only [intervalChanged]
  split
  · rename_i runs
    split
    · rename_i started
      obtain ⟨-, nonzero⟩ := started
      constructor <;> simp only [setBus_bus]
      · exact mark
      · exact running
      · exact list
      · exact cause
      · exact stop
      · exact fun _ => ⟨fun _ => ⟨runs.1, runs.2, nonzero⟩, fun _ => rfl⟩
      · exact fun _ _ ⟨_, zero⟩ => absurd zero nonzero
      · exact settings
    · split
      · rename_i stopped
        obtain ⟨-, zero⟩ := stopped
        split
        · rename_i idle
          obtain ⟨mark, cause, stop, -, settings⟩ := h.frameOk_of_idle idle
          refine controllerOk_beginFrame l ⟨mark, cause, stop, fun _ => ?_, settings⟩
          exact ⟨(fun some => by cases some), (fun ⟨_, nonzero⟩ => absurd zero nonzero)⟩
        · rename_i notIdle
          constructor <;> simp only [setBus_bus]
          · exact mark
          · exact running
          · exact list
          · exact cause
          · exact stop
          · exact fun _ => ⟨(fun some => by cases some), (fun ⟨_, _, nonzero⟩ => absurd zero nonzero)⟩
          · exact fun _ idle => absurd idle notIdle
          · exact settings
      · refine same fun _ => ?_
        omega
  · rename_i still
    exact same fun runs => absurd runs still

/-- A change from TRIGGER to INTERVAL pacing starts the frame timer or, at interval 0, frames back to back (R147). -/
theorem controllerOk_intervalPacingTaken {m : Nat} (l : DataLine) (up : s.core = .up)
    (h : DisplayBus.ok (s.core = .up) m { s.bus with pacing := .trigger }) (pacing : s.bus.pacing = .interval) :
    (intervalPacingTaken l s).controllerOk := by
  obtain ⟨mark, running, list, cause, stop, timer, -, settings⟩ := id h
  have still : s.bus.frameTimer = none := by
    simpa using (not_congr (timer up)).mpr fun ⟨trigger, _⟩ => by cases trigger
  unfold intervalPacingTaken
  split
  · rename_i stopped
    refine ⟨mark, running, list, cause, stop, fun _ => ?_, fun _ idle => ?_, settings⟩
    · simp [still, stopped]
    · simp [stopped] at idle
  · rename_i outside
    split
    · rename_i zero
      split
      · rename_i idle
        obtain ⟨mark, cause, stop, -, settings⟩ := DisplayBus.ok.frameOk_of_idle h idle
        exact controllerOk_beginFrame l ⟨mark, cause, stop, fun _ => by simp [still, zero], settings⟩
      · rename_i notIdle
        exact ⟨mark, running, list, cause, stop, fun _ => by simp [still, zero],
          fun _ idle => absurd idle notIdle, settings⟩
    · rename_i nonzero
      constructor <;> simp only [setBus_bus]
      · exact mark
      · exact running
      · exact list
      · exact cause
      · exact stop
      · exact fun _ => ⟨fun _ => ⟨pacing, outside, nonzero⟩, fun _ => rfl⟩
      · exact fun _ _ ⟨_, zero⟩ => absurd zero nonzero
      · exact settings

theorem controllerOk_startFrames (l : DataLine) (mark : s.bus.runMark = true) (cause : s.bus.cause = none)
    (stop : s.bus.stopMark = false) (timer : s.bus.frameTimer = none) (idle : s.bus.state = .idle) 
    (list : s.bus.list = [])
    (settings : s.bus.interval ≤ 60 ∧ s.bus.countSetting ≤ 255 ∧ s.bus.cycle ≤ 29) :
    (startFrames l s).controllerOk := by
  unfold startFrames
  split
  · rename_i pacing
    constructor <;> simp [mark, cause, stop, timer, idle, list, settings, pacing]
  · rename_i pacing
    split
    · rename_i zero
      exact controllerOk_beginFrame l ⟨mark, cause, stop, fun _ => by simp [timer, zero], settings⟩
    · rename_i nonzero
      exact controllerOk_beginFrame l ⟨mark, cause, stop,
        fun _ => by simpa [pacing, State.intervalInForce] using nonzero, settings⟩

/-- The parts of a controller that its order is about, but for its interval's length, its frame timer's rest and
its settings. -/
theorem State.controllerOk.setBus (h : s.controllerOk) {x : DisplayBus}
    (kept : x.runMark = s.bus.runMark ∧ x.state = s.bus.state ∧ x.position = s.bus.position ∧ x.list = s.bus.list ∧
      x.cause = s.bus.cause ∧ x.stopMark = s.bus.stopMark ∧ x.pacing = s.bus.pacing ∧ x.startDue = s.bus.startDue)
    (timer : x.frameTimer.isSome = s.bus.frameTimer.isSome) (interval : x.interval = s.bus.interval)
    (settings : x.countSetting ≤ 255 ∧ x.cycle ≤ 29) : (setBus x s).controllerOk := by
  obtain ⟨runMark, state, position, list, cause, stopMark, pacing, startDue⟩ := kept
  have same : (Machine.setBus x s).intervalInForce = s.intervalInForce := by
    simp [State.intervalInForce, interval]
  obtain ⟨mark, running, empty, faulty, stop, timing, due, set⟩ := h
  constructor <;> simp only [setBus_bus, setBus_core, same, runMark, state, position, list, cause, stopMark, pacing,
    startDue, timer, interval]
  · exact mark
  · exact running
  · exact empty
  · exact faulty
  · exact stop
  · exact timing
  · exact due
  · exact ⟨set.1, settings⟩

theorem State.controllerOk.setStop (h : s.controllerOk) (m : Bool)
    (acts : m = true → s.bus.state = .running ∨ ∃ k, s.bus.state = .recovering k) :
    (Machine.setBus { s.bus with stopMark := m } s).controllerOk := by
  obtain ⟨mark, running, list, cause, -, timer, due, settings⟩ := h
  exact ⟨mark, running, list, cause, acts, timer, due, settings⟩

theorem controllerOk_displayStart (l : DataLine) (h : s.controllerOk) (up : s.core = .up) 
    (settled : ∀ t : State, t.controllerOk → (settleAt l t).controllerOk) : (displayStart l s).1.controllerOk := by
  obtain ⟨mark, running, list, cause, stop, timer, due, settings⟩ := id h
  dsimp only [displayStart, displayAnswer]
  split
  · rename_i stopped
    have still : s.bus.frameTimer = none := by simpa [stopped] using timer up
    have fine : s.bus.cause = none := h.cause_eq_none (by simp [stopped]) (by simp [stopped])
    have unmarked : s.bus.stopMark = false := h.stop_eq_false (by simp [stopped]) (by simp [stopped])
    refine settled _ (controllerOk_startFrames l rfl ?_ ?_ ?_ rfl ?_ ?_)
    · exact fine
    · exact unmarked
    · exact still
    · exact list (.inr (.inl stopped))
    · exact settings
  · exact h.setStop false (fun e => by cases e)
  · exact h.setStop false (fun e => by cases e)
  · exact h
  · exact h

theorem controllerOk_displayStop (h : s.controllerOk) : (displayStop s).1.controllerOk := by
  have stopped : (stopDisplay s).controllerOk := controllerOk_stopDisplay h.settings
  dsimp only [displayStop, displayAnswer]
  split
  · exact stopped
  · exact stopped
  · split
    · exact h.setStop true fun _ => .inl ‹_›
    · exact stopped
  · exact h.setStop true fun _ => .inr ⟨_, ‹_›⟩
  · exact h

theorem controllerOk_displayRecover (p : Port) (l : ClockLine) (h : s.controllerOk) :
    (displayRecover p l s).1.controllerOk := by
  dsimp only [displayRecover, displayAnswer]
  (repeat' split)
  · exact h
  · exact h
  · rename_i fault _
    obtain ⟨mark, running, list, cause, stop, timer, due, settings⟩ := h
    have recovering : (setBus { s.bus with state := .recovering .manual } s).controllerOk := by
      constructor <;> simp only [setBus_bus]
      · simpa [fault] using mark
      · exact fun e => by cases e
      · exact fun e => by simp at e
      · simpa [fault] using cause
      · exact fun _ => .inr ⟨_, rfl⟩
      · simpa [fault, State.intervalInForce] using timer
      · exact fun _ e => by cases e
      · exact settings
    exact recovering.of_same rfl rfl rfl
  · exact h

theorem controllerOk_displayPacing (f : DisplayPacingBody) (l : DataLine) (h : s.controllerOk) (up : s.core = .up)
    (settled : ∀ t : State, t.controllerOk → (settleAt l t).controllerOk) : (displayPacing f l s).1.controllerOk := by
  obtain ⟨mark, running, list, cause, stop, timer, due, -, count, cycle⟩ := id h
  have short : min f.interval.toNat 60 ≤ 60 := Nat.min_le_right _ _
  dsimp only [displayPacing, displayAnswer]
  cases polarityOf f.polarity with
  | none => cases pacingOf f.pacing <;> exact h
  | some polarity =>
    cases pacingOf f.pacing with
    | none => exact h
    | some taken =>
      cases held : s.bus.pacing <;> cases taken
      case interval.interval =>
        refine settled _ (controllerOk_intervalChanged l ?_)
        refine ⟨mark, running, list, cause, stop, fun u => ?_, fun u idle e => ?_, short, count, cycle⟩
        · simpa [held] using timer u
        · exact due u idle ⟨held, e.2⟩
      case interval.trigger =>
        constructor <;> simp only [setBus_bus]
        · exact mark
        · exact running
        · exact list
        · exact cause
        · exact stop
        · exact fun _ => by simp
        · exact fun _ _ e => by simp at e
        · exact ⟨short, count, cycle⟩
      case trigger.interval =>
        refine settled _ (controllerOk_intervalPacingTaken (m := s.intervalInForce) l up ?_ rfl)
        refine ⟨mark, running, list, cause, stop, fun u => ?_, (fun _ _ e => by cases e.1), short, count, cycle⟩
        simpa [held] using timer u
      case trigger.trigger =>
        refine ⟨mark, running, list, cause, stop, fun u => ?_, (fun _ _ e => by cases e.1), short, count, cycle⟩
        simpa [held] using timer u

theorem controllerOk_displayFrameCount (p : Port) (f : FrameCountBody) (h : s.controllerOk) :
    (displayFrameCount p f s).1.controllerOk := by
  unfold displayFrameCount displayAnswer
  split
  · exact h
  · exact h.setBus (by simp) rfl rfl ⟨Nat.le_of_lt_succ f.count.isLt, h.settings.2.2⟩

theorem controllerOk_displayAutoRecovery (b : Body AutoRecoveryBody) (h : s.controllerOk) :
    (displayAutoRecovery b s).1.controllerOk := by
  unfold displayAutoRecovery displayAnswer
  (repeat' split)
  · exact h
  · exact h
  · exact h.setBus (by simp) rfl rfl h.settings.2

/-! ## Timers, edges, the ends of transactions and recoveries -/

theorem controllerOk_frameTimerExpired (l : DataLine) (h : s.controllerOk) : (frameTimerExpired l s).controllerOk := by
  unfold frameTimerExpired
  split
  · rename_i due
    have restarted := h.setBus (x := { s.bus with frameTimer := some s.intervalInForce }) (by simp) (by simp [due])
      rfl h.settings.2
    exact restarted.frameStart l
  · exact h

theorem controllerOk_probeTimerExpired (i : Fin 8) (h : s.controllerOk) : (probeTimerExpired i s).controllerOk := by
  unfold probeTimerExpired
  split
  · exact h.setBus (by simp) rfl rfl h.settings.2
  · exact h

theorem controllerOk_triggerEdge (high : Bool) (l : DataLine) (h : s.controllerOk) :
    (triggerEdge high l s).controllerOk := by
  have taken : (setBus { s.bus with triggerHigh := high } s).controllerOk :=
    h.setBus (by simp) rfl rfl h.settings.2
  have passed : (setBus { s.bus with triggerHigh := high, firstEdge := false } s).controllerOk :=
    h.setBus (by simp) rfl rfl h.settings.2
  dsimp only [triggerEdge]
  (repeat' split)
  · exact passed.frameStart l
  · exact passed
  · exact taken
  · exact h

theorem controllerOk_triggerFirst (high : Bool) (h : s.controllerOk) : (triggerFirst high s).controllerOk := by
  unfold triggerFirst
  split
  · exact h
  · exact h.setBus (by simp) rfl rfl h.settings.2

theorem state_running_of_inProgress {x : Transaction} (h : s.inProgress = some x) : s.bus.state = .running := by
  refine Decidable.byContradiction fun idle => ?_
  simp [State.inProgress, idle] at h

theorem controllerOk_afterTransaction (l : DataLine) (h : s.controllerOk) (running : s.bus.state = .running) :
    (afterTransaction l s).controllerOk := by
  unfold afterTransaction
  split
  · exact controllerOk_stopDisplay h.settings
  · rename_i goesOn
    obtain ⟨mark, cause, stop, timer, settings⟩ := DisplayBus.ok.frameOk h (by simp [running]) (by simp [running])
      (by simp [running]) (by simpa using goesOn)
    exact controllerOk_startNext l ⟨mark, cause, stop, timer, settings⟩

theorem reportOutcome_controllerOk (x : Transaction) (o : OutcomeReport) (h : s.controllerOk) :
    (reportOutcome x o s).controllerOk :=
  h.of_same (by simp) (by simp) (by simp)

theorem controllerOk_transactionEnded (e : TransactionEnd) (l : DataLine) (h : s.controllerOk) :
    (transactionEnded e l s).controllerOk := by
  unfold transactionEnded
  split
  · exact h
  · rename_i x inProgress
    have running := state_running_of_inProgress inProgress
    split
    · exact controllerOk_afterTransaction l (reportOutcome_controllerOk x _ h) (by simpa using running)
    · have reported := reportOutcome_controllerOk x .noAck h
      exact controllerOk_afterTransaction l (reported.setBus (by simp) rfl rfl reported.settings.2)
        (by simpa [restartProbe] using running)

theorem controllerOk_busDisturbed (l : DataLine) (h : s.controllerOk) : (busDisturbed l s).controllerOk := by
  unfold busDisturbed
  split
  · exact h
  · rename_i x inProgress
    exact controllerOk_afterTransaction l (reportOutcome_controllerOk x _ h)
      (by simpa using state_running_of_inProgress inProgress)

/-- FAULT from a controller in order outside STOPPED. -/
theorem State.controllerOk.enterFault (h : s.controllerOk) (c : FaultCause) (outside : s.bus.state ≠ .stopped) :
    (enterFault c s).controllerOk := by
  obtain ⟨mark, -, -, -, -, timer, -, settings⟩ := h
  have run := mark.mpr outside
  constructor <;> simp [Machine.enterFault, run, settings]
  simpa [State.intervalInForce, outside] using timer

theorem controllerOk_stuckClock (h : s.controllerOk) : (stuckClock s).controllerOk := by
  unfold stuckClock
  split
  · exact h.enterFault _ (by simp [*])
  · exact h.enterFault _ (by simp [*])
  · exact h
  · exact h
  · exact h

theorem controllerOk_recoveryEndedAuto (r : RecoveryResult) (l : DataLine) (h : s.controllerOk) :
    (recoveryEndedAuto r l s).controllerOk := by
  unfold recoveryEndedAuto
  split
  · rename_i recovering
    split
    · exact h.enterFault _ (by simp [recovering])
    · split
      · exact controllerOk_stopDisplay h.settings
      · rename_i goesOn
        exact controllerOk_startNext l (DisplayBus.ok.frameOk h (by simp [recovering]) (by simp [recovering])
          (by simp [recovering]) (by simpa using goesOn))
  · exact h

/-- A MANUAL recovery that ends goes to IDLE, where its cause is dropped (R161; log 23). -/
theorem controllerOk_recoveryEndedManual (r : RecoveryResult) (h : s.controllerOk) :
    (recoveryEndedManual r s).controllerOk := by
  unfold recoveryEndedManual
  split
  · rename_i recovering
    split
    · exact h.enterFault _ (by simp [recovering])
    · split
      · exact controllerOk_stopDisplay h.settings
      · rename_i goesOn
        obtain ⟨mark, -, -, -, -, timer, -, settings⟩ := h
        have run := mark.mpr (by simp [recovering])
        constructor <;> simp [enterIdle, run, goesOn, settings]
        · simpa [State.intervalInForce, recovering] using timer
        · exact fun _ pacing zero => backToBack_iff.mpr ⟨pacing, zero⟩
  · exact h

theorem controllerOk_sampleTaken (millivolts : Nat) (l : DataLine) (h : s.controllerOk) :
    (sampleTaken millivolts l s).controllerOk := by
  dsimp only [sampleTaken, applySample]
  (repeat' split)
  · exact h.of_same rfl rfl rfl
  · have sampled : (setSupply (s.supply.sampled (classOf millivolts)) s).controllerOk := h.of_same rfl rfl rfl
    dsimp only [changeSupply]
    refine controllerOk_intervalChanged l ?_
    split <;> simpa [State.controllerOk] using sampled
  · exact h

/-! ## Elapsed time and starts -/

theorem controllerOk_elapse (h : s.controllerOk) : (elapse s).controllerOk := by
  have counted : (setBus s.bus.elapse s).controllerOk :=
    h.setBus (by simp [DisplayBus.elapse]) (by simp [DisplayBus.elapse, tickTimer]) rfl h.settings.2
  exact counted.of_same rfl rfl rfl

theorem controllerOk_secondElapses (h : s.controllerOk) : (secondElapses s).controllerOk :=
  secondElapses_keeps (P := State.controllerOk) (fun _ => h.of_same rfl rfl rfl) (fun _ => controllerOk_elapse h)
    (fun _ _ _ h => h.of_same rfl rfl rfl) (fun _ h => h.of_same (by simp) (by simp) (by simp))
    (fun _ _ _ h => h.of_same (by simp) (by simp) (by simp))

/-- The controller after its core domain is lost (R165): in order while that domain is down, and with the run mark
clear also when it begins again. -/
theorem lost_ok (settings : b.interval ≤ 60 ∧ b.countSetting ≤ 255) (resting : up → b.runMark = false) :
    b.lost.ok up n := by
  cases run : b.runMark with
  | true =>
    have down : ¬ up := by simpa [run] using resting
    constructor <;> simp [DisplayBus.lost, run, settings, down]
  | false =>
    constructor <;> simp [DisplayBus.lost, run, settings]

theorem controllerOk_dip (h : s.controllerOk) : (dip s).controllerOk := by
  unfold dip
  split
  · exact lost_ok ⟨h.settings.1, h.settings.2.1⟩ fun up => by cases up
  · exact h

theorem warmRestart_bus (s : State) : (startTick (startBoundary (warmBegun s))).bus = s.bus.lost := by
  have begun : (warmBegun s).bus = s.bus.lost := by
    simp [warmBegun, coreLost, startIdle]
  simpa using begun

/-- Frames resume with the run mark set (R165). -/
theorem controllerOk_warmStarted (h : s.controllerOk) (l : DataLine) : (warmStarted l s).controllerOk := by
  have bus := warmRestart_bus s
  obtain ⟨interval, count, -⟩ := h.settings
  rw [warmStarted_eq]
  unfold resumeFrames
  split
  · rename_i run
    rw [bus] at run
    refine controllerOk_startFrames l ?_ ?_ ?_ ?_ ?_ ?_ ?_ <;> rw [bus]
    · exact run
    · rfl
    · rfl
    · rfl
    · exact if_pos run
    · rfl
    · exact ⟨interval, count, Nat.zero_le _⟩
  · rename_i still
    unfold State.controllerOk
    rw [bus] at still ⊢
    exact lost_ok ⟨interval, count⟩ fun _ => by simpa [DisplayBus.lost] using still

theorem controllerOk_reset : State.reset.controllerOk := by
  constructor <;> simp [State.reset]

theorem controllerOk_frame (l : DataLine) (h : s.controllerOk) (due : s.frameDue = true) :
    (beginFrame l s).controllerOk := by
  simp only [State.frameDue, Bool.and_eq_true, decide_eq_true_eq] at due
  exact h.beginFrame l due.1.2

theorem ambient_controller : Ambient State.controllerOk where
  queue _ _ h := h.of_same rfl rfl rfl
  port _ _ _ _ _ h := h.of_same rfl rfl rfl
  silence _ _ _ h := h.of_same rfl rfl rfl
  counted _ _ _ h := h.of_same rfl rfl rfl
  drawn _ _ h := h.of_same rfl rfl rfl
  cycled _ _ h := h.setBus (by simp) rfl rfl ⟨h.settings.2.1, Nat.le_of_lt_succ (Nat.mod_lt _ (by decide))⟩
  frame l _ due h := controllerOk_frame l h due

theorem controllerOk_loadBegin (f : NoFields) (h : s.controllerOk) : (loadBegin f s).1.controllerOk := by
  have ended : (endLoadAtLimit s).controllerOk := by
    unfold endLoadAtLimit
    (repeat' split) <;> exact h
  exact ended.of_same rfl rfl rfl

theorem controllerOk_supplyLevels (f : SupplyLevelsBody) (h : s.controllerOk) :
    (supplyLevels f s).1.controllerOk := by
  dsimp only [supplyLevels]
  split
  · exact h
  · exact h.of_same rfl rfl rfl

theorem controllerOk_loadTimedOut (h : s.controllerOk) : (loadTimedOut s).controllerOk := by
  unfold loadTimedOut
  (repeat' split) <;> exact h

theorem controllerOk_resetPort (p : Port) (h : s.controllerOk) : (resetPort p s).controllerOk := by
  have released : (releaseBatch p (releaseStaging p (resetSales p (setPort p (s.ports.get p).cleared s)))).controllerOk :=
    h.of_same (by simp) (by simp) (by simp)
  cases p <;> exact released.of_same rfl rfl rfl

theorem controllerOk_portReset (p : Port) (f : PortResetBody) (h : s.controllerOk) :
    (portReset p f s).1.controllerOk := by
  unfold portReset
  (repeat' split)
  · exact h
  · exact controllerOk_resetPort .terminal h
  · exact controllerOk_resetPort .link h
  · exact h
  · exact h

theorem controllerOk_resetLineActive (p : Port) (h : s.controllerOk) : (resetLineActive p s).controllerOk := by
  unfold resetLineActive
  split
  · exact (controllerOk_resetPort p h).of_same rfl rfl rfl
  · exact h

/-- Each command's own part keeps the controller in order. -/
theorem keeps_controller (i : Instr) : (actOf i).Keeps State.controllerOk := by
  by_cases touched : ∀ b ∈ [Block.core, Block.bus, Block.supply], b ∉ blocksOf i
  · refine keeps_of_untouched [.core, .bus, .supply] (fun s t same h => ?_) touched
    have supply : t.supply = s.supply := same .supply (by simp)
    exact h.of_same (same .core (by simp)) (same .bus (by simp)) (by rw [supply])
  · cases i <;> simp [blocksOf] at touched
    case loadBegin p b => exact keeps_onFields (fun f s _ h => controllerOk_loadBegin f h) b
    case loadEnd p b => exact keeps_onFields (fun f _ _ h => h.of_same rfl rfl rfl) b
    case supplyLevels p b => exact keeps_onFields (fun f s _ h => controllerOk_supplyLevels f h) b
    case portReset p b => exact keeps_onFields (fun f s _ h => controllerOk_portReset p f h) b
    case displayStart p l => exact fun s up h => controllerOk_displayStart l h up fun t => ambient_controller.settleAt l
    case displayStop p => exact fun s _ h => controllerOk_displayStop h
    case displayRecover p l => exact fun s _ h => controllerOk_displayRecover p l h
    case displayPacing p f l => exact fun s up h =>
      controllerOk_displayPacing f l h up fun t => ambient_controller.settleAt l
    case displayFrameCount p f => exact fun s _ h => controllerOk_displayFrameCount p f h
    case displayAutoRecovery p b => exact fun s _ h => controllerOk_displayAutoRecovery b h
    case portResetLineActive p => exact fun s _ h => controllerOk_resetLineActive p h
    case clockSecond => exact fun s h => controllerOk_secondElapses h
    case frameTimerExpiry l => exact fun s _ h => controllerOk_frameTimerExpired l h
    case probeTimerExpiry i => exact fun s _ h => controllerOk_probeTimerExpired i h
    case sample mv l => exact fun s _ h => controllerOk_sampleTaken mv l h
    case loadPeriodTimeout => exact fun s _ h => controllerOk_loadTimedOut h
    case triggerEdge high l => exact fun s _ h => controllerOk_triggerEdge high l h
    case triggerFirstAcceptance high => exact fun s _ h => controllerOk_triggerFirst high h
    case transactionEnd e l => exact fun s _ h => controllerOk_transactionEnded e l h
    case busDisturbed l => exact fun s _ h => controllerOk_busDisturbed l h
    case stuckClock => exact fun s _ h => controllerOk_stuckClock h
    case recoveryEndAuto r l => exact fun s _ h => controllerOk_recoveryEndedAuto r l h
    case recoveryEndManual r l => exact fun s _ h => controllerOk_recoveryEndedManual r h
    case coldStart => exact fun s _ => controllerOk_reset.of_same rfl rfl rfl
    case warmStart l => exact fun s h => controllerOk_warmStarted h l
    case coreSupplyDip => exact fun s h => controllerOk_dip h

/-! ## The panel records (R124, R125, R134 to R142) -/

theorem Compositor.ok.of_panels {x y : Compositor} (h : x.ok) (panels : ∀ i : Fin 8, y.panels[i].ok)
    (sleepAfter : y.sleepAfter = x.sleepAfter) : y.ok :=
  ⟨panels, by rw [sleepAfter]; exact h.sleepAfter⟩

theorem Compositor.ok.of_same {x y : Compositor} (h : x.ok) (panels : y.panels = x.panels)
    (sleepAfter : y.sleepAfter = x.sleepAfter) : y.ok :=
  h.of_panels (fun i => by rw [panels]; exact h.panels i) sleepAfter

theorem compositorOk_setPanel (h : s.compositor.ok) (i : Fin 8) {r : Panel} (ok : r.ok) :
    (setPanel i r s).compositor.ok := by
  refine h.of_panels (fun j => ?_) rfl
  simp only [setPanel_compositor, Fin.getElem_fin, Vector.getElem_set]
  split
  · exact ok
  · exact h.panels j

/-- Every panel changed, each staying in order. -/
theorem Compositor.ok.mapPanels {x : Compositor} (h : x.ok) {f : Panel → Panel} (keeps : ∀ r, Panel.ok r → (f r).ok) 
    (i : Fin 8) : (mapPanels f x.panels)[i].ok := by
  simp only [Machine.mapPanels, Fin.getElem_fin, Vector.getElem_ofFn]
  exact keeps _ (h.panels i)

/-- The same configuration, rows and brightness, with a command or a state for a panel that is configured. -/
theorem Panel.ok.groupSleep {r : Panel} (h : r.ok) : r.groupSleep.ok := by
  obtain ⟨state, rows, brightness, misses, idle⟩ := h
  unfold Panel.groupSleep
  split
  · rename_i e
    exact ⟨state, rows, brightness, misses, fun u => by simp [e] at u⟩
  · rename_i e
    exact ⟨state, rows, brightness, misses, fun u => by simp [e] at u⟩
  · exact ⟨state, rows, brightness, misses, idle⟩
  · exact ⟨state, rows, brightness, misses, idle⟩

theorem Panel.ok.groupWake {r : Panel} (h : r.ok) : r.groupWake.ok := by
  obtain ⟨state, rows, brightness, misses, idle⟩ := h
  unfold Panel.groupWake
  split
  · rename_i e
    exact ⟨state, rows, brightness, misses, fun u => by simp [e] at u⟩
  · rename_i e
    exact ⟨state, rows, brightness, misses, fun u => by simp [e] at u⟩
  · exact ⟨state, rows, brightness, misses, idle⟩
  · exact ⟨state, rows, brightness, misses, idle⟩

theorem Panel.ok.warm {r : Panel} (h : r.ok) : r.warm.ok := by
  obtain ⟨state, rows, brightness, -, -⟩ := h
  unfold Panel.warm
  split
  · rename_i configured
    exact ⟨by simp [configured], rows, brightness, Nat.zero_le _, fun e => by cases e⟩
  · rename_i unconfigured
    exact ⟨by simpa using unconfigured, rows, brightness, Nat.zero_le _, fun _ => ⟨rfl, rfl⟩⟩

theorem Panel.ok.formed {r q : Panel} (h : r.ok) {f : PanelConfigBody} {g : GroupState} (e : r.formed f g = some q) :
    q.ok := by
  unfold Panel.formed at e
  (repeat' split at e) <;> cases e
  · obtain ⟨state, rows, brightness, misses, idle⟩ := h
    unfold Panel.unconfigured
    split
    · exact ⟨by simp, rows, brightness, Nat.zero_le _, fun _ => ⟨rfl, rfl⟩⟩
    · exact ⟨state, rows, brightness, misses, idle⟩
  · rename_i inside
    obtain ⟨state, rows, brightness, misses, idle⟩ := h
    have low : min f.brightness.toNat 7 ≤ 7 := Nat.min_le_right _ _
    unfold Panel.configuredWith
    split
    · exact ⟨state, inside, low, misses, idle⟩
    · exact ⟨by simp, inside, low, Nat.zero_le _, fun e => by cases e⟩

theorem compositorOk_groupSleep (h : s.compositor.ok) : (groupSleep s).compositor.ok :=
  h.of_panels (h.mapPanels fun _ ok => ok.groupSleep) rfl

theorem compositorOk_groupWake (h : s.compositor.ok) : (groupWake s).compositor.ok :=
  h.of_panels (h.mapPanels fun _ ok => ok.groupWake) rfl

theorem compositorOk_minuteTick (h : s.compositor.ok) : (minuteTick s).compositor.ok := by
  have before : (eveningTest (flagCalls (lapseCalls s))).compositor.ok := by simpa [flagCalls] using h
  unfold minuteTick horizonTest
  (repeat' split)
  · exact compositorOk_groupWake before
  · exact before
  · exact compositorOk_groupSleep before
  · exact before

theorem compositorOk_presenceIdleExpired (h : s.compositor.ok) : (presenceIdleExpired s).compositor.ok := by
  have stopped : Compositor.ok { s.compositor with idle := none } := h.of_same rfl rfl
  dsimp only [presenceIdleExpired]
  (repeat' split)
  · exact compositorOk_groupSleep stopped
  · exact stopped
  · exact h

theorem compositorOk_presenceEdge (occupied : Bool) (h : s.compositor.ok) :
    (presenceEdge occupied s).compositor.ok := by
  have started : (startIdle { s with compositor := { s.compositor with occupied := occupied } }).compositor.ok :=
    h.of_same rfl rfl
  dsimp only [presenceEdge]
  (repeat' split)
  · exact compositorOk_groupWake started
  · exact started
  · exact h

/-- The outcome of a transaction keeps its panel's record in order. -/
theorem compositorOk_reportOutcome (x : Transaction) (o : OutcomeReport) (h : s.compositor.ok) :
    (reportOutcome x o s).compositor.ok := by
  obtain ⟨state, rows, brightness, misses, idle⟩ : (s.panel x.panel).ok := h.panels x.panel
  dsimp only [reportOutcome]
  split
  · exact h
  · rename_i configured
    have on : (s.panel x.panel).configured ≠ false := fun e => configured (state.mp e)
    have served {r : Panel} (same : r.configured = (s.panel x.panel).configured ∧ r.rows = (s.panel x.panel).rows ∧
        r.brightness = (s.panel x.panel).brightness) (other : r.state ≠ .unconfigured) (few : r.misses ≤ 3) : r.ok := by
      obtain ⟨a, b, c⟩ := same
      exact ⟨by simp [a, on, other], by rwa [b], by rwa [c], few, fun e => absurd e other⟩
    split
    · exact h
    · refine compositorOk_setPanel h _ ?_
      unfold Panel.missed
      split
      · exact served ⟨rfl, rfl, rfl⟩ (by simp) (Nat.le_refl _)
      · rename_i few
        exact served ⟨rfl, rfl, rfl⟩ configured (by dsimp only; omega)
    · split
      · exact compositorOk_setPanel h _ (served ⟨rfl, rfl, rfl⟩ (by simp [Panel.slept]) (Nat.zero_le _))
      · exact compositorOk_setPanel h _ (served ⟨rfl, rfl, rfl⟩ (by simp [Panel.woken]) (Nat.zero_le _))
      · exact compositorOk_setPanel h _ (served ⟨rfl, rfl, rfl⟩ configured (Nat.zero_le _))
      · have read (st : PanelStatus) (g : GroupState) : ((s.panel x.panel).statusRead st g).ok := by
          unfold Panel.statusRead
          split
          · exact served ⟨rfl, rfl, rfl⟩ (by simp) (Nat.zero_le _)
          · exact served ⟨rfl, rfl, rfl⟩ configured (Nat.zero_le _)
          · exact served ⟨rfl, rfl, rfl⟩ configured (Nat.zero_le _)
          · exact absurd ‹_› configured
        split
        · exact compositorOk_setPanel h _ (read _ _)
        · exact compositorOk_setPanel h _ (read _ _)

/-! ## The compositor through a frame's begin -/

theorem compositorOk_beginFrame (l : DataLine) (h : s.compositor.ok) : (beginFrame l s).compositor.ok := by
  refine h.of_same ?_ ?_ <;> simp [beginFrame, buildFrame]

theorem compositorOk_frameStart (l : DataLine) (h : s.compositor.ok) : (frameStart l s).compositor.ok := by
  unfold frameStart
  split
  · exact compositorOk_beginFrame l h
  all_goals exact h

theorem ambient_compositor : Ambient (fun s => s.compositor.ok) where
  queue _ _ h := h
  port _ _ _ _ _ h := h
  silence _ _ _ h := h
  counted _ _ _ h := h
  drawn _ _ h := h
  cycled _ _ h := h
  frame l _ _ h := compositorOk_beginFrame l h

theorem compositorOk_intervalChanged (old : Nat) (l : DataLine) (h : s.compositor.ok) :
    (intervalChanged old l s).compositor.ok := by
  dsimp only [intervalChanged]
  (repeat' split)
  · exact h
  · exact compositorOk_beginFrame l h
  all_goals exact h

theorem compositorOk_startFrames (l : DataLine) (h : s.compositor.ok) : (startFrames l s).compositor.ok := by
  unfold startFrames
  (repeat' split)
  · exact h
  · exact compositorOk_beginFrame l h
  · exact compositorOk_beginFrame l h

theorem compositorOk_displayStart (l : DataLine) (h : s.compositor.ok) : (displayStart l s).1.compositor.ok := by
  dsimp only [displayStart, displayAnswer]
  split
  · exact ambient_compositor.settleAt l (compositorOk_startFrames l h)
  all_goals exact h

theorem compositorOk_displayPacing (f : DisplayPacingBody) (l : DataLine) (h : s.compositor.ok) :
    (displayPacing f l s).1.compositor.ok := by
  dsimp only [displayPacing, displayAnswer]
  (repeat' split)
  · exact h
  · refine ambient_compositor.settleAt l ?_
    unfold intervalPacingTaken
    (repeat' split)
    · exact h
    · exact compositorOk_beginFrame l h
    all_goals exact h
  · exact ambient_compositor.settleAt l (compositorOk_intervalChanged _ l h)
  · exact h
  · exact h

theorem compositorOk_sampleTaken (millivolts : Nat) (l : DataLine) (h : s.compositor.ok) :
    (sampleTaken millivolts l s).compositor.ok := by
  dsimp only [sampleTaken, applySample]
  (repeat' split)
  · exact h
  · dsimp only [changeSupply]
    refine compositorOk_intervalChanged _ l ?_
    split <;> simpa using h
  · exact h

theorem compositorOk_triggerEdge (high : Bool) (l : DataLine) (h : s.compositor.ok) :
    (triggerEdge high l s).compositor.ok := by
  dsimp only [triggerEdge]
  (repeat' split)
  · exact compositorOk_frameStart l h
  all_goals exact h

theorem compositorOk_frameTimerExpired (l : DataLine) (h : s.compositor.ok) :
    (frameTimerExpired l s).compositor.ok := by
  unfold frameTimerExpired
  split
  · exact compositorOk_frameStart l h
  · exact h

theorem compositorOk_afterTransaction (l : DataLine) (h : s.compositor.ok) : (afterTransaction l s).compositor.ok := by
  simpa [afterTransaction, apply_ite State.compositor] using h

theorem compositorOk_transactionEnded (e : TransactionEnd) (l : DataLine) (h : s.compositor.ok) :
    (transactionEnded e l s).compositor.ok := by
  unfold transactionEnded
  (repeat' split)
  · exact h
  · exact compositorOk_afterTransaction l (compositorOk_reportOutcome _ _ h)
  · exact compositorOk_afterTransaction l (compositorOk_reportOutcome _ _ h)

theorem compositorOk_busDisturbed (l : DataLine) (h : s.compositor.ok) : (busDisturbed l s).compositor.ok := by
  unfold busDisturbed
  split
  · exact h
  · exact compositorOk_afterTransaction l (compositorOk_reportOutcome _ _ h)

theorem compositorOk_panelConfig (p : Port) (f : PanelConfigBody) (h : s.compositor.ok) :
    (panelConfig p f s).1.compositor.ok := by
  unfold panelConfig
  (repeat' split)
  · exact h
  · exact h
  · exact h
  · exact compositorOk_setPanel h _ (Panel.ok.formed (h.panels _) ‹_›)

theorem compositorOk_panelConfigGroup (p : Port) (f : PanelGroupBody) (h : s.compositor.ok) :
    (panelConfigGroup p f s).1.compositor.ok := by
  unfold panelConfigGroup
  split
  · exact h
  · exact ⟨h.panels, clamp_bounds (by decide) _⟩

theorem compositorOk_timeSet (f : TimeSetBody) (h : s.compositor.ok) : (timeSet f s).1.compositor.ok := by
  dsimp only [timeSet]
  (repeat' split)
  · exact h
  · exact h
  · exact compositorOk_minuteTick (by simpa using h)
  · exact h
  · dsimp only [timeWithin]
    split
    · exact compositorOk_minuteTick h
    · exact h
  · exact compositorOk_minuteTick (by simpa using h)

theorem compositorOk_secondElapses (h : s.compositor.ok) : (secondElapses s).compositor.ok :=
  secondElapses_keeps (P := fun t => t.compositor.ok) (fun _ => h) (fun _ => h.of_same rfl rfl)
    (fun _ _ _ h => h) (fun _ h => compositorOk_minuteTick h) (fun _ _ _ h => by simpa using h)

theorem compositorOk_coreLost (h : s.compositor.ok) : (coreLost s).compositor.ok :=
  h.of_panels (h.mapPanels fun _ ok => ok.warm) rfl

theorem compositorOk_dip (h : s.compositor.ok) : (dip s).compositor.ok := by
  unfold dip
  split
  · exact compositorOk_coreLost h
  · exact h

theorem compositorOk_warmStarted (h : s.compositor.ok) (l : DataLine) : (warmStarted l s).compositor.ok := by
  have lost : (coreLost { s with core := .up }).compositor.ok := compositorOk_coreLost h
  refine warmStarted_keeps (P := fun t => t.compositor.ok) ?_ (fun _ _ h => by simpa using h)
    (fun _ h => compositorOk_minuteTick h) (fun t h => ?_)
  · simpa [warmBegun] using lost
  · unfold resumeFrames
    split
    · exact compositorOk_startFrames l h
    · exact h

theorem compositorOk_reset : State.reset.compositor.ok := by
  refine ⟨fun i => ?_, by decide, by decide⟩
  simp only [State.reset, Fin.getElem_fin, Vector.getElem_replicate]
  constructor <;> simp [Panel.initial]

/-- Each command's own part keeps the panel records and the sleep-after setting in order. -/
theorem keeps_compositor (i : Instr) : (actOf i).Keeps (fun s => s.compositor.ok) := by
  by_cases touched : ∀ b ∈ [Block.compositor], b ∉ blocksOf i
  · refine keeps_of_untouched [.compositor] (fun s t same h => ?_) touched
    have compositor : t.compositor = s.compositor := same .compositor (by simp)
    rwa [compositor]
  · cases i <;> simp [blocksOf] at touched
    case timeSet p b => exact keeps_onFields (fun f _ _ h => compositorOk_timeSet f h) b
    case panelConfig p b => exact keeps_onFields (fun f _ _ h => compositorOk_panelConfig p f h) b
    case panelConfigGroup p f => exact fun _ _ h => compositorOk_panelConfigGroup p f h
    case displayStart p l => exact fun _ _ h => compositorOk_displayStart l h
    case displayPacing p f l => exact fun _ _ h => compositorOk_displayPacing f l h
    case clockSecond => exact fun _ h => compositorOk_secondElapses h
    case presenceIdleExpiry => exact fun _ _ h => compositorOk_presenceIdleExpired h
    case frameTimerExpiry l => exact fun _ _ h => compositorOk_frameTimerExpired l h
    case sample mv l => exact fun _ _ h => compositorOk_sampleTaken mv l h
    case presenceEdge o => exact fun _ _ h => compositorOk_presenceEdge o h
    case presenceFirstAcceptance o =>
      refine fun s _ h => ?_
      unfold presenceFirst
      split
      · exact h
      · exact h.of_same rfl rfl
    case triggerEdge high l => exact fun _ _ h => compositorOk_triggerEdge high l h
    case transactionEnd e l => exact fun _ _ h => compositorOk_transactionEnded e l h
    case busDisturbed l => exact fun _ _ h => compositorOk_busDisturbed l h
    case coldStart => exact fun _ _ => compositorOk_reset
    case warmStart l => exact fun _ h => compositorOk_warmStarted h l
    case coreSupplyDip => exact fun _ h => compositorOk_dip h

/-- Settles O59: the controller and the panel records are two invariants (`busOk_iff`), the first turning on what a
frame's begin and its going on need of the controller (`DisplayBus.frameOk`). -/
theorem stepKeepsBusOk : Obligations.StepKeepsBusOk := by
  unfold Obligations.StepKeepsBusOk
  intro s t h e
  obtain ⟨controller, compositor⟩ := busOk_iff.mp h
  exact busOk_iff.mpr ⟨step_keeps ambient_controller keeps_controller controller e,
    step_keeps ambient_compositor keeps_compositor compositor e⟩

/-! ## The invariants at reset -/

/-- Settles O60: each invariant holds of the Init values. -/
theorem resetIsInOrder : Obligations.ResetIsInOrder where
  journal := journal_ok_reset
  reasons := reasonsOk_reset
  tables := tablesOk_reset
  quotes := quotesOk_reset
  stock := stockOk_reset
  fares := faresOk_reset
  revoked := revokedOk_of_empty rfl
  supply := supplyOk_reset
  ports := portsOk_reset
  bus := busOk_iff.mpr ⟨controllerOk_reset, compositorOk_reset⟩

end Sys2Proof.Machine
end

section
/-! PROOFS. The queue, the ports' checks and the reply (O1 to O5, O17): what every command answers, what a request frame
comes to, and what its reply changes. -/

namespace Sys2Proof.Machine

variable {s t : State} {p : Port}

/-- Settles O1: both clauses are the two equations of `step`. -/
theorem stepRunsFrontCommand : Obligations.StepRunsFrontCommand := by
  refine ⟨fun c rest s => rfl, fun s empty => ?_⟩
  simp [step, empty]

/-! ## What a command does with the queue, and while the core supply is down -/

theorem run_pending {l : List Block} {a : Act} (h : a.ChangesOnly l) (s : State) : (a.run s).pending = s.pending := by
  cases a with
  | request p c body owner =>
    have own := (h (hear p (body.length + 2) s)).1
    simp only [Act.run, request, decideRequest, unheard]
    (repeat' split) <;> simp [own]
  | event f =>
    simp only [Act.run, whenUp]
    split
    · exact (h s).1
    · rfl
  | whole f => exact (h s).1

theorem settled_pending (i : Instr) (s : State) : (settled i s).pending = s.pending := by
  cases i <;> first | exact (settle_changesOnly s).1 | exact (settleAt_changesOnly _ s).1 | rfl

/-- While the core supply is down the ports, the events and the dip do nothing (log 8). -/
theorem run_of_down {i : Instr} (down : s.core = .down) (acts : i.actsWhileDown = false) :
    (actOf i).run s = s := by
  have stopped : s.running = false := by simp [State.running, down]
  have deaf (p : Port) : s.receives p = false := by simp [State.receives, stopped]
  have asked (p : Port) (c : ReqCode) (body : List Byte) (owner : Owner) :
      (Act.request p c body owner).run s = s := by
    simp [Act.run, request, deaf, unheard, stopped]
  have event (f : State → State) : (Act.event f).run s = s := whenUp_of_down down
  cases i with
  | unknownRequest p code body => simp [actOf, Act.run, unknownFrame, deaf, unheard, stopped]
  | frameCut p received => simp [actOf, Act.run, cutFrame, deaf, unheard, stopped]
  | replyRead p n => simp [actOf, Act.run, readReply, deaf, unheard, stopped]
  | coreSupplyDip => simp [actOf, Act.run, dip, stopped]
  | clockSecond => simp [Instr.actsWhileDown] at acts
  | coldStart => simp [Instr.actsWhileDown] at acts
  | warmStart l => simp [Instr.actsWhileDown] at acts
  | _ => first | exact asked _ _ _ _ | exact event _

theorem settled_of_down (i : Instr) (down : s.core = .down) : settled i s = s := by
  have rest : s.restless = false := by simp [State.restless, State.running, down]
  cases i <;> simp [settled, settle, settleAt, rest]

/-- An event that does nothing, while the core supply is up, ends its step with what follows it. -/
theorem exec_event {i : Instr} {f : State → State} (act : actOf i = .event f) (up : s.core = .up) :
    exec i s = .next (settled i (f s)) := by
  rw [exec_eq, act]
  exact congrArg (fun t => Host.Outcome.next (settled i t)) (whenUp_of_up up)

theorem dip_core (s : State) : (dip s).core = .down := by
  unfold dip
  split
  · rfl
  · rename_i stopped
    cases core : s.core with
    | up => exact absurd (by simp [State.running, core]) stopped
    | down => rfl

theorem warmStarted_core (l : DataLine) (s : State) : (warmStarted l s).core = .up := by
  simp [warmStarted, coreLost]

/-! ## A timer with seconds left (log 3, log 29) -/

theorem stagingExpired_of_running (h : ∀ g, s.store.staging = some g → g.idle ≠ 0) : stagingExpired s = s := by
  unfold stagingExpired
  split
  · rfl
  · exact if_neg (h _ ‹_›)

theorem passageClosed_of_running (h : ∀ x, s.detector.passage = some x → 2 ≤ x.closing) : passageClosed s = s := by
  unfold passageClosed
  split
  · rfl
  · exact if_neg (Nat.not_le.mpr (h _ ‹_›))

theorem quoteExpired_of_running (h : ∀ q, (s.sales.ports.get p).slot = some q → q.timer ≠ 0) :
    quoteExpired p s = s := by
  dsimp only [quoteExpired]
  split
  · rfl
  · exact if_neg (h _ ‹_›)

theorem voidWindowExpired_of_running (h : ∀ l, (s.sales.ports.get p).lastSale = some l → l.window ≠ 0) :
    voidWindowExpired p s = s := by
  dsimp only [voidWindowExpired]
  split
  · rfl
  · exact if_neg (h _ ‹_›)

theorem batchTimedOut_of_running (h : ∀ b, s.journal.batch = some b → b.timer ≠ 0) : batchTimedOut s = s := by
  unfold batchTimedOut
  split
  · rfl
  · exact if_neg (h _ ‹_›)

theorem loadTimedOut_of_running (h : ∀ l, s.supply.load = some l → l.endTimer ≠ 0) : loadTimedOut s = s := by
  unfold loadTimedOut
  split
  · rfl
  · exact if_neg (h _ ‹_›)

/-- Settles O2: each command is an act and what follows it (`exec_eq`), and every expiry tests its timer first. -/
theorem everyCommandAnswersNext : Obligations.EveryCommandAnswersNext := by
  refine ⟨fun i s => ⟨_, exec_eq i s, ?_, fun down acts => ?_⟩, fun s => rfl,
    fun l s => ⟨_, rfl, warmStarted_core l s⟩, fun s => ⟨_, rfl, dip_core s⟩, fun s up => ?_⟩
  · rw [settled_pending, run_pending (actOf_changesOnly i)]
  · rw [run_of_down down acts, settled_of_down i down]
  · have rests {i : Instr} {f : State → State} (act : actOf i = .event f) (h : f s = s) :
        exec i s = .next (settled i s) := by rw [exec_event act up, h]
    exact ⟨fun h => rests rfl (stagingExpired_of_running h), fun h => rests rfl (passageClosed_of_running h),
      fun p h => rests rfl (quoteExpired_of_running h), fun p h => rests rfl (voidWindowExpired_of_running h),
      fun h => rests rfl (if_neg h), fun h => rests rfl (batchTimedOut_of_running h), fun h => rests rfl (if_neg h),
      fun i h => rests rfl (if_neg h), fun l h => rests rfl (if_neg h), fun mv l h => rests rfl (if_neg h),
      fun h => rests rfl (loadTimedOut_of_running h)⟩

/-- Settles O17: each first acceptance is the event of its own block. -/
theorem firstAcceptancesGiveNoEdge : Obligations.FirstAcceptancesGiveNoEdge := fun _ up =>
  ⟨fun t level => exec_event (i := .treadleFirstAcceptance t level) rfl up,
    fun level => exec_event (i := .presenceFirstAcceptance level) rfl up,
    fun level => exec_event (i := .triggerFirstAcceptance level) rfl up,
    fun p active => exec_event (i := .portResetLineFirstAcceptance p active) rfl up⟩

/-! ## What a request frame comes to (R187, R189) -/

theorem ofByte_byte (c : ReqCode) : ReqCode.ofByte c.byte = some c := by
  cases c <;> decide

/-- A command that is a request frame asks its owner, or carries a code that the part does not define. -/
theorem actOf_of_encodeFrame {i : Instr} {fr : PortFrame} (h : encodeFrame i = some fr) :
    (∃ c owner, fr.code = c.byte ∧ actOf i = .request fr.port c fr.body owner) ∨
      i = .unknownRequest fr.port fr.code fr.body := by
  cases i <;> simp only [encodeFrame, Option.some.injEq, reduceCtorEq] at h <;> subst h
  case unknownRequest => exact .inr rfl
  all_goals exact .inl ⟨_, _, rfl, rfl⟩

theorem settled_of_encodeFrame {i : Instr} {fr : PortFrame} (h : encodeFrame i = some fr) (s : State) :
    settled i s = requestSettled i s := by
  cases i <;> first | rfl | cases h

theorem unheard_of_held (up : s.core = .up) (n : Nat) :
    unheard p n s = setPort p { s.ports.get p with dataOut := List.replicate n filler } s := by
  simp [unheard, State.running, up]

theorem not_receives_of_held (h : (s.ports.get p).condition = .held) : s.receives p = false := by
  simp [State.receives, h]

theorem unknownFrame_of_receives (h : s.receives p = true) (code : Byte) (body : List Byte) :
    unknownFrame p code body s = answered p code body.length (.refuse .unknownRequest) s := by
  simp [unknownFrame, h, answered]

theorem frameCut_of_receives (h : s.receives p = true) {received : List Byte} (some : received ≠ []) :
    cutFrame p received s =
      count .portFrameErrors (setPort p { s.ports.get p with dataOut := List.replicate received.length filler } s) := by
  simp [cutFrame, h, some]

/-- Settles O3: a request frame asks its owner through the port's checks (`actOf_of_encodeFrame`), and each check
that fails answers by itself. -/
theorem portChecksInOrder : Obligations.PortChecksInOrder := by
  refine ⟨fun i fr s wf e hears => ⟨fun unknown => ?_, fun c code => ⟨fun noRight => ?_, fun right short => ?_⟩⟩,
    fun i fr s e up held => ?_, fun p code body s hears => ?_, fun p body s admits wf length => ?_,
    fun p body s admits wf length => ?_⟩
  · rcases actOf_of_encodeFrame e with ⟨c, owner, code, -⟩ | rfl
    · rw [code, ofByte_byte] at unknown
      cases unknown
    · rw [exec_eq, settled_of_encodeFrame e]
      exact congrArg (fun t => Host.Outcome.next (settle t)) (unknownFrame_of_receives hears _ _)
  · rcases actOf_of_encodeFrame e with ⟨c', owner, own, act⟩ | unknown
    · obtain rfl : c' = c := by simpa [own, ofByte_byte] using code
      rw [exec_eq, settled_of_encodeFrame e, act, own]
      exact congrArg (fun t => Host.Outcome.next (requestSettled i t)) (request_not_permitted hears noRight)
    · rw [unknown] at wf
      simp [Instr.wf, code] at wf
  · rcases actOf_of_encodeFrame e with ⟨c', owner, own, act⟩ | unknown
    · obtain rfl : c' = c := by simpa [own, ofByte_byte] using code
      rw [exec_eq, settled_of_encodeFrame e, act, own]
      exact congrArg (fun t => Host.Outcome.next (requestSettled i t)) (request_wrong_length ⟨hears, right⟩ short)
    · rw [unknown] at wf
      simp [Instr.wf, code] at wf
  · have deaf := not_receives_of_held held
    rw [exec_eq, settled_of_encodeFrame e]
    refine congrArg (fun t => Host.Outcome.next (requestSettled i t)) ?_
    rcases actOf_of_encodeFrame e with ⟨c, owner, -, act⟩ | rfl
    · rw [act]
      simp only [Act.run, request, deaf]
      exact unheard_of_held up _
    · simp only [actOf, Act.run, unknownFrame, deaf]
      exact unheard_of_held up _
  · exact congrArg (fun t => Host.Outcome.next (settle t)) (unknownFrame_of_receives hears _ _)
  · refine congrArg (fun t => Host.Outcome.next (settle t)) ?_
    rw [← length]
    exact request_answered admits (decide_eq_true length) rfl
  · refine congrArg (fun t => Host.Outcome.next (settle t)) ?_
    rw [← length]
    refine request_answered admits (decide_eq_true length) ?_
    exact Prod.ext rfl (by simp [displayAutoRecovery, displayAnswer])

/-! ## The reply made (R191, R192) -/

theorem makeReply_eq (p : Port) (code : Byte) (a : Answer) (s : State) :
    makeReply p code a s =
      { s with
        counters := if (s.ports.get p).slot.isSome then (count .portFrameErrors s).counters else s.counters
        ports := s.ports.set p
          { s.ports.get p with
            slot := some ⟨{ echo := code, result := a.result, body := a.body
                            flags :=
                              { overrun := (s.ports.get p).slot.isSome || (s.ports.get p).overrun
                                noticesPending := !(s.ports.get p).notices.isEmpty
                                requoted := a.requoted, notApplied := a.notApplied } }, 0⟩
            overrun := false } } := by
  rcases discardUnread_eq p s with ⟨held, e⟩ | ⟨empty, e⟩
  · simp [makeReply, e, held, replyOf, setPort, count, countBy, PortControl.attn]
  · simp [makeReply, e, empty, replyOf, setPort, PortControl.attn]

/-- Settles O4. -/
theorem replyIsMade : Obligations.ReplyIsMade := by
  intro p code n a u
  dsimp only [answered]
  rw [makeReply_eq]
  have heard (c : Counter) : (hear p (n + 2) u).counter c = u.counter c := counter_of_counters (by simp) c
  refine ⟨by simp, by simp [hear_port, filler], fun q other => ?_, ?_, fun c other => ?_, ?_,
    changesOnly_iff.mpr (by simp)⟩
  · simp [PerPort.get_set_of_ne _ _ other, hear_port, other]
  · rw [hear_port_slot]
    split
    · exact (counter_countBy_self _ _ _).trans (counterPlus_of_counters (by simp) _ _)
    · exact heard _
  · have other : c ≠ .portFrameErrors := by simpa using other
    rw [hear_port_slot]
    split
    · exact (counter_countBy_of_ne _ _ other).trans (heard _)
    · exact heard _
  · rw [hear_eq]

/-! ## Reply reads and cut frames (R188, R190) -/

theorem readReply_of_receives (h : s.receives p = true) (n : Nat) :
    readReply p n s =
      setPort p { s.ports.get p with
        slot := slotAfterRead (s.ports.get p).slot n, dataOut := readOutput (s.ports.get p).slot n } s := by
  simp [readReply, h]

/-- Settles O5. -/
theorem replyReadAndCutFrame : Obligations.ReplyReadAndCutFrame := by
  refine ⟨fun p n s hears => ⟨fun empty => ?_, fun x held => ⟨fun short => ?_, fun whole => ?_⟩⟩,
    fun p received s hears some => ⟨_, congrArg (fun t => Host.Outcome.next (settle t)) (frameCut_of_receives hears some),
      ?_, ?_, ?_, ?_, ?_⟩⟩
  · refine congrArg (fun t => Host.Outcome.next (settle t)) ((readReply_of_receives hears n).trans ?_)
    simp [empty, slotAfterRead, readOutput, filler]
  · refine congrArg (fun t => Host.Outcome.next (settle t)) ((readReply_of_receives hears n).trans ?_)
    simp [held, slotAfterRead, readOutput, Nat.not_le.mpr short, Nat.sub_eq_zero_of_le (Nat.le_of_lt short)]
  · refine congrArg (fun t => Host.Outcome.next (settle t)) ((readReply_of_receives hears n).trans ?_)
    simp [held, slotAfterRead, readOutput, whole, List.take_of_length_le whole, filler]
  · exact counter_countBy_self _ _ _
  · intro c other
    exact counter_countBy_of_ne _ _ (by simpa using other)
  · exact PerPort.get_set_self _ _ _
  · exact fun q other => PerPort.get_set_of_ne _ _ other
  · exact changesOnly_iff.mpr (by simp)

end Sys2Proof.Machine
end

section
/-! PROOFS. The frame decoder and encoder (O6): each row's reader takes back what its writer wrote. -/

namespace Sys2Proof.Machine

/-! ## The words of a body, least significant byte first -/

@[simp] theorem word16_bytes (x : BitVec 16) : word16 (byteAt x 0) (byteAt x 1) = x := by
  simp only [word16, byteAt]
  rw [BitVec.extractLsb'_append_extractLsb'_eq_extractLsb' (by rfl)]
  exact BitVec.extractLsb'_eq_self

@[simp] theorem word24_bytes (x : BitVec 24) : word24 (byteAt x 0) (byteAt x 1) (byteAt x 2) = x := by
  simp only [word24, byteAt]
  rw [BitVec.extractLsb'_append_extractLsb'_eq_extractLsb' (by rfl),
    BitVec.extractLsb'_append_extractLsb'_eq_extractLsb' (by rfl)]
  exact BitVec.extractLsb'_eq_self

@[simp] theorem word32_bytes (x : BitVec 32) :
    word32 (byteAt x 0) (byteAt x 1) (byteAt x 2) (byteAt x 3) = x := by
  simp only [word32, byteAt]
  rw [BitVec.extractLsb'_append_extractLsb'_eq_extractLsb' (by rfl),
    BitVec.extractLsb'_append_extractLsb'_eq_extractLsb' (by rfl),
    BitVec.extractLsb'_append_extractLsb'_eq_extractLsb' (by rfl)]
  exact BitVec.extractLsb'_eq_self

@[simp] theorem word40_bytes (x : BitVec 40) :
    word40 (byteAt x 0) (byteAt x 1) (byteAt x 2) (byteAt x 3) (byteAt x 4) = x := by
  simp only [word40, byteAt]
  rw [BitVec.extractLsb'_append_extractLsb'_eq_extractLsb' (by rfl),
    BitVec.extractLsb'_append_extractLsb'_eq_extractLsb' (by rfl),
    BitVec.extractLsb'_append_extractLsb'_eq_extractLsb' (by rfl),
    BitVec.extractLsb'_append_extractLsb'_eq_extractLsb' (by rfl)]
  exact BitVec.extractLsb'_eq_self

/-! ## The runs of records and of amounts -/

theorem readRecords_write (rs : List CallRecord) : readRecords (rs.flatMap writeRecord) = some rs := by
  induction rs with
  | nil => rfl
  | cons r rs ih => simp [writeRecord, bytes16, readRecords, ih]

theorem length_writeRecords (rs : List CallRecord) : (rs.flatMap writeRecord).length = 6 * rs.length := by
  induction rs with
  | nil => rfl
  | cons r rs ih =>
    simp only [writeRecord, bytes16, List.flatMap_cons, List.length_append, List.length_cons, List.length_nil] at ih ⊢
    omega

theorem readAmounts_write (ps : List (BitVec 24)) : readAmounts (ps.flatMap bytes24) = some ps := by
  induction ps with
  | nil => rfl
  | cons a ps ih => simp [bytes24, readAmounts, ih]

theorem length_writeAmounts (ps : List (BitVec 24)) : (ps.flatMap bytes24).length = 3 * ps.length := by
  induction ps with
  | nil => rfl
  | cons a ps ih =>
    simp only [bytes24, List.flatMap_cons, List.length_append, List.length_cons, List.length_nil] at ih ⊢
    omega

theorem fits_writeTtCalls (f : TtCallsBody) (one : 1 ≤ f.records.length) (most : f.records.length ≤ 12) :
    ReqCode.fits .ttCalls (writeTtCalls f) = true := by
  simp [ReqCode.fits, ReqCode.fixedLength, writeTtCalls, length_writeRecords, -List.length_flatMap]
  omega

theorem readTtCalls_write (f : TtCallsBody) (one : 1 ≤ f.records.length) (most : f.records.length ≤ 12) :
    readTtCalls (writeTtCalls f) = some f := by
  unfold readTtCalls
  rw [if_pos (fits_writeTtCalls f one most)]
  simp only [writeTtCalls, readRecords_write, Option.map_some]

theorem fits_writeFarePrice (f : FarePriceBody) (one : 1 ≤ f.prices.length) (most : f.prices.length ≤ 15) :
    ReqCode.fits .farePriceWrite (writeFarePrice f) = true := by
  simp [ReqCode.fits, ReqCode.fixedLength, writeFarePrice, length_writeAmounts, -List.length_flatMap]
  omega

theorem readFarePrice_write (f : FarePriceBody) (one : 1 ≤ f.prices.length) (most : f.prices.length ≤ 15) :
    readFarePrice (writeFarePrice f) = some f := by
  unfold readFarePrice
  rw [if_pos (fits_writeFarePrice f one most)]
  simp only [writeFarePrice, readAmounts_write, Option.map_some]

/-! ## The bodies -/

theorem ofBytes_raw {α : Type} {read : List Byte → Option α} {bytes : List Byte} (h : read bytes = none) :
    Body.ofBytes read bytes = .raw bytes := by
  simp [Body.ofBytes, h]

theorem ofBytes_write {α : Type} {read : List Byte → Option α} {write : α → List Byte} {f : α}
    (h : read (write f) = some f) : Body.ofBytes read (write f) = .fields f := by
  simp [Body.ofBytes, h]

/-- A body whose row's reader takes back what its writer wrote is read as it was. -/
theorem ofBytes_bytes {α : Type} {read : List Byte → Option α} {write : α → List Byte}
    (inverse : ∀ f, read (write f) = some f) {b : Body α} (wf : b.wf read = true) :
    Body.ofBytes read (b.bytes write) = b := by
  cases b with
  | fields f => exact ofBytes_write (inverse f)
  | raw bytes =>
    obtain ⟨unread, -⟩ : read bytes = none ∧ bytes.length ≤ maxBody := by simpa [Body.wf] using wf
    exact ofBytes_raw unread

theorem ofBytes_ttCalls {b : Body TtCallsBody} (wf : ttCallsWf b = true) :
    Body.ofBytes readTtCalls (b.bytes writeTtCalls) = b := by
  cases b with
  | fields f =>
    obtain ⟨one, most⟩ : 1 ≤ f.records.length ∧ f.records.length ≤ 12 := by simpa [ttCallsWf] using wf
    exact ofBytes_write (readTtCalls_write f one most)
  | raw bytes =>
    obtain ⟨unread, -⟩ : readTtCalls bytes = none ∧ bytes.length ≤ maxBody := by simpa [ttCallsWf] using wf
    exact ofBytes_raw unread

theorem ofBytes_farePrice {b : Body FarePriceBody} (wf : farePriceWf b = true) :
    Body.ofBytes readFarePrice (b.bytes writeFarePrice) = b := by
  cases b with
  | fields f =>
    obtain ⟨one, most⟩ : 1 ≤ f.prices.length ∧ f.prices.length ≤ 15 := by simpa [farePriceWf] using wf
    exact ofBytes_write (readFarePrice_write f one most)
  | raw bytes =>
    obtain ⟨unread, -⟩ : readFarePrice bytes = none ∧ bytes.length ≤ maxBody := by simpa [farePriceWf] using wf
    exact ofBytes_raw unread

/-! ## The requests whose rows a byte of the body tells apart -/

theorem decodeSvcUpdate_write (p : Port) (t : Byte) (c : BitVec 16) (k : Byte) (d : BitVec 16) (a : Byte) :
    decodeSvcUpdate p (writeSvcUpdate t c k d a) =
      if k = 0 then .svcUpdateDelay p (.fields ⟨t, c, d, a⟩)
      else if k = 1 then .svcUpdateClearDelay p ⟨t, c⟩
      else if k = 2 then .svcUpdateCancel p ⟨t, c⟩
      else if k = 3 then .svcUpdateReinstate p ⟨t, c⟩
      else .svcUpdateDelay p (.raw (writeSvcUpdate t c k d a)) := by
  simp [decodeSvcUpdate, writeSvcUpdate, bytes16]

theorem decodeSvcUpdate_raw (p : Port) {bytes : List Byte} (wf : svcRawWf bytes = true) :
    decodeSvcUpdate p bytes = .svcUpdateDelay p (.raw bytes) := by
  unfold decodeSvcUpdate
  split
  · rename_i t s0 s1 k d0 d1 r
    obtain ⟨-, high⟩ : 7 ≤ maxBody ∧ 3 < k.toNat := by simpa [svcRawWf] using wf
    have differs (n : Nat) (h : n ≤ 3) : k ≠ BitVec.ofNat 8 n := by
      rintro rfl
      simp at high
      omega
    exact (if_neg (differs 0 (by omega))).trans ((if_neg (differs 1 (by omega))).trans
      ((if_neg (differs 2 (by omega))).trans (if_neg (differs 3 (by omega)))))
  · rfl

theorem decodePanelConfig_write (p : Port) {b : Body PanelConfigBody} (wf : panelConfigWf b = true) :
    decodePanelConfig p (b.bytes writePanelConfig) = .panelConfig p b := by
  cases b with
  | fields f =>
    have panel : f.address ≠ 0 := by simpa [panelConfigWf] using wf
    simp only [Body.bytes, writePanelConfig, decodePanelConfig]
    exact if_neg panel
  | raw bytes =>
    obtain ⟨long, -⟩ : bytes.length ≠ 5 ∧ bytes.length ≤ maxBody := by simpa [panelConfigWf] using wf
    simp only [Body.bytes, decodePanelConfig]
    split
    · exact absurd rfl long
    · rfl

theorem decodeDisplayControl_raw (p : Port) {bytes : List Byte} (wf : displayRawWf bytes = true) (data : DataLine)
    (clk : ClockLine) : decodeDisplayControl p bytes data clk = .displayAutoRecovery p (.raw bytes) := by
  unfold decodeDisplayControl
  split
  · rename_i f a b c
    obtain ⟨-, high⟩ : 4 ≤ maxBody ∧ 5 < f.toNat := by simpa [displayRawWf] using wf
    have differs (n : Nat) (h : n ≤ 5) : f ≠ BitVec.ofNat 8 n := by
      rintro rfl
      simp at high
      omega
    exact (if_neg (differs 0 (by omega))).trans ((if_neg (differs 1 (by omega))).trans
      ((if_neg (differs 2 (by omega))).trans ((if_neg (differs 3 (by omega))).trans
        ((if_neg (differs 4 (by omega))).trans (if_neg (differs 5 (by omega)))))))
  · rfl

/-! ## The frames -/

/-- Settles O6, row by row: the code names the row, and the row's reader takes back what its writer wrote. -/
theorem decodeFrameReadsEncodeFrame : Obligations.DecodeFrameReadsEncodeFrame := by
  intro i fr data clk wf lines e
  cases i <;> simp only [encodeFrame, Option.some.injEq, reduceCtorEq] at e <;> subst e <;>
    simp only [decodeFrame, ofByte_byte]
  case ttCalls => exact congrArg _ (ofBytes_ttCalls wf)
  case farePriceWrite => exact congrArg _ (ofBytes_farePrice wf)
  case svcUpdateDelay p b =>
    cases b with
    | fields f => exact decodeSvcUpdate_write p f.table f.service 0 f.delay f.allowance
    | raw bytes => exact decodeSvcUpdate_raw p wf
  case svcUpdateClearDelay p f => exact decodeSvcUpdate_write p f.table f.service 1 0 0
  case svcUpdateCancel p f => exact decodeSvcUpdate_write p f.table f.service 2 0 0
  case svcUpdateReinstate p f => exact decodeSvcUpdate_write p f.table f.service 3 0 0
  case panelConfig p b => exact decodePanelConfig_write p wf
  case panelConfigGroup => rfl
  case displayStart => exact congrArg _ lines.symm
  case displayStop => rfl
  case displayRecover => exact congrArg _ lines.symm
  case displayPacing => exact congrArg _ lines.symm
  case displayFrameCount => rfl
  case displayAutoRecovery p b =>
    cases b with
    | fields f => rfl
    | raw bytes => exact decodeDisplayControl_raw p wf data clk
  case unknownRequest p code body =>
    obtain ⟨undefined, -⟩ : ReqCode.ofByte code = none ∧ body.length ≤ maxBody := by simpa [Instr.wf] using wf
    rw [undefined]
  all_goals exact congrArg _ (ofBytes_bytes (fun f => by cases f; simp [
    readNoFields, writeNoFields, readTimeSet, writeTimeSet, readTtBegin, writeTtBegin, readQuote, writeQuote,
    readIssue, writeIssue, readVoid, writeVoid, readFareRange, writeFareRange, readFareParam, writeFareParam,
    readFareConcession, writeFareConcession, readFarePeak, writeFarePeak, readRvlWrite, writeRvlWrite,
    readStockAdd, writeStockAdd, readBatchTake, writeBatchTake, readBatchId, writeBatchId, readSupplyLevels,
    writeSupplyLevels, readTreadleMode, writeTreadleMode, readSetRights, writeSetRights, readPortReset,
    writePortReset, readStatus, writeStatus, readTableRun, writeTableRun, readRun, writeRun, readReadCounters,
    writeReadCounters, readReadNotices, writeReadNotices, bytes16, bytes24, bytes32, bytes40]) wf)

end Sys2Proof.Machine
end

section
/-! PROOFS. The requests whole: an owner decides the same whether or not its frame has just been heard, so an admitted
request is answered with what its owner decides of the state before. -/

namespace Sys2Proof.Machine

/-- An owner that decides the same, and makes the same change, whether or not a frame on port `p` has just been
heard. -/
def OwnerHearsAlike (p : Port) (owner : Owner) : Prop :=
  ∀ n s, owner (hear p n s) = (hear p n (owner s).1, (owner s).2)

/-- An admitted request of the right length is answered with what its owner decides. -/
theorem exec_of_admits {i : Instr} {p : Port} {c : ReqCode} {body : List Byte} {owner : Owner} {s : State}
    (act : actOf i = .request p c body owner) (h : s.admits p c) (fit : c.fits body = true)
    (own : OwnerHearsAlike p owner) :
    exec i s = .next (settled i (answered p c.byte body.length (owner s).2 (owner s).1)) := by
  rw [exec_eq, act]
  exact congrArg (fun t => Host.Outcome.next (settled i t)) (request_of_hears h fit fun n => own n s)

/-! ## The owners' operations and the hearing of a frame -/

section Hearing

variable (p : Port) (n : Nat) (s : State)

@[simp] theorem hear_withdrawServices (t : TableName) (gone : List Nat) :
    withdrawServices t gone (hear p n s) = hear p n (withdrawServices t gone s) := hear_withdraw p n s _

@[simp] theorem hear_placeStaging (g : Staging) (t : TableName) :
    placeStaging g t (hear p n s) = hear p n (placeStaging g t s) := by
  simp [placeStaging]

@[simp] theorem hear_faresMessage (a b : Bool) : faresMessage a b (hear p n s) = hear p n (faresMessage a b s) := by
  unfold faresMessage; (repeat' split) <;> simp

@[simp] theorem hear_countRevoked (a : Answer) : countRevoked a (hear p n s) = hear p n (countRevoked a s) := by
  unfold countRevoked; split <;> simp

@[simp] theorem hear_countIssue (t : TicketType) (b : Band) (m : Nat) :
    countIssue t b m (hear p n s) = hear p n (countIssue t b m s) := by
  cases t <;> cases b <;> simp [countIssue]

@[simp] theorem hear_stockEmptyTest : stockEmptyTest (hear p n s) = hear p n (stockEmptyTest s) := by
  unfold stockEmptyTest; simp only [hear_remaining]; split <;> simp

@[simp] theorem hear_stockLowTest : stockLowTest (hear p n s) = hear p n (stockLowTest s) := by
  have low : { hear p n s with sales := { (hear p n s).sales with lowMark := true } } =
      hear p n { s with sales := { s.sales with lowMark := true } } := by cases p <;> rfl
  unfold stockLowTest
  simp only [hear_remaining, hear_sales_lowMark, low, hear_post]
  split <;> rfl

@[simp] theorem hear_stockTests : stockTests (hear p n s) = hear p n (stockTests s) := by
  simp [stockTests_eq]

@[simp] theorem hear_schedulerFailure : schedulerFailure (hear p n s) = hear p n (schedulerFailure s) := by
  unfold schedulerFailure
  simp only [hear_scheduler, hear_draws, hear_clock]
  (repeat' split) <;> cases p <;> rfl

@[simp] theorem hear_ifLink {f : State → State} (same : f (hear p n s) = hear p n (f s)) (q : Port) :
    ifLink q f (hear p n s) = hear p n (ifLink q f s) := by
  cases q <;> simp [ifLink, same]

@[simp] theorem hear_setJournal (j : Journal) :
    { hear p n s with journal := j } = hear p n { s with journal := j } := by
  cases p <;> rfl

@[simp] theorem hear_failBatch (q : Port) : failBatch q (hear p n s) = hear p n (failBatch q s) := by
  unfold failBatch
  rw [hear_journal, hear_setJournal, hear_count]
  exact hear_ifLink p n _ (hear_schedulerFailure p n _) q

@[simp] theorem hear_stopDisplay : stopDisplay (hear p n s) = hear p n (stopDisplay s) := by
  simp [stopDisplay]

@[simp] theorem hear_setRightsOf (q : Port) (rs : List RightsClass) :
    setRightsOf q rs (hear p n s) = hear p n (setRightsOf q rs s) := by
  cases p <;> cases q <;> rfl

@[simp] theorem hear_releaseStaging (q : Port) : releaseStaging q (hear p n s) = hear p n (releaseStaging q s) := by
  unfold releaseStaging; simp only [hear_store, hear_setStaging]; (repeat' split) <;> rfl

@[simp] theorem hear_releaseBatch (q : Port) : releaseBatch q (hear p n s) = hear p n (releaseBatch q s) := by
  unfold releaseBatch
  simp only [hear_journal, hear_setJournal, uploadDue_before_hear, hear_uploadDue]
  (repeat' split) <;> rfl

@[simp] theorem hear_releaseLoad (q : Port) : releaseLoad q (hear p n s) = hear p n (releaseLoad q s) := by
  cases q <;> simp [releaseLoad]

theorem hear_portCleared (q : Port) : setPort q ((hear p n s).ports.get q).cleared (hear p n s) =
    hear p n (setPort q (s.ports.get q).cleared s) := by
  cases p <;> cases q <;> rfl

@[simp] theorem hear_resetPort (q : Port) : resetPort q (hear p n s) = hear p n (resetPort q s) := by
  simp [resetPort, hear_portCleared]

end Hearing

/-! ## The owners -/

section Owners

variable (p : Port)

theorem hears_displayAnswer {r : Result} {f : State → State} (same : ∀ n s, f (hear p n s) = hear p n (f s)) :
    OwnerHearsAlike p (fun s => displayAnswer r (f s)) := fun n s => by
  simp [displayAnswer, same]

theorem hears_onStaging (q : Port) {act : Staging → Owner} (same : ∀ g, OwnerHearsAlike p (act g)) :
    OwnerHearsAlike p (onStaging q act) := fun n s => by
  unfold onStaging
  simp only [hear_store, hear_setStaging, same _ n]
  (repeat' split) <;> rfl

theorem hears_svcUpdate (table : Byte) (service : BitVec 16) {act : CallRef → Call → Owner}
    (same : ∀ r c, OwnerHearsAlike p (act r c)) : OwnerHearsAlike p (svcUpdate table service act) := fun n s => by
  unfold svcUpdate
  simp only [hear_store, same _ _ n]
  (repeat' split) <;> rfl

theorem hears_changeCall (r : CallRef) (f : Call → Call) : OwnerHearsAlike p (changeCall r f) := fun n s => by
  simp [changeCall]

theorem hears_ttCalls (q : Port) (f : TtCallsBody) :
    OwnerHearsAlike p (ttCalls q f) := hears_onStaging p q fun g n s => by
  simp only [hear_setStaging]
  (repeat' split) <;> rfl

theorem hears_ttEnd (q : Port) (f : NoFields) : OwnerHearsAlike p (ttEnd q f) := hears_onStaging p q fun g n s => by
  simp only [hear_setStaging, hear_clock, hear_store, hear_placeStaging]
  (repeat' split) <;> rfl

theorem hears_svcDelay (f : SvcDelayBody) : OwnerHearsAlike p (svcDelay f) := 
  hears_svcUpdate p _ _ fun r _ => hears_changeCall p r _

theorem hears_svcClearDelay (f : SvcCallBody) : OwnerHearsAlike p (svcClearDelay f) := 
  hears_svcUpdate p _ _ fun r _ => hears_changeCall p r _

theorem hears_svcCancel (f : SvcCallBody) : OwnerHearsAlike p (svcCancel f) := 
  hears_svcUpdate p _ _ fun r c n s => by
    simp only [hear_store, hear_setStore, hear_withdrawCall]
    split <;> rfl

theorem hears_svcReinstate (f : SvcCallBody) : OwnerHearsAlike p (svcReinstate f) := 
  hears_svcUpdate p _ _ fun r c n s => by
    simp only [hears_changeCall p _ _ n]
    split <;> rfl

theorem hears_fareRangeWrite (f : FareRangeBody) : OwnerHearsAlike p (fareRangeWrite f) := fun n s => by
  simp only [fareRangeWrite, hear_setRange]
  (repeat' split) <;> rfl

theorem hears_farePriceWrite (f : FarePriceBody) : OwnerHearsAlike p (farePriceWrite f) := fun n s => by
  have set (x : FareTables) : { hear p n s with fares := x } = hear p n { s with fares := x } := by cases p <;> rfl
  simp only [farePriceWrite, hear_fares, set, hear_faresMessage]
  split <;> rfl

theorem hears_fareParamWrite (f : FareParamBody) : OwnerHearsAlike p (fareParamWrite f) := fun n s => by
  cases p <;> rfl

theorem hears_fareConcessionWrite (f : FareConcessionBody) : OwnerHearsAlike p (fareConcessionWrite f) := fun n s => by
  unfold fareConcessionWrite
  (repeat' split) <;> cases p <;> rfl

theorem hears_farePeakWrite (f : FarePeakBody) : OwnerHearsAlike p (farePeakWrite f) := fun n s => by
  unfold farePeakWrite
  split <;> cases p <;> rfl

theorem hears_fareRead (f : TableRunBody) : OwnerHearsAlike p (fareRead f) := fun n s => by
  simp only [fareRead, hear_fares]
  (repeat' split) <;> rfl

theorem hears_quote (q : Port) (b : Body QuoteBody) : OwnerHearsAlike p (quote q b) := fun n s => by
  simp only [quote, hear_quoteChecks, hear_count, hear_countRevoked, hear_newQuote, hear_sales_ports, hear_setSales]
  split <;> rfl

theorem hears_refuseIssue (q : Port) (a : Answer) : OwnerHearsAlike p (refuseIssue q a) := fun n s => by
  simp [refuseIssue]

theorem hears_issueTicket (q : Port) (r : FareRequest) (x : Fare) (requoted : Bool) :
    OwnerHearsAlike p (issueTicket q r x requoted) := fun n s => by
  have set (l : List StockBlock) : { hear p n s with sales := { (hear p n s).sales with blocks := l } } =
      hear p n { s with sales := { s.sales with blocks := l } } := by cases p <;> rfl
  simp only [issueTicket, hear_sales_blocks, hear_ticket, set, hear_append, hear_countIssue, hear_count]
  cases requoted <;> simp

theorem hears_issue (q : Port) (f : IssueBody) : OwnerHearsAlike p (issue q f) := fun n s => by
  simp only [issue, hear_count, hear_sales_ports, hear_heldChecks, hear_requoteChecks, hears_refuseIssue p _ _ n,
    hears_issueTicket p _ _ _ _ n]
  (repeat' split) <;> rfl

theorem hears_voidSale (q : Port) (f : VoidBody) : OwnerHearsAlike p (voidSale q f) := fun n s => by
  simp only [voidSale, hear_sales_ports, hear_journal, hear_append, hear_count, hear_setSales]
  (repeat' split) <;> rfl

theorem hears_loadBegin (f : NoFields) : OwnerHearsAlike p (loadBegin f) := fun n s => by
  simp [loadBegin]

theorem hears_loadEnd (f : NoFields) : OwnerHearsAlike p (loadEnd f) := fun n s => by
  simp [loadEnd]

theorem hears_rvlWrite (f : RvlWriteBody) : OwnerHearsAlike p (rvlWrite f) := fun n s => by
  dsimp only [rvlWrite]
  (repeat' split) <;> cases p <;> rfl

theorem hears_rvlClearAll (f : NoFields) : OwnerHearsAlike p (rvlClearAll f) := fun n s => by
  cases p <;> rfl

theorem hears_rvlRead (f : RunBody) : OwnerHearsAlike p (rvlRead f) := fun n s => by
  simp only [rvlRead, hear_revoked]
  split <;> rfl

theorem hears_stockAdd (f : StockAddBody) : OwnerHearsAlike p (stockAdd f) := fun n s => by
  have added (b : StockBlock) :
      { hear p n s with sales := { (hear p n s).sales with
          blocks := (hear p n s).sales.blocks ++ [b], horizon := b.last } } =
        hear p n { s with sales := { s.sales with blocks := s.sales.blocks ++ [b], horizon := b.last } } := by
    cases p <;> rfl
  have low (t : State) : { hear p n t with sales := { (hear p n t).sales with lowMark := false } } =
      hear p n { t with sales := { t.sales with lowMark := false } } := by cases p <;> rfl
  simp only [stockAdd, hear_stockChecks, added, hear_removeReason, hear_remaining, low]
  (repeat' split) <;> simp

theorem hears_batchAck (q : Port) (f : BatchIdBody) : OwnerHearsAlike p (batchAck q f) := fun n s => by
  have success (t : State) := hear_ifLink p n t (hear_schedulerSuccess p n t) q
  simp only [batchAck, hear_journal, hear_setJournal, hear_count, success, hear_freeMessage, hear_uploadDue,
    uploadDue_before_hear]
  (repeat' split) <;> rfl

theorem hears_batchFail (q : Port) (f : BatchIdBody) : OwnerHearsAlike p (batchFail q f) := fun n s => by
  simp only [batchFail, hear_journal, hear_failBatch, hear_uploadDue, uploadDue_before_hear]
  (repeat' split) <;> rfl

theorem hears_panelConfig (q : Port) (f : PanelConfigBody) : OwnerHearsAlike p (panelConfig q f) := fun n s => by
  simp only [panelConfig, hear_panel, hear_compositor, hear_setPanel]
  (repeat' split) <;> rfl

theorem hears_panelConfigGroup (q : Port) (f : PanelGroupBody) :
    OwnerHearsAlike p (panelConfigGroup q f) := fun n s => by
  unfold panelConfigGroup
  split <;> cases p <;> rfl

theorem hears_displayStop : OwnerHearsAlike p (displayStop) := 
  hears_displayAnswer p (r := .ok) fun n s => by
    have running : (hear p n s).inProgress = s.inProgress := by simp [State.inProgress]
    simp only [hear_bus, hear_stopDisplay, hear_setBus, running]
    (repeat' split) <;> rfl

theorem hears_displayRecover (q : Port) (line : ClockLine) : OwnerHearsAlike p (displayRecover q line) := fun n s => by
  simp only [displayRecover, displayAnswer, hear_bus, hear_setBus, hear_count, hear_displaySummary]
  (repeat' split) <;> rfl

theorem hears_displayFrameCount (q : Port) (f : FrameCountBody) :
    OwnerHearsAlike p (displayFrameCount q f) := fun n s => by
  simp only [displayFrameCount, displayAnswer, hear_bus, hear_setBus, hear_displaySummary]
  split <;> rfl

theorem hears_displayAutoRecovery (b : Body AutoRecoveryBody) :
    OwnerHearsAlike p (displayAutoRecovery b) := fun n s => by
  simp only [displayAutoRecovery, displayAnswer, hear_bus, hear_setBus, hear_displaySummary]
  (repeat' split) <;> rfl

theorem hears_supplyLevels (f : SupplyLevelsBody) : OwnerHearsAlike p (supplyLevels f) := fun n s => by
  simp only [supplyLevels, hear_supply, hear_setSupply]
  split <;> rfl

theorem hears_salesSuspend (q : Port) (f : NoFields) : OwnerHearsAlike p (salesSuspend q f) := fun n s => by
  cases q <;> simp [salesSuspend]

theorem hears_salesResume (q : Port) (f : NoFields) : OwnerHearsAlike p (salesResume q f) := fun n s => by
  cases q <;> simp [salesResume]

theorem hears_setRights (q : Port) (f : SetRightsBody) : OwnerHearsAlike p (setRights q f) := fun n s => by
  have rights (t : State) : (hear p n t).ports.toList.flatMap (fun c => rightsBytes c.rights) =
      t.ports.toList.flatMap (fun c => rightsBytes c.rights) := by cases p <;> rfl
  simp only [setRights, hear_setRightsOf, rights]
  (repeat' split) <;> rfl

theorem hears_portReset (q : Port) (f : PortResetBody) : OwnerHearsAlike p (portReset q f) := fun n s => by
  simp only [portReset, hear_resetPort]
  (repeat' split) <;> rfl

theorem hears_listCalls (f : TableRunBody) : OwnerHearsAlike p (listCalls f) := fun n s => by
  simp only [listCalls, hear_store]
  (repeat' split) <;> rfl

theorem hears_readCounters (q : Port) (f : ReadCountersBody) : OwnerHearsAlike p (readCounters q f) := fun n s => by
  have run (a b : Nat) : (hear p n s).counterRun a b = s.counterRun a b := by simp [State.counterRun]
  simp only [readCounters, hear_zeroCounters, run]
  (repeat' split) <;> rfl

theorem hears_readNotices (f : ReadNoticesBody) : OwnerHearsAlike p (readNotices p f) := fun n s => by
  unfold readNotices
  split
  · rfl
  · cases p <;> rfl

end Owners

/-! ## The requests -/

section Requests

variable {s : State} {p : Port}

theorem exec_ttEnd_of_admits (h : s.admits p .ttEnd) (f : NoFields) :
    exec (.ttEnd p (.fields f)) s =
      .next (settle (answered p ReqCode.ttEnd.byte 0 (ttEnd p f s).2 (ttEnd p f s).1)) :=
  exec_of_admits (i := .ttEnd p (.fields f)) (body := writeNoFields f) (owner := ttEnd p f)
    rfl h rfl (hears_ttEnd p p f)

theorem exec_svcUpdateDelay_of_admits (h : s.admits p .svcUpdate) (f : SvcDelayBody) :
    exec (.svcUpdateDelay p (.fields f)) s =
      .next (settle (answered p ReqCode.svcUpdate.byte 7 (svcDelay f s).2 (svcDelay f s).1)) :=
  exec_of_admits (i := .svcUpdateDelay p (.fields f)) (body := writeSvcDelay f) (owner := svcDelay f)
    rfl h rfl (hears_svcDelay p f)

theorem exec_svcUpdateClearDelay_of_admits (h : s.admits p .svcUpdate) (f : SvcCallBody) :
    exec (.svcUpdateClearDelay p f) s =
      .next (settle (answered p ReqCode.svcUpdate.byte 7 (svcClearDelay f s).2 (svcClearDelay f s).1)) :=
  exec_of_admits (i := .svcUpdateClearDelay p f) (body := writeSvcClearDelay f) (owner := svcClearDelay f)
    rfl h rfl (hears_svcClearDelay p f)

theorem exec_svcUpdateCancel_of_admits (h : s.admits p .svcUpdate) (f : SvcCallBody) :
    exec (.svcUpdateCancel p f) s =
      .next (settle (answered p ReqCode.svcUpdate.byte 7 (svcCancel f s).2 (svcCancel f s).1)) :=
  exec_of_admits (i := .svcUpdateCancel p f) (body := writeSvcCancel f) (owner := svcCancel f)
    rfl h rfl (hears_svcCancel p f)

theorem exec_svcUpdateReinstate_of_admits (h : s.admits p .svcUpdate) (f : SvcCallBody) :
    exec (.svcUpdateReinstate p f) s =
      .next (settle (answered p ReqCode.svcUpdate.byte 7 (svcReinstate f s).2 (svcReinstate f s).1)) :=
  exec_of_admits (i := .svcUpdateReinstate p f) (body := writeSvcReinstate f) (owner := svcReinstate f)
    rfl h rfl (hears_svcReinstate p f)

theorem exec_fareRangeWrite_of_admits (h : s.admits p .fareRangeWrite) (f : FareRangeBody) :
    exec (.fareRangeWrite p (.fields f)) s =
      .next (settle (answered p ReqCode.fareRangeWrite.byte 7 (fareRangeWrite f s).2 (fareRangeWrite f s).1)) :=
  exec_of_admits (i := .fareRangeWrite p (.fields f)) (body := writeFareRange f) (owner := fareRangeWrite f)
    rfl h rfl (hears_fareRangeWrite p f)

theorem exec_fareParamWrite_of_admits (h : s.admits p .fareParamWrite) (f : FareParamBody) :
    exec (.fareParamWrite p (.fields f)) s =
      .next (settle (answered p ReqCode.fareParamWrite.byte 5 (fareParamWrite f s).2 (fareParamWrite f s).1)) :=
  exec_of_admits (i := .fareParamWrite p (.fields f)) (body := writeFareParam f) (owner := fareParamWrite f)
    rfl h rfl (hears_fareParamWrite p f)

theorem exec_fareConcessionWrite_of_admits (h : s.admits p .fareConcessionWrite) (f : FareConcessionBody) :
    exec (.fareConcessionWrite p (.fields f)) s =
      .next (settle (answered p ReqCode.fareConcessionWrite.byte 3 (fareConcessionWrite f s).2
        (fareConcessionWrite f s).1)) :=
  exec_of_admits (i := .fareConcessionWrite p (.fields f)) (body := writeFareConcession f)
    (owner := fareConcessionWrite f) rfl h rfl (hears_fareConcessionWrite p f)

theorem exec_farePeakWrite_of_admits (h : s.admits p .farePeakWrite) (f : FarePeakBody) :
    exec (.farePeakWrite p (.fields f)) s =
      .next (settle (answered p ReqCode.farePeakWrite.byte 5 (farePeakWrite f s).2 (farePeakWrite f s).1)) :=
  exec_of_admits (i := .farePeakWrite p (.fields f)) (body := writeFarePeak f) (owner := farePeakWrite f)
    rfl h rfl (hears_farePeakWrite p f)

theorem exec_fareRead_of_admits (h : s.admits p .fareRead) (f : TableRunBody) :
    exec (.fareRead p (.fields f)) s =
      .next (settle (answered p ReqCode.fareRead.byte 3 (fareRead f s).2 (fareRead f s).1)) :=
  exec_of_admits (i := .fareRead p (.fields f)) (body := writeTableRun f) (owner := fareRead f)
    rfl h rfl (hears_fareRead p f)

theorem exec_quote_of_admits (h : s.admits p .quote) (f : QuoteBody) :
    exec (.quote p (.fields f)) s =
      .next (settle (answered p ReqCode.quote.byte 16 (quote p (.fields f) s).2 (quote p (.fields f) s).1)) :=
  exec_of_admits (i := .quote p (.fields f)) (body := writeQuote f) (owner := quote p (.fields f))
    rfl h rfl (hears_quote p p _)

theorem exec_issue_of_admits (h : s.admits p .issue) (f : IssueBody) :
    exec (.issue p (.fields f)) s =
      .next (settle (answered p ReqCode.issue.byte 1 (issue p f s).2 (issue p f s).1)) :=
  exec_of_admits (i := .issue p (.fields f)) (body := writeIssue f) (owner := issue p f) rfl h rfl (hears_issue p p f)

theorem exec_void_of_admits (h : s.admits p .void) (f : VoidBody) :
    exec (.void p (.fields f)) s =
      .next (settle (answered p ReqCode.void.byte 4 (voidSale p f s).2 (voidSale p f s).1)) :=
  exec_of_admits (i := .void p (.fields f)) (body := writeVoid f) (owner := voidSale p f)
    rfl h rfl (hears_voidSale p p f)

theorem exec_loadBegin_of_admits (h : s.admits p .loadBegin) (f : NoFields) :
    exec (.loadBegin p (.fields f)) s =
      .next (settle (answered p ReqCode.loadBegin.byte 0 (loadBegin f s).2 (loadBegin f s).1)) :=
  exec_of_admits (i := .loadBegin p (.fields f)) (body := writeNoFields f) (owner := loadBegin f)
    rfl h rfl (hears_loadBegin p f)

theorem exec_loadEnd_of_admits (h : s.admits p .loadEnd) (f : NoFields) :
    exec (.loadEnd p (.fields f)) s =
      .next (settle (answered p ReqCode.loadEnd.byte 0 (loadEnd f s).2 (loadEnd f s).1)) :=
  exec_of_admits (i := .loadEnd p (.fields f)) (body := writeNoFields f) (owner := loadEnd f)
    rfl h rfl (hears_loadEnd p f)

theorem exec_rvlWrite_of_admits (h : s.admits p .rvlWrite) (f : RvlWriteBody) :
    exec (.rvlWrite p (.fields f)) s =
      .next (settle (answered p ReqCode.rvlWrite.byte 8 (rvlWrite f s).2 (rvlWrite f s).1)) :=
  exec_of_admits (i := .rvlWrite p (.fields f)) (body := writeRvlWrite f) (owner := rvlWrite f)
    rfl h rfl (hears_rvlWrite p f)

theorem exec_rvlClearAll_of_admits (h : s.admits p .rvlClearAll) (f : NoFields) :
    exec (.rvlClearAll p (.fields f)) s =
      .next (settle (answered p ReqCode.rvlClearAll.byte 0 (rvlClearAll f s).2 (rvlClearAll f s).1)) :=
  exec_of_admits (i := .rvlClearAll p (.fields f)) (body := writeNoFields f) (owner := rvlClearAll f)
    rfl h rfl (hears_rvlClearAll p f)

theorem exec_rvlRead_of_admits (h : s.admits p .rvlRead) (f : RunBody) :
    exec (.rvlRead p (.fields f)) s =
      .next (settle (answered p ReqCode.rvlRead.byte 2 (rvlRead f s).2 (rvlRead f s).1)) :=
  exec_of_admits (i := .rvlRead p (.fields f)) (body := writeRun f) (owner := rvlRead f) rfl h rfl (hears_rvlRead p f)

theorem exec_stockAdd_of_admits (h : s.admits p .stockAdd) (f : StockAddBody) :
    exec (.stockAdd p (.fields f)) s =
      .next (settle (answered p ReqCode.stockAdd.byte 8 (stockAdd f s).2 (stockAdd f s).1)) :=
  exec_of_admits (i := .stockAdd p (.fields f)) (body := writeStockAdd f) (owner := stockAdd f)
    rfl h rfl (hears_stockAdd p f)

theorem exec_batchAck_of_admits (h : s.admits p .batchAck) (f : BatchIdBody) :
    exec (.batchAck p (.fields f)) s =
      .next (settle (answered p ReqCode.batchAck.byte 2 (batchAck p f s).2 (batchAck p f s).1)) :=
  exec_of_admits (i := .batchAck p (.fields f)) (body := writeBatchId f) (owner := batchAck p f)
    rfl h rfl (hears_batchAck p p f)

theorem exec_batchFail_of_admits (h : s.admits p .batchFail) (f : BatchIdBody) :
    exec (.batchFail p (.fields f)) s =
      .next (settle (answered p ReqCode.batchFail.byte 2 (batchFail p f s).2 (batchFail p f s).1)) :=
  exec_of_admits (i := .batchFail p (.fields f)) (body := writeBatchId f) (owner := batchFail p f)
    rfl h rfl (hears_batchFail p p f)

theorem exec_panelConfig_of_admits (h : s.admits p .panelConfig) (f : PanelConfigBody) :
    exec (.panelConfig p (.fields f)) s =
      .next (settle (answered p ReqCode.panelConfig.byte 5 (panelConfig p f s).2 (panelConfig p f s).1)) :=
  exec_of_admits (i := .panelConfig p (.fields f)) (body := writePanelConfig f) (owner := panelConfig p f)
    rfl h rfl (hears_panelConfig p p f)

theorem exec_panelConfigGroup_of_admits (h : s.admits p .panelConfig) (f : PanelGroupBody) :
    exec (.panelConfigGroup p f) s =
      .next (settle (answered p ReqCode.panelConfig.byte 5 (panelConfigGroup p f s).2 (panelConfigGroup p f s).1)) :=
  exec_of_admits (i := .panelConfigGroup p f) (body := writePanelGroup f) (owner := panelConfigGroup p f)
    rfl h rfl (hears_panelConfigGroup p p f)

theorem exec_displayStop_of_admits (h : s.admits p .displayControl) :
    exec (.displayStop p) s =
      .next (settle (answered p ReqCode.displayControl.byte 4 (displayStop s).2 (displayStop s).1)) :=
  exec_of_admits (i := .displayStop p) (body := writeDisplayStop) (owner := displayStop) rfl h rfl (hears_displayStop p)

theorem exec_displayRecover_of_admits (h : s.admits p .displayControl) (line : ClockLine) :
    exec (.displayRecover p line) s =
      .next (settle (answered p ReqCode.displayControl.byte 4 (displayRecover p line s).2
        (displayRecover p line s).1)) :=
  exec_of_admits (i := .displayRecover p line) (body := writeDisplayRecover) (owner := displayRecover p line)
    rfl h rfl (hears_displayRecover p p line)

theorem exec_displayFrameCount_of_admits (h : s.admits p .displayControl) (f : FrameCountBody) :
    exec (.displayFrameCount p f) s =
      .next (settle (answered p ReqCode.displayControl.byte 4 (displayFrameCount p f s).2
        (displayFrameCount p f s).1)) :=
  exec_of_admits (i := .displayFrameCount p f) (body := writeFrameCount f) (owner := displayFrameCount p f)
    rfl h rfl (hears_displayFrameCount p p f)

theorem exec_displayAutoRecovery_of_admits (h : s.admits p .displayControl) (f : AutoRecoveryBody) :
    exec (.displayAutoRecovery p (.fields f)) s =
      .next (settle (answered p ReqCode.displayControl.byte 4 (displayAutoRecovery (.fields f) s).2
        (displayAutoRecovery (.fields f) s).1)) :=
  exec_of_admits (i := .displayAutoRecovery p (.fields f)) (body := writeAutoRecovery f)
    (owner := displayAutoRecovery (.fields f)) rfl h rfl (hears_displayAutoRecovery p _)

theorem exec_supplyLevels_of_admits (h : s.admits p .supplyLevels) (f : SupplyLevelsBody) :
    exec (.supplyLevels p (.fields f)) s =
      .next (settle (answered p ReqCode.supplyLevels.byte 2 (supplyLevels f s).2 (supplyLevels f s).1)) :=
  exec_of_admits (i := .supplyLevels p (.fields f)) (body := writeSupplyLevels f) (owner := supplyLevels f)
    rfl h rfl (hears_supplyLevels p f)

theorem exec_salesSuspend_of_admits (h : s.admits p .salesSuspend) (f : NoFields) :
    exec (.salesSuspend p (.fields f)) s =
      .next (settle (answered p ReqCode.salesSuspend.byte 0 (salesSuspend p f s).2 (salesSuspend p f s).1)) :=
  exec_of_admits (i := .salesSuspend p (.fields f)) (body := writeNoFields f) (owner := salesSuspend p f)
    rfl h rfl (hears_salesSuspend p p f)

theorem exec_salesResume_of_admits (h : s.admits p .salesResume) (f : NoFields) :
    exec (.salesResume p (.fields f)) s =
      .next (settle (answered p ReqCode.salesResume.byte 0 (salesResume p f s).2 (salesResume p f s).1)) :=
  exec_of_admits (i := .salesResume p (.fields f)) (body := writeNoFields f) (owner := salesResume p f)
    rfl h rfl (hears_salesResume p p f)

theorem exec_setRights_of_admits (h : s.admits p .setRights) (f : SetRightsBody) :
    exec (.setRights p (.fields f)) s =
      .next (settle (answered p ReqCode.setRights.byte 2 (setRights p f s).2 (setRights p f s).1)) :=
  exec_of_admits (i := .setRights p (.fields f)) (body := writeSetRights f) (owner := setRights p f)
    rfl h rfl (hears_setRights p p f)

theorem exec_portReset_of_admits (h : s.admits p .portReset) (f : PortResetBody) :
    exec (.portReset p (.fields f)) s =
      .next (settle (answered p ReqCode.portReset.byte 1 (portReset p f s).2 (portReset p f s).1)) :=
  exec_of_admits (i := .portReset p (.fields f)) (body := writePortReset f) (owner := portReset p f)
    rfl h rfl (hears_portReset p p f)

theorem exec_listCalls_of_admits (h : s.admits p .listCalls) (f : TableRunBody) :
    exec (.listCalls p (.fields f)) s =
      .next (settle (answered p ReqCode.listCalls.byte 3 (listCalls f s).2 (listCalls f s).1)) :=
  exec_of_admits (i := .listCalls p (.fields f)) (body := writeTableRun f) (owner := listCalls f)
    rfl h rfl (hears_listCalls p f)

theorem exec_readCounters_of_admits (h : s.admits p .readCounters) (f : ReadCountersBody) :
    exec (.readCounters p (.fields f)) s =
      .next (settle (answered p ReqCode.readCounters.byte 3 (readCounters p f s).2 (readCounters p f s).1)) :=
  exec_of_admits (i := .readCounters p (.fields f)) (body := writeReadCounters f) (owner := readCounters p f)
    rfl h rfl (hears_readCounters p p f)

theorem exec_readNotices_of_admits (h : s.admits p .readNotices) (f : ReadNoticesBody) :
    exec (.readNotices p (.fields f)) s =
      .next (settle (answered p ReqCode.readNotices.byte 2 (readNotices p f s).2 (readNotices p f s).1)) :=
  exec_of_admits (i := .readNotices p (.fields f)) (body := writeReadNotices f) (owner := readNotices p f)
    rfl h rfl (hears_readNotices p f)

theorem exec_ttCalls_of_admits (h : s.admits p .ttCalls) (f : TtCallsBody) (one : 1 ≤ f.records.length)
    (most : f.records.length ≤ 12) :
    exec (.ttCalls p (.fields f)) s =
      .next (settle (answered p ReqCode.ttCalls.byte (2 + 6 * f.records.length) (ttCalls p f s).2
        (ttCalls p f s).1)) := by
  have long : (writeTtCalls f).length = 2 + 6 * f.records.length := by
    simp [writeTtCalls, length_writeRecords, -List.length_flatMap]
    omega
  rw [← long]
  exact exec_of_admits (i := .ttCalls p (.fields f)) (body := writeTtCalls f) (owner := ttCalls p f) rfl h
    (fits_writeTtCalls f one most) (hears_ttCalls p p f)

theorem exec_farePriceWrite_of_admits (h : s.admits p .farePriceWrite) (f : FarePriceBody)
    (one : 1 ≤ f.prices.length) (most : f.prices.length ≤ 15) :
    exec (.farePriceWrite p (.fields f)) s =
      .next (settle (answered p ReqCode.farePriceWrite.byte (2 + 3 * f.prices.length) (farePriceWrite f s).2
        (farePriceWrite f s).1)) := by
  have long : (writeFarePrice f).length = 2 + 3 * f.prices.length := by
    simp [writeFarePrice, length_writeAmounts, -List.length_flatMap]
    omega
  rw [← long]
  exact exec_of_admits (i := .farePriceWrite p (.fields f)) (body := writeFarePrice f) (owner := farePriceWrite f) rfl
    h (fits_writeFarePrice f one most) (hears_farePriceWrite p f)

end Requests

end Sys2Proof.Machine
end

section
/-! PROOFS. The staged load and the live updates (O12 to O15): TT_CALLS, TT_END and SVC_UPDATE by the branches of
their owners. -/

namespace Sys2Proof.Machine

variable {s : State} {p : Port}

/-! ## What an append does with the counters and the entries (R100, R102) -/

theorem append_of_room {k : EntryKind} (room : k.room ≤ s.journal.free) :
    append k s = uploadDue s (freeMessage s.journal (pushEntry k s)) :=
  if_neg (Nat.not_lt.mpr room)

theorem append_of_no_room {k : EntryKind} (full : s.journal.free < k.room) :
    append k s = count .journalDropped s :=
  if_pos full

theorem append_counters_of_room {k : EntryKind} (room : k.room ≤ s.journal.free) :
    (append k s).counters = s.counters := by
  simp [append_of_room room]

theorem append_entries_of_room {k : EntryKind} (room : k.room ≤ s.journal.free) :
    (append k s).journal.entries = s.journal.entries ++ [newEntry k s] := by
  simp [append_journal, Nat.not_lt.mpr room, pushEntry]

theorem append_journal_of_no_room {k : EntryKind} (full : s.journal.free < k.room) :
    (append k s).journal = s.journal := by
  simp [append_of_no_room full]

/-! ## A request of the holder, of another port, and with no staging (R17, R18) -/

theorem onStaging_of_none (h : s.store.staging = none) (act : Staging → Owner) :
    onStaging p act s = (s, .refuse .badSequence) := by
  simp [onStaging, h]

theorem onStaging_of_other {g : Staging} (h : s.store.staging = some g) (other : g.holder ≠ p)
    (act : Staging → Owner) : onStaging p act s = (s, .refuse .busy) := by
  simp [onStaging, h, other]

theorem onStaging_of_holder {g : Staging} (h : s.store.staging = some g) (own : g.holder = p)
    (act : Staging → Owner) :
    onStaging p act s = act { g with idle := 60 } (setStaging (some { g with idle := 60 }) s) := by
  simp [onStaging, h, own]

@[simp] theorem setStaging_setStaging (a b : Option Staging) (s : State) :
    setStaging a (setStaging b s) = setStaging a s := rfl

/-- Settles O12: the staging test by `onStaging_of_…`, then the owner's own checks in their order. -/
theorem ttCallsAppendsRecords : Obligations.TtCallsAppendsRecords := by
  intro p f s admits one most n
  rw [exec_ttCalls_of_admits admits f one most]
  refine ⟨fun empty => ?_, fun g staged => ⟨fun other => ?_, fun own => ?_⟩⟩
  · rw [ttCalls, onStaging_of_none empty]
  · rw [ttCalls, onStaging_of_other staged other]
  · rw [ttCalls, onStaging_of_holder staged own]
    refine ⟨fun wrong => ?_, fun next past => ?_, fun next inside => ⟨fun bad => ?_, fun cs read => ⟨?_, ?_⟩⟩⟩
    · rw [if_pos wrong]
    · rw [if_neg (not_not_intro next), if_pos past]
    · rw [if_neg (not_not_intro next), if_neg (Nat.not_lt.mpr inside), bad]
    · exact (stagedCallsOf_eq_some read).1
    · rw [if_neg (not_not_intro next), if_neg (Nat.not_lt.mpr inside), read]
      rfl

/-! ## TT_END by its checks (R18) -/

/-- What a staging becomes does not depend on its idle timer. -/
theorem placeStaging_touched (g : Staging) (n : Nat) (t : TableName) (x : Option Staging) (s : State) :
    placeStaging { g with idle := n } t (setStaging x s) = placeStaging g t s := by
  cases t <;> rfl

theorem ttEnd_of_holder {g : Staging} (h : s.store.staging = some g) (own : g.holder = p) :
    ttEnd p {} s =
      if g.next ≠ g.count then (setStaging (some { g with idle := 60 }) s, .refuse .incomplete)
      else if stagedOrdered g.calls = false then (setStaging none s, .refuse .badRequest)
      else
        match s.clock.target g.day with
        | none => (setStaging none s, .refuse .wrongDay)
        | some t =>
          if versionNewer (s.store.table t) g.version = false then (setStaging none s, .refuse .staleVersion)
          else (placeStaging g t s, .okWith (num1 t.code)) := by
  rw [ttEnd, onStaging_of_holder h own]
  simp only [placeStaging_touched, setStaging_setStaging]
  rfl

theorem versionNewer_eq_false_iff {old : Option DayTable} {version : Nat} :
    versionNewer old version = false ↔ ∃ t, old = some t ∧ version ≤ t.version := by
  cases old <;> simp [versionNewer]

theorem versionNewer_eq_true {old : Option DayTable} {version : Nat} (h : ∀ t, old = some t → t.version < version) :
    versionNewer old version = true := by
  cases old with
  | none => rfl
  | some t => simpa [versionNewer] using h t rfl

/-! ## The table a staging becomes (R19) -/

theorem StagedCall.placed_header (old : List Call) (c : StagedCall) :
    (c.placed old).direction = c.direction ∧ (c.placed old).destination = c.destination := by
  unfold StagedCall.placed
  split <;> exact ⟨rfl, rfl⟩

/-- A placed call carries the live fields of the old call of its service id (R19). -/
theorem StagedCall.placed_of_found {old : List Call} {c : StagedCall} {o : Call}
    (h : findCall old c.service = some o) :
    (c.placed old).state = o.state ∧ (c.placed old).report = o.report ∧ (c.placed old).actual = o.actual := by
  simp [StagedCall.placed, h]

/-- A placed call whose service id is new gets the initial live fields (R14, R19). -/
theorem StagedCall.placed_of_new {old : List Call} {c : StagedCall} (h : findCall old c.service = none) :
    (c.placed old).state = .scheduled ∧ (c.placed old).report = none ∧ (c.placed old).actual = none := by
  simp [StagedCall.placed, h]

@[simp] theorem StagedCall.placed_removed (old : List Call) (c : StagedCall) : (c.placed old).removed = false := by
  unfold StagedCall.placed
  split <;> rfl

/-- The flag alone of a call is tested as it enters its table (R15, R19). -/
theorem Call.entering_eq (t : TableName) (now : Nat) (c : Call) :
    c.entering t now = { c with removed := (c.entering t now).removed } := by
  cases t <;> rfl

@[simp] theorem Call.pastDisplay_removed (now : Nat) (c : Call) (flag : Bool) :
    { c with removed := flag }.pastDisplay now = c.pastDisplay now := rfl

theorem Call.entering_removed_iff (t : TableName) (now : Nat) {c : Call} (clear : c.removed = false) :
    (c.entering t now).removed = true ↔ t = .today ∧ (c.entering t now).pastDisplay now = true := by
  cases t with
  | today =>
    show (c.removed || c.pastDisplay now) = true ↔ _ ∧ c.pastDisplay now = true
    simp [clear]
  | tomorrow => simp [Call.entering, clear]

/-- What a call that enters its table holds (R14, R15, R19). -/
theorem entering_spec (t : TableName) (now : Nat) {old : List Call} (c : StagedCall) :
    let d := (c.placed old).entering t now
    d.service = c.service ∧ d.direction = c.direction ∧ d.scheduled = c.scheduled ∧ d.destination = c.destination ∧
      (∀ o, findCall old c.service = some o → d.state = o.state ∧ d.report = o.report ∧ d.actual = o.actual) ∧
      (findCall old c.service = none → d.state = .scheduled ∧ d.report = none ∧ d.actual = none) ∧
      (d.removed = true ↔ t = .today ∧ d.pastDisplay now = true) := by
  dsimp only
  have flag := Call.entering_removed_iff t now (StagedCall.placed_removed old c)
  rw [Call.entering_eq] at flag ⊢
  obtain ⟨direction, destination⟩ := StagedCall.placed_header old c
  exact ⟨StagedCall.placed_service old c, direction, StagedCall.placed_scheduled old c, destination,
    fun o found => StagedCall.placed_of_found found, fun new => StagedCall.placed_of_new new, flag⟩

theorem getElem?_table {g : Staging} {t : TableName} {now : Nat} {old : List Call} {i : Nat} {c : StagedCall}
    (h : g.calls[i]? = some c) : (g.table t now old).calls[i]? = some ((c.placed old).entering t now) := by
  simp [Staging.table, h]

/-! ## What the load does beside the store (R20) -/

theorem mem_discardedServices {old : List Call} {new : List StagedCall} {n : Nat} :
    n ∈ discardedServices old new ↔ n ∈ old.map Call.service ∧ n ∉ new.map StagedCall.service := by
  simp [discardedServices]

theorem Store.table_setTable (st : Store) (t : TableName) (x : Option DayTable) (g : Option Staging) :
    { st.setTable t x with staging := g }.table t = x := by
  cases t <;> rfl

theorem Store.table_setTable_of_ne (st : Store) {t u : TableName} (x : Option DayTable) (g : Option Staging)
    (h : u ≠ t) : { st.setTable t x with staging := g }.table u = st.table u := by
  cases t <;> cases u <;> first | rfl | exact absurd rfl h

/-- The state in which a staging's TIMETABLE entry is asked for. -/
def stagingPlaced (g : Staging) (t : TableName) (s : State) : State :=
  withdrawServices t (discardedServices (callsOf (s.store.table t)) g.calls)
    (setStore
      { s.store.setTable t (some (g.table t s.clock.minute (callsOf (s.store.table t)))) with staging := none } s)

theorem placeStaging_eq (g : Staging) (t : TableName) (s : State) :
    placeStaging g t s =
      setClock (kindLoaded t g.kind s.clock) (append (.timetable g.day g.version) (stagingPlaced g t s)) := by
  simp [placeStaging, stagingPlaced, withdrawServices]

theorem placeStaging_of_room {g : Staging} (t : TableName) (room : 3 ≤ s.journal.free) :
    (placeStaging g t s).journal.entries = s.journal.entries ++ [newEntry (.timetable g.day g.version) s] ∧
      (placeStaging g t s).counters = s.counters := by
  rw [placeStaging_eq]
  exact ⟨append_entries_of_room (k := .timetable g.day g.version) (s := stagingPlaced g t s) room,
    append_counters_of_room (k := .timetable g.day g.version) (s := stagingPlaced g t s) room⟩

theorem placeStaging_of_no_room {g : Staging} (t : TableName) (full : s.journal.free < 3) :
    (placeStaging g t s).journal = s.journal ∧
      (placeStaging g t s).counters = (count .journalDropped s).counters := by
  rw [placeStaging_eq]
  have dropped := append_of_no_room (k := .timetable g.day g.version) (s := stagingPlaced g t s) full
  rw [dropped]
  exact ⟨rfl, rfl⟩

theorem placeStaging_sales_eq (g : Staging) (t : TableName) (s : State) :
    (placeStaging g t s).sales =
      { s.sales with
        reasons := (placeStaging g t s).sales.reasons, ports := (placeStaging g t s).sales.ports } := by
  rw [placeStaging_eq, setClock_sales, append_sales_eq]
  rfl

theorem portsKeptButNotices_placeStaging (g : Staging) (t : TableName) (s : State) :
    portsKeptButNotices s (placeStaging g t s) := by
  rw [placeStaging_eq]
  exact portsKeptButNotices_append (.timetable g.day g.version) (stagingPlaced g t s)

/-- Settles O13: the checks by `ttEnd_of_holder`, the load by what `placeStaging` does to each block. -/
theorem ttEndReplacesTable : Obligations.TtEndReplacesTable := by
  refine ⟨fun p s admits empty => ?_, fun p s g admits staged => ⟨fun other => ?_, fun own more => ?_, fun own full => ?_⟩⟩
  · rw [exec_ttEnd_of_admits admits, ttEnd, onStaging_of_none empty]
  · rw [exec_ttEnd_of_admits admits, ttEnd, onStaging_of_other staged other]
  · rw [exec_ttEnd_of_admits admits, ttEnd_of_holder staged own, if_pos more]
  · intro gone
    rw [exec_ttEnd_of_admits admits, ttEnd_of_holder staged own, if_neg (not_not_intro full)]
    refine ⟨fun unordered => ?_, fun ordered => ?_⟩
    · rw [if_pos unordered]
    · rw [if_neg (by simp [ordered])]
      refine ⟨fun wrong => ?_, fun name target => ⟨fun old held stale => ?_, fun newer => ?_⟩⟩
      · rw [wrong]
      · rw [target]
        have : versionNewer (s.store.table name) g.version = false := versionNewer_eq_false_iff.mpr ⟨old, held, stale⟩
        simp only [this, if_true]
        rfl
      · rw [target]
        simp only [versionNewer_eq_true newer, Bool.true_eq_false, if_false]
        have store := placeStaging_store g name s
        refine ⟨_, g.table name s.clock.minute (callsOf (s.store.table name)), rfl, ?_, fun other ne => ?_, ?_, ?_, ?_,
          rfl, rfl, rfl, by simp [Staging.table], fun i c at_i => ⟨_, getElem?_table at_i, ?_⟩, fun o => ?_,
          placeStaging_sales_eq g name s, ?_, fun room => ?_, fun full => ?_,
          portsKeptButNotices_placeStaging g name s, placeStaging_changesOnly g name s⟩
        · rw [store]
          exact Store.table_setTable _ _ _ _
        · rw [store]
          exact Store.table_setTable_of_ne _ _ _ ne
        · rw [store]
        · rw [store]
          cases name <;> rfl
        · rw [store]
          cases name <;> rfl
        · exact entering_spec name s.clock.minute c
        · obtain ⟨gone, stays⟩ := quotesWithdrawn_placeStaging g name s o
          have hit (q : Quote) : (∃ r, q.request.target = some r ∧ r.table = name ∧
              r.service ∈ discardedServices (callsOf (s.store.table name)) g.calls) ↔
              ∃ r, q.request.target = some r ∧ r.table = name ∧
                r.service ∈ (callsOf (s.store.table name)).map Call.service ∧
                r.service ∉ g.calls.map StagedCall.service := by
            simp only [mem_discardedServices]
          simp only [hit] at gone stays
          refine ⟨fun q slot => ⟨gone q slot, fun held => ?_⟩, fun empty => ?_⟩
          · obtain ⟨kept, -⟩ := stays fun q' slot' => by
              obtain rfl := Option.some.inj (slot.symm.trans slot')
              exact held
            rw [kept]
            exact slot
          · obtain ⟨kept, marked, same⟩ := stays fun q' slot' => by cases empty.symm.trans slot'
            refine ⟨kept, fun q mark => ⟨marked q mark, fun held => same fun q' mark' => ?_⟩⟩
            obtain rfl := QuoteMark.expired.inj (mark.symm.trans mark')
            exact held
        · rw [placeStaging_clock]
          cases name <;> rfl
        · obtain ⟨entries, counters⟩ := placeStaging_of_room name room
          exact ⟨entries, countsOnly_of_counters counters⟩
        · obtain ⟨journal, counters⟩ := placeStaging_of_no_room name full
          refine ⟨journal, fun c other => ?_, ?_⟩
          · rw [counter_of_counters counters]
            exact counter_countBy_of_ne _ _ (by simpa using other)
          · rw [counter_of_counters counters]
            exact counter_countBy_self _ _ _

/-! ## SVC_UPDATE (R23 to R26) -/

theorem svcUpdate_of_bad {table : Byte} {service : BitVec 16} (bad : callRefOf table service = none)
    (act : CallRef → Call → Owner) : svcUpdate table service act s = (s, .refuse .badRequest) := by
  simp [svcUpdate, bad]

theorem svcUpdate_of_absent {table : Byte} {service : BitVec 16} {r : CallRef} (ref : callRefOf table service = some r)
    (absent : s.store.call r = none) (act : CallRef → Call → Owner) :
    svcUpdate table service act s = (s, .refuse .noSuch) := by
  simp [svcUpdate, ref, absent]

theorem svcUpdate_of_found {table : Byte} {service : BitVec 16} {r : CallRef} {c : Call}
    (ref : callRefOf table service = some r) (found : s.store.call r = some c) (act : CallRef → Call → Owner) :
    svcUpdate table service act s = act r c s := by
  simp [svcUpdate, ref, found]

/-- A change of one call: that call, every other one, and the rest of the store (R23). -/
theorem call_setStore_onCall {f : Call → Call} (keep : ∀ c, (f c).service = c.service) {r : CallRef} {c : Call}
    (found : s.store.call r = some c) :
    (setStore (s.store.onCall r f) s).store.call r = some (f c) ∧
      (∀ q, q ≠ r → (setStore (s.store.onCall r f) s).store.call q = s.store.call q) ∧
      storeKeptButCalls s (setStore (s.store.onCall r f) s) := by
  have changed (q : CallRef) := Store.call_onCall keep s.store r q
  refine ⟨?_, fun q ne => ?_, storeKeptButCalls_onCall keep rfl⟩
  · simp [changed, found]
  · simp [changed, ne]

/-- Settles O14. -/
theorem svcUpdateSetsReport : Obligations.SvcUpdateSetsReport := by
  intro p d f s admits table service
  rw [exec_svcUpdateDelay_of_admits admits, exec_svcUpdateClearDelay_of_admits admits, svcDelay, svcClearDelay, ← table,
    ← service]
  refine ⟨fun bad => ?_, fun r ref => ⟨fun absent => ?_, fun c found => ?_⟩⟩
  · simp only [svcUpdate_of_bad bad, and_self]
  · simp only [svcUpdate_of_absent ref absent, and_self]
  · simp only [svcUpdate_of_found ref found, changeCall]
    obtain ⟨set, kept, rest⟩ := call_setStore_onCall (f := fun c => { c with report := some (reportOf d.delay d.allowance) })
      (fun _ => rfl) found
    obtain ⟨cleared, kept', rest'⟩ := call_setStore_onCall (f := fun c => { c with report := none }) (fun _ => rfl) found
    exact ⟨_, _, rfl, rfl, set, cleared, fun q ne => ⟨kept q ne, kept' q ne⟩,
      rest, rest',
      setStore_changesOnly _ s, setStore_changesOnly _ s⟩

/-- Settles O15, by the state of the call named. -/
theorem svcUpdateCancelsAndReinstates : Obligations.SvcUpdateCancelsAndReinstates := by
  intro p f s admits
  rw [exec_svcUpdateCancel_of_admits admits, exec_svcUpdateReinstate_of_admits admits, svcCancel, svcReinstate]
  refine ⟨fun bad => ?_, fun r ref => ⟨fun absent => ?_, fun c found => ?_⟩⟩
  · simp only [svcUpdate_of_bad bad, and_self]
  · simp only [svcUpdate_of_absent ref absent, and_self]
  · simp only [svcUpdate_of_found ref found, changeCall]
    refine ⟨fun state => ?_, fun state => ?_, fun state => ?_, fun state => ?_⟩
    · rw [state]
      obtain ⟨set, kept, rest⟩ := call_setStore_onCall (f := fun c => { c with state := .cancelled }) (fun _ => rfl) found
      exact ⟨_, rfl, set, kept, rest,
        fun q x held => (holds_of_withdrawCall held).symm,
        quotesWithdrawn_from rfl (quotesWithdrawn_withdrawCall r _), rfl, changesOnly_iff.mpr (by simp [withdrawCall])⟩
    · rw [state]
      obtain ⟨set, kept, rest⟩ := call_setStore_onCall (f := fun c => { c with state := .scheduled, removed := false })
        (fun _ => rfl) found
      exact ⟨rfl, _, rfl, set, kept, rest, setStore_changesOnly _ s⟩
    · rcases state with state | state <;> rw [state]
    · cases state' : c.state with
      | cancelled => exact absurd state' state
      | _ => rfl

end Sys2Proof.Machine
end

section
/-! PROOFS. The minute tick, TIME_SET and the elapsed second (O7, O9, O10): the lapses of a tick one after the other,
then the flags, the 23:00 test and the horizon test. -/

namespace Sys2Proof.Machine

variable {s t u : State} {p : Port}

/-! ## What an append does with the reasons and the notices (R103, R104, R121) -/

theorem hasNotice_freeMessage_of_ne {n : Notice} (sales : n ≠ .salesState) (before : Journal) :
    (freeMessage before s).hasNotice p n ↔ s.hasNotice p n := by
  rcases freeMessage_eq before s with ⟨-, -, e⟩ | ⟨-, -, e⟩ | ⟨-, e⟩ <;> rw [e]
  · simp [addReason, hasNotice_changeReasons, sales]
  · simp [removeReason, hasNotice_changeReasons, sales]

/-- An append notices SALES_STATE and UPLOAD_DUE at most. -/
theorem hasNotice_append_of_ne {n : Notice} (sales : n ≠ .salesState) (upload : n ≠ .uploadDue) (k : EntryKind) :
    (append k s).hasNotice p n ↔ s.hasNotice p n := by
  rcases append_eq k s with ⟨-, e⟩ | ⟨-, e⟩ <;> rw [e]
  · rfl
  · rw [hasNotice_uploadDue, hasNotice_freeMessage_of_ne sales]
    simp only [upload, false_and, and_false, or_false]
    rfl

theorem setErase_ne_iff {α : Type} [DecidableEq α] {x : α} {l : List α} : setErase x l ≠ l ↔ x ∈ l := by
  refine ⟨fun changed => Classical.byContradiction fun out => changed (setErase_of_not_mem out), fun held same => ?_⟩
  rw [← same] at held
  simp at held

/-- A reason taken out notices SALES_STATE to the terminal and service ports where it stood in the set. -/
theorem hasNotice_removeReason {r : Reason} {n : Notice} :
    (removeReason r s).hasNotice p n ↔
      s.hasNotice p n ∨ (p ≠ .link ∧ n = .salesState ∧ r ∈ s.sales.reasons) := by
  rw [removeReason, hasNotice_changeReasons, setErase_ne_iff]
  grind

/-- JOURNAL_FULL joins the reasons where the free count has fallen below 2 from `s` to `t`, and does not leave
them. -/
def fillsJournal (s t : State) : Prop :=
  t.journal.free ≤ s.journal.free ∧
    (.journalFull ∈ t.sales.reasons ↔
      .journalFull ∈ s.sales.reasons ∨ (2 ≤ s.journal.free ∧ t.journal.free < 2))

theorem fillsJournal.refl (s : State) : fillsJournal s s := ⟨Nat.le_refl _, by grind⟩

theorem fillsJournal.trans (a : fillsJournal s t) (b : fillsJournal t u) : fillsJournal s u := by
  obtain ⟨less, full⟩ := a
  obtain ⟨less', full'⟩ := b
  refine ⟨Nat.le_trans less' less, ?_⟩
  rw [full', full]
  grind

theorem Journal.free_of_room {j : Journal} (room : 1 ≤ j.free) :
    j.free = journalSize - j.entries.length ∧ j.nextSequence ≤ lastSequence := by
  obtain ⟨-, next⟩ := Journal.free_pos_iff.mp room
  exact ⟨if_neg (Nat.not_lt.mpr next), next⟩

/-- An entry more leaves one free entry less, or none once the sequence numbers have run out (R99, R101). -/
theorem free_pushEntry (k : EntryKind) (room : 1 ≤ s.journal.free) :
    (pushEntry k s).journal.free = if s.journal.nextSequence = lastSequence then 0 else s.journal.free - 1 := by
  obtain ⟨free, next⟩ := Journal.free_of_room room
  rw [free]
  unfold Journal.free
  simp only [pushEntry, List.length_append, List.length_singleton]
  (repeat' split) <;> omega

theorem fillsJournal_append (k : EntryKind) (s : State) : fillsJournal s (append k s) := by
  rcases append_eq k s with ⟨-, e⟩ | ⟨room, e⟩
  · rw [e]
    exact fillsJournal.refl s
  · have free := free_pushEntry (s := s) k (Nat.le_trans (EntryKind.one_le_room k) room)
    have less : (pushEntry k s).journal.free ≤ s.journal.free := by
      rw [free]
      split <;> omega
    rw [e]
    refine ⟨by simpa using less, ?_⟩
    rw [uploadDue_sales, uploadDue_journal, freeMessage_journal]
    rcases freeMessage_eq s.journal (pushEntry k s) with ⟨before, after, e⟩ | ⟨before, after, e⟩ | ⟨same, e⟩ <;> rw [e]
    · simp [before, after]
    · omega
    · show _ ↔ _ ∨ _
      have : (pushEntry k s).sales = s.sales := rfl
      rw [this]
      grind

/-! ## A counter raised (R180) -/

/-- A counter of `t` is that of `s` raised by `n`. -/
def raisedBy (c : Counter) (n : Nat) (s t : State) : Prop :=
  t.counter c = if n = 0 then s.counter c else s.counterPlus c n

theorem raisedBy.trans {c : Counter} {m n : Nat} (a : raisedBy c m s t) (b : raisedBy c n t u) :
    raisedBy c (m + n) s u := by
  unfold raisedBy State.counterPlus at *
  rw [b, a]
  (repeat' split) <;> omega

theorem raisedBy_zero {c : Counter} : raisedBy c 0 s t ↔ t.counter c = s.counter c := Iff.rfl

theorem raisedBy_count (c : Counter) (s : State) : raisedBy c 1 s (count c s) := counter_countBy_self c 1 s

theorem raisedBy_of_counters {c : Counter} (h : t.counters = s.counters) : raisedBy c 0 s t := counter_of_counters h c

theorem raisedBy_count_of_ne {c d : Counter} (h : d ≠ c) (s : State) : raisedBy d 0 s (count c s) :=
  counter_countBy_of_ne 1 s h

theorem raisedBy.of_pos {c : Counter} {n : Nat} (h : raisedBy c n s t) (pos : n ≠ 0) :
    t.counter c = s.counterPlus c n := Eq.trans h (if_neg pos)

/-! ## The lapses of a tick (R30, R31, R102) -/

/-- The calls of a run lapsed one after the other. -/
def lapseAll (due : List Call) (s : State) : State := due.foldl (fun t c => lapseCall c t) s

@[simp] theorem lapseAll_nil (s : State) : lapseAll [] s = s := rfl

@[simp] theorem lapseAll_cons (c : Call) (due : List Call) (s : State) :
    lapseAll (c :: due) s = lapseAll due (lapseCall c s) := rfl

theorem lapseCalls_eq (s : State) :
    lapseCalls s = lapseAll ((callsOf s.store.today).filter (Call.lapses s.clock.minute)) s := rfl

/-- The state in which a lapse asks for its entry. -/
def lapsing (c : Call) (s : State) : State :=
  withdrawCall ⟨.today, c.service⟩ (setStore (s.store.onCall ⟨.today, c.service⟩ Call.lapsed) s)

theorem lapseCall_eq (c : Call) (s : State) :
    lapseCall c s = count .callsLapsed (append (.lapsedCall c.service c.scheduled) (lapsing c s)) := rfl

theorem lapseCall_of_room {c : Call} (room : 3 ≤ s.journal.free) :
    (lapseCall c s).journal = (pushEntry (.lapsedCall c.service c.scheduled) s).journal ∧
      raisedBy .journalDropped 0 s (lapseCall c s) := by
  have fits : (EntryKind.lapsedCall c.service c.scheduled).room ≤ (lapsing c s).journal.free := room
  refine ⟨?_, ?_⟩
  · rw [lapseCall_eq, count_journal, append_journal, if_neg (Nat.not_lt.mpr fits)]
    rfl
  · rw [lapseCall_eq]
    have appended : raisedBy .journalDropped 0 s (append (.lapsedCall c.service c.scheduled) (lapsing c s)) :=
      raisedBy_of_counters (s := s) (append_counters_of_room (s := lapsing c s) fits)
    exact appended.trans (raisedBy_count_of_ne (c := .callsLapsed) (d := .journalDropped) (by decide) _)

theorem lapseCall_of_no_room {c : Call} (full : s.journal.free < 3) :
    (lapseCall c s).journal = s.journal ∧ raisedBy .journalDropped 1 s (lapseCall c s) := by
  have dropped : append (.lapsedCall c.service c.scheduled) (lapsing c s) = count .journalDropped (lapsing c s) :=
    append_of_no_room full
  rw [lapseCall_eq, dropped]
  exact ⟨rfl, (raisedBy_count .journalDropped (lapsing c s)).trans (raisedBy_count_of_ne (by decide) _)⟩

theorem lapseCall_counters (c : Call) (s : State) :
    raisedBy .callsLapsed 1 s (lapseCall c s) ∧ countsOnly [.callsLapsed, .journalDropped] s (lapseCall c s) := by
  have appended (d : Counter) (other : d ≠ .journalDropped) :
      raisedBy d 0 s (append (.lapsedCall c.service c.scheduled) (lapsing c s)) := by
    rcases append_eq (.lapsedCall c.service c.scheduled) (lapsing c s) with ⟨-, e⟩ | ⟨room, -⟩
    · rw [e]
      exact raisedBy_count_of_ne other (lapsing c s)
    · exact raisedBy_of_counters (s := s) (append_counters_of_room room)
  rw [lapseCall_eq]
  refine ⟨?_, fun d other => ?_⟩
  · simpa using (appended _ (by decide)).trans (raisedBy_count _ _)
  · obtain ⟨lapsed, dropped⟩ : d ≠ .callsLapsed ∧ d ≠ .journalDropped := by simpa using other
    exact (appended d dropped).trans (raisedBy_count_of_ne lapsed _)

theorem fillsJournal_lapseCall (c : Call) (s : State) : fillsJournal s (lapseCall c s) :=
  fillsJournal_append (.lapsedCall c.service c.scheduled) (lapsing c s)

theorem mem_reasons_lapseCall {r : Reason} (other : r ≠ .journalFull) (c : Call) (s : State) :
    r ∈ (lapseCall c s).sales.reasons ↔ r ∈ s.sales.reasons :=
  mem_reasons_append other (.lapsedCall c.service c.scheduled) (lapsing c s)

theorem portsKeptButNotices_lapseCall (c : Call) (s : State) : portsKeptButNotices s (lapseCall c s) :=
  portsKeptButNotices_append (.lapsedCall c.service c.scheduled) (lapsing c s)

theorem hasNotice_lapseCall_of_ne {n : Notice} (sales : n ≠ .salesState) (upload : n ≠ .uploadDue) (c : Call) :
    (lapseCall c s).hasNotice p n ↔ s.hasNotice p n :=
  hasNotice_append_of_ne sales upload (s := lapsing c s) _

/-- How many of `n` entries that need 3 free ones a journal takes (R101, R102). -/
def lapseRoom (n : Nat) (j : Journal) : Nat := min n (min (j.free - 2) (lastSequence + 1 - j.nextSequence))

theorem lapseRoom_of_full {n : Nat} {j : Journal} (full : j.free < 3) : lapseRoom n j = 0 := by
  unfold lapseRoom
  omega

theorem lapseRoom_of_room {n : Nat} (k : EntryKind) (room : 3 ≤ s.journal.free) :
    lapseRoom (n + 1) s.journal = lapseRoom n (pushEntry k s).journal + 1 := by
  obtain ⟨-, next⟩ := Journal.free_of_room (j := s.journal) (by omega)
  unfold lapseRoom
  rw [free_pushEntry k (by omega)]
  simp only [pushEntry]
  split <;> omega

/-- What a run of lapses does with the journal and the counters (R31, R102). -/
theorem lapseAll_spec (due : List Call) (s : State) :
    (lapseAll due s).journal.entries.map Entry.kind =
        s.journal.entries.map Entry.kind ++
          (due.take (lapseRoom due.length s.journal)).map (fun c => .lapsedCall c.service c.scheduled) ∧
      (lapseAll due s).journal.nextSequence = s.journal.nextSequence + lapseRoom due.length s.journal ∧
      (lapseAll due s).journal.batch = s.journal.batch ∧
      raisedBy .journalDropped (due.length - lapseRoom due.length s.journal) s (lapseAll due s) := by
  induction due generalizing s with
  | nil => simp [lapseRoom, raisedBy]
  | cons c due ih =>
    obtain ⟨kinds, next, batch, dropped⟩ := ih (lapseCall c s)
    rw [lapseAll_cons, kinds, next, batch, List.length_cons]
    rcases Nat.lt_or_ge s.journal.free 3 with full | room
    · obtain ⟨journal, counted⟩ := lapseCall_of_no_room (c := c) full
      rw [journal] at dropped ⊢
      rw [lapseRoom_of_full full] at dropped ⊢
      rw [lapseRoom_of_full full]
      exact ⟨by simp, rfl, rfl, by simpa [Nat.add_comm] using counted.trans dropped⟩
    · obtain ⟨journal, counted⟩ := lapseCall_of_room (c := c) room
      rw [journal] at dropped ⊢
      rw [lapseRoom_of_room (.lapsedCall c.service c.scheduled) room]
      exact ⟨by simp [pushEntry, newEntry], by simp [pushEntry]; omega, rfl, by simpa using counted.trans dropped⟩

theorem lapseAll_counters (due : List Call) (s : State) :
    raisedBy .callsLapsed due.length s (lapseAll due s) ∧
      countsOnly [.callsLapsed, .journalDropped] s (lapseAll due s) := by
  induction due generalizing s with
  | nil => exact ⟨rfl, fun _ _ => rfl⟩
  | cons c due ih =>
    obtain ⟨lapsed, others⟩ := ih (lapseCall c s)
    obtain ⟨one, kept⟩ := lapseCall_counters c s
    exact ⟨by simpa [Nat.add_comm] using one.trans lapsed, fun d other => (others d other).trans (kept d other)⟩

theorem fillsJournal_lapseAll (due : List Call) (s : State) : fillsJournal s (lapseAll due s) := by
  induction due generalizing s with
  | nil => exact fillsJournal.refl s
  | cons c due ih => exact (fillsJournal_lapseCall c s).trans (ih _)

theorem mem_reasons_lapseAll {r : Reason} (other : r ≠ .journalFull) (due : List Call) (s : State) :
    r ∈ (lapseAll due s).sales.reasons ↔ r ∈ s.sales.reasons := by
  induction due generalizing s with
  | nil => rfl
  | cons c due ih => exact (ih _).trans (mem_reasons_lapseCall other c s)

theorem portsKeptButNotices_lapseAll (due : List Call) (s : State) : portsKeptButNotices s (lapseAll due s) := by
  induction due generalizing s with
  | nil => exact portsKeptButNotices_refl s
  | cons c due ih => exact (portsKeptButNotices_lapseCall c s).trans (ih _)

theorem hasNotice_lapseAll_of_ne {n : Notice} (sales : n ≠ .salesState) (upload : n ≠ .uploadDue) (due : List Call) :
    (lapseAll due s).hasNotice p n ↔ s.hasNotice p n := by
  induction due generalizing s with
  | nil => rfl
  | cons c due ih => exact ih.trans (hasNotice_lapseCall_of_ne sales upload c)

/-! ## The rest of a tick: the flags, the 23:00 test and the horizon test -/

theorem eveningTest_eq (s : State) :
    (1200 ≤ s.clock.minute ∧ s.store.tomorrow = none ∧ s.store.neededMark = false ∧
      eveningTest s = post .timetableNeeded (setStore { s.store with neededMark := true } s)) ∨
    (¬ (1200 ≤ s.clock.minute ∧ s.store.tomorrow = none ∧ s.store.neededMark = false) ∧ eveningTest s = s) := by
  unfold eveningTest
  simp only [Option.isNone_iff_eq_none]
  split
  · rename_i due
    obtain ⟨late, empty, clear⟩ := due
    exact .inl ⟨late, empty, clear, rfl⟩
  · exact .inr ⟨‹_›, rfl⟩

theorem portsKeptButNotices_eveningTest (s : State) : portsKeptButNotices s (eveningTest s) := by
  rcases eveningTest_eq s with ⟨-, -, -, e⟩ | ⟨-, e⟩ <;> rw [e]
  · exact portsKeptButNotices_post .timetableNeeded (setStore _ s)
  · exact portsKeptButNotices_refl s

theorem hasNotice_eveningTest_of_ne {n : Notice} (other : n ≠ .timetableNeeded) :
    (eveningTest s).hasNotice p n ↔ s.hasNotice p n := by
  rcases eveningTest_eq s with ⟨-, -, -, e⟩ | ⟨-, e⟩ <;> rw [e]
  rw [hasNotice_post]
  simp only [other, and_false, or_false]
  rfl

@[simp] theorem eveningTest_today (s : State) : (eveningTest s).store.today = s.store.today := by
  rcases eveningTest_eq s with ⟨-, -, -, e⟩ | ⟨-, e⟩ <;> simp [e]

/-- The lapses and the flags of a tick, before its tests. -/
def tickedCalls (s : State) : State := flagCalls (lapseCalls s)

theorem minuteTick_eq (s : State) : minuteTick s = horizonTest (eveningTest (tickedCalls s)) := rfl

theorem tickedCalls_lapseAll (s : State) :
    ∃ due st, due = (callsOf s.store.today).filter (Call.lapses s.clock.minute) ∧
      tickedCalls s = setStore st (lapseAll due s) := ⟨_, _, rfl, rfl⟩

@[simp] theorem lapseAll_compositor (due : List Call) (s : State) : (lapseAll due s).compositor = s.compositor := by
  induction due generalizing s with
  | nil => rfl
  | cons c due ih => simp [ih]

theorem lapseAll_storeRest (due : List Call) (s : State) :
    (lapseAll due s).store.tomorrow = s.store.tomorrow ∧ (lapseAll due s).store.neededMark = s.store.neededMark := by
  rw [lapseAll, foldl_lapseCall_store]
  exact ⟨rfl, rfl⟩

/-- The horizon test: the group wakes, sleeps, or is left (R136, R138). -/
theorem horizonTest_compositor (s : State) :
    (horizonTest s).compositor =
      if s.compositor.group = .asleep ∧ s.store.hasHorizon s.clock.minute = true then (groupWake s).compositor
      else if s.compositor.group = .awake ∧ s.compositor.idle = none ∧ s.store.hasHorizon s.clock.minute = false then
        (groupSleep s).compositor
      else s.compositor := by
  unfold horizonTest
  cases group : s.compositor.group <;> cases horizon : s.store.hasHorizon s.clock.minute <;>
    cases idle : s.compositor.idle <;> simp

theorem panel_groupWake (s : State) (i : Fin 8) : (groupWake s).panel i = (s.panel i).groupWake := by
  simp [State.panel, groupWake, mapPanels]

theorem panel_groupSleep (s : State) (i : Fin 8) : (groupSleep s).panel i = (s.panel i).groupSleep := by
  simp [State.panel, groupSleep, mapPanels]

theorem Panel.groupWake_eq (r : Panel) :
    r.groupWake =
      if r.state = .asleep then { r with pending := .wake }
      else if r.state = .awake then { r with pending := .none }
      else r := by
  unfold Panel.groupWake
  cases r.state <;> rfl

theorem Panel.groupSleep_eq (r : Panel) :
    r.groupSleep =
      if r.state = .awake then { r with pending := .sleep }
      else if r.state = .asleep then { r with pending := .none }
      else r := by
  unfold Panel.groupSleep
  cases r.state <;> rfl

theorem Store.hasHorizon_iff (st : Store) (now : Nat) :
    st.hasHorizon now = true ↔ ∃ c ∈ callsOf st.today, c.removed = false ∧ c.expected ≤ now + 15 := by
  simp [Store.hasHorizon, Call.horizon]

/-! ## The tick whole -/

/-- The calls that a tick lapses. -/
def State.dueCalls (s : State) : List Call := (callsOf s.store.today).filter (Call.lapses s.clock.minute)

/-- A tick changes the sales controller, the journal and the counters by its lapses alone. -/
theorem minuteTick_lapseAll (s : State) :
    (minuteTick s).sales = (lapseAll s.dueCalls s).sales ∧ (minuteTick s).journal = (lapseAll s.dueCalls s).journal ∧
      (minuteTick s).counters = (lapseAll s.dueCalls s).counters := by
  simp [minuteTick_eq, tickedCalls, lapseCalls_eq, State.dueCalls]

theorem portsKeptButNotices_minuteTick (s : State) : portsKeptButNotices s (minuteTick s) := by
  refine (portsKeptButNotices_lapseAll s.dueCalls s).trans
    (((portsKeptButNotices_of_eq (t := tickedCalls s) rfl).trans (portsKeptButNotices_eveningTest _)).trans
      (portsKeptButNotices_of_eq ?_))
  simp [minuteTick_eq]

theorem Call.ticked_eq (now : Nat) (c : Call) :
    c.ticked now =
      if c.state = .scheduled ∧ c.expected + 60 ≤ now then { c with state := .lapsed, removed := true }
      else { c with removed := c.removed || c.pastDisplay now } := by
  unfold Call.ticked Call.lapses Call.flagged
  simp only [decide_eq_true_eq]
  split <;> simp [Call.lapsed]

theorem minuteTick_today {t : DayTable} (today : s.store.today = some t) (unique : (t.calls.map Call.service).Nodup) :
    (minuteTick s).store.today = some (t.onCalls (Call.ticked s.clock.minute)) := by
  have unique : ((callsOf s.store.today).map Call.service).Nodup := by rwa [today]
  rw [minuteTick_store unique]
  simp [Store.onCalls, today]

/-- Before its tests a tick has left the mark, TOMORROW, the compositor and the notice of TIMETABLE_NEEDED. -/
theorem tickedCalls_kept (s : State) :
    (tickedCalls s).clock = s.clock ∧ (tickedCalls s).store.tomorrow = s.store.tomorrow ∧
      (tickedCalls s).store.neededMark = s.store.neededMark ∧ (tickedCalls s).compositor = s.compositor ∧
      ∀ p, (tickedCalls s).hasNotice p .timetableNeeded ↔ s.hasNotice p .timetableNeeded := by
  obtain ⟨tomorrow, mark⟩ := lapseAll_storeRest s.dueCalls s
  exact ⟨by simp [tickedCalls], tomorrow, mark, by simp [tickedCalls],
    fun p => hasNotice_lapseAll_of_ne (by decide) (by decide) s.dueCalls⟩

/-- The 23:00 test of a tick (R12). -/
theorem minuteTick_evening (s : State) :
    let evening := 1200 ≤ s.clock.second / 60 ∧ s.store.tomorrow = none ∧ s.store.neededMark = false
    (evening → (minuteTick s).store.neededMark = true ∧ (minuteTick s).hasNotice .link .timetableNeeded ∧
      (minuteTick s).hasNotice .service .timetableNeeded) ∧
    (¬ evening → (minuteTick s).store.neededMark = s.store.neededMark ∧
      ∀ p, ((minuteTick s).hasNotice p .timetableNeeded ↔ s.hasNotice p .timetableNeeded)) := by
  obtain ⟨clock, tomorrow, mark, -, notice⟩ := tickedCalls_kept s
  have ports : (minuteTick s).ports = (eveningTest (tickedCalls s)).ports := by simp [minuteTick_eq]
  have store : (minuteTick s).store = (eveningTest (tickedCalls s)).store := by simp [minuteTick_eq]
  simp only [State.hasNotice, ports, store]
  rcases eveningTest_eq (tickedCalls s) with ⟨late, empty, clear, e⟩ | ⟨early, e⟩ <;> rw [e]
  · rw [clock] at late
    rw [tomorrow] at empty
    rw [mark] at clear
    exact ⟨fun _ => ⟨rfl, hasNotice_timetableNeeded (s := setStore _ (tickedCalls s)) rfl .link (by decide),
      hasNotice_timetableNeeded (s := setStore _ (tickedCalls s)) rfl .service (by decide)⟩,
      fun early => absurd ⟨late, empty, clear⟩ early⟩
  · rw [clock, tomorrow, mark] at early
    exact ⟨fun evening => absurd evening early, fun _ => ⟨mark, notice⟩⟩

/-- The horizon test of a tick (R136, R138). -/
theorem minuteTick_compositor (s : State) :
    (minuteTick s).compositor =
      if s.compositor.group = .asleep ∧ (minuteTick s).store.hasHorizon s.clock.minute = true then
        (groupWake s).compositor
      else if s.compositor.group = .awake ∧ s.compositor.idle = none ∧
          (minuteTick s).store.hasHorizon s.clock.minute = false then
        (groupSleep s).compositor
      else s.compositor := by
  obtain ⟨clock, -, -, compositor, -⟩ := tickedCalls_kept s
  have compositor' : (eveningTest (tickedCalls s)).compositor = s.compositor := by simp [compositor]
  have store : (minuteTick s).store = (eveningTest (tickedCalls s)).store := by simp [minuteTick_eq]
  rw [store, minuteTick_eq, horizonTest_compositor, compositor', eveningTest_clock, clock]
  simp only [groupWake, groupSleep, compositor']

theorem panel_of_compositor {i : Fin 8} (h : s.compositor = t.compositor) : s.panel i = t.panel i := by
  simp [State.panel, h]

/-- Settles O9: the lapses by `lapseAll_spec`, the tests by `minuteTick_evening` and `minuteTick_compositor`. -/
theorem minuteTickLapsesCalls : Obligations.MinuteTickLapsesCalls := by
  refine ⟨?_, ?_⟩
  · intro s t today unique now due u
    have due_eq : s.dueCalls = due := by
      unfold State.dueCalls
      rw [today]
      rfl
    have unique' : ((callsOf s.store.today).map Call.service).Nodup := by rwa [today]
    have store := minuteTick_store unique'
    obtain ⟨sales, journal, counters⟩ := minuteTick_lapseAll s
    rw [due_eq] at sales journal counters
    obtain ⟨kinds, next, batch, dropped⟩ := lapseAll_spec due s
    obtain ⟨lapsed, counted⟩ := lapseAll_counters due s
    obtain ⟨-, full⟩ := fillsJournal_lapseAll due s
    have withdrawn : quotesWithdrawn (fun r => r.table = .today ∧ ∃ c ∈ due, r.service = c.service) s u :=
      due_eq ▸ quotesWithdrawn_minuteTick s
    rw [← journal] at kinds next batch full
    rw [← sales] at full
    have counter (c : Counter) : u.counter c = (lapseAll due s).counter c := counter_of_counters counters c
    refine ⟨?_, ?_, ?_, ?_, fun some => ?_, fun none => ?_, fun c other => (counter c).trans (counted c other),
      ⟨kinds, next, batch, fun less => ?_, fun all => ?_⟩, fun p q r held target table c hc same => ?_, withdrawn,
      minuteTick_sales_eq s, full, fun r other => ?_, portsKeptButNotices_minuteTick s, minuteTick_changesOnly s⟩
    · rw [minuteTick_today today unique]
      exact congrArg (fun f => Option.some (t.onCalls f)) (funext (Call.ticked_eq _))
    · rw [store]
      rfl
    · rw [store]
      rfl
    · rw [store]
      rfl
    · rw [counter]
      exact lapsed.of_pos (by simpa using some)
    · rw [counter]
      simp [none]
    · rw [counter]
      exact dropped.of_pos (Nat.sub_ne_zero_of_lt less)
    · rw [counter]
      have zero : due.length - lapseRoom due.length s.journal = 0 := Nat.sub_eq_zero_of_le (Nat.le_of_eq all.symm)
      rw [zero] at dropped
      exact dropped
    · exact (holds_of_quotesWithdrawn withdrawn held).2 r target ⟨table, c, hc, same⟩
    · rw [sales]
      exact mem_reasons_lapseAll other due s
  · intro s now u evening horizon
    obtain ⟨late, early⟩ := minuteTick_evening s
    have horizon_iff : (minuteTick s).store.hasHorizon s.clock.minute = true ↔ horizon := Store.hasHorizon_iff _ _
    have compositor := minuteTick_compositor s
    refine ⟨late, early, fun asleep near => ?_, fun awake idle far => ?_, fun rests => ?_⟩
    · rw [if_pos ⟨asleep, horizon_iff.mpr near⟩] at compositor
      refine ⟨?_, fun i => ?_⟩
      · rw [compositor]
        rfl
      · rw [panel_of_compositor compositor, panel_groupWake, Panel.groupWake_eq]
    · have far' : (minuteTick s).store.hasHorizon s.clock.minute = false :=
        Bool.eq_false_iff.mpr fun near => far (horizon_iff.mp near)
      rw [if_neg (by simp [awake]), if_pos ⟨awake, idle, far'⟩] at compositor
      refine ⟨?_, fun i => ?_⟩
      · rw [compositor]
        rfl
      · rw [panel_of_compositor compositor, panel_groupSleep, Panel.groupSleep_eq]
    · rw [if_neg, if_neg] at compositor
      · exact compositor
      · rintro ⟨awake, idle, far⟩
        rcases rests with ⟨asleep, -⟩ | ⟨-, running | near⟩
        · cases awake.symm.trans asleep
        · exact running idle
        · cases far.symm.trans (horizon_iff.mpr near)
      · rintro ⟨asleep, near⟩
        rcases rests with ⟨-, far⟩ | ⟨awake, -⟩
        · exact far (horizon_iff.mp near)
        · cases awake.symm.trans asleep

/-! ## One elapsed second (R1, R2, R4) -/

theorem exec_clockSecond (s : State) : exec .clockSecond s = .next (settle (secondElapses s)) := rfl

theorem secondElapses_of_up (up : s.core = .up) : secondElapses s = advanceClock (elapse s) := by
  simp [secondElapses, up]

theorem exec_clockSecond_of_down (down : s.core = .down) :
    exec .clockSecond s = .next { s with clock := s.clock.dipSecond } := by
  have elapsed : secondElapses s = setClock s.clock.dipSecond s := by simp [secondElapses, down]
  rw [exec_clockSecond, elapsed]
  exact congrArg Host.Outcome.next (settled_of_down (s := setClock s.clock.dipSecond s) .clockSecond down)

theorem advanceClock_of_invalid (invalid : s.clock.valid = false) : advanceClock s = s := if_pos invalid

theorem advanceClock_of_second (valid : s.clock.valid = true) (below : s.clock.second < lastSecond) :
    advanceClock s =
      if (s.clock.second + 1) % 60 = 0 then
        minuteTick (setClock { s.clock with second := s.clock.second + 1 } s)
      else setClock { s.clock with second := s.clock.second + 1 } s := by
  unfold advanceClock
  rw [if_neg (by simp [valid]), if_pos below]
  show (if (s.clock.second + 1) / 60 = s.clock.second / 60 then _ else _) = _
  by_cases minute : (s.clock.second + 1) % 60 = 0
  · rw [if_pos minute, if_neg (by omega)]
  · rw [if_neg minute, if_pos (by omega)]

theorem advanceClock_of_last (valid : s.clock.valid = true) (last : s.clock.second = lastSecond) :
    advanceClock s =
      if s.clock.day < lastDay then
        minuteTick (dayBoundary .weekday (setClock { s.clock with day := s.clock.day + 1, second := 0 } s))
      else s := by
  unfold advanceClock
  rw [if_neg (by simp [valid]), if_neg (by omega)]

/-- Settles O10: the clock by its cases, the timers by `elapse`. -/
theorem clockSecondAdvances : Obligations.ClockSecondAdvances := by
  refine ⟨fun s up => ?_, fun s down => ⟨_, exec_clockSecond_of_down down, ?_, ?_, ?_, ?_, ?_⟩, ?_⟩
  · rw [exec_clockSecond, secondElapses_of_up up]
    refine ⟨fun invalid => ?_, fun valid => ⟨fun below => ?_, fun last day => ?_, fun last day => ?_⟩⟩
    · rw [advanceClock_of_invalid (s := elapse s) invalid]
    · rw [advanceClock_of_second (s := elapse s) valid below]
      rfl
    · rw [advanceClock_of_last (s := elapse s) valid last]
      exact congrArg (fun t => Host.Outcome.next (settle t)) (if_pos day)
    · rw [advanceClock_of_last (s := elapse s) valid last]
      exact congrArg (fun t => Host.Outcome.next (settle t)) (if_neg (by simp [elapse, day]))
  · unfold Clock.dipSecond
    (repeat' split) <;> rfl
  · unfold Clock.dipSecond
    (repeat' split) <;> rfl
  · intro valid below
    simp [Clock.dipSecond, valid, below]
  · intro valid last day
    simp [Clock.dipSecond, valid, last, day]
  · rintro (invalid | ⟨last, day⟩)
    · simp [Clock.dipSecond, invalid]
    · simp [Clock.dipSecond, last, day]
  · intro s u less
    exact ⟨rfl, rfl, fun p => PerPort.get_imap _ _ p, rfl, rfl, rfl, rfl, fun i => by simp [u, less, elapse,
      DisplayBus.elapse, tickTimer], rfl, rfl, elapse_changesOnly s⟩

/-! ## TIME_SET (R5 to R7) -/

theorem timeSet_of_bad {f : TimeSetBody} (bad : dayKindOf f.kind = none ∨ 86399 < f.second.toNat) :
    timeSet f s = (s, .refuse .badRequest) := by
  unfold timeSet
  split
  · rfl
  · rename_i k kind
    exact if_pos (bad.resolve_left (by simp [kind]))

theorem timeSet_of_invalid {f : TimeSetBody} {k : DayKind} (kind : dayKindOf f.kind = some k)
    (second : f.second.toNat ≤ 86399) (invalid : s.clock.valid = false) :
    timeSet f s = (timeFirst ⟨true, f.day.toNat, k, f.second.toNat⟩ s, .done) := by
  simp only [timeSet, kind]
  rw [if_neg (Nat.not_lt.mpr second), if_pos invalid]

theorem timeSet_of_earlier {f : TimeSetBody} {k : DayKind} (kind : dayKindOf f.kind = some k)
    (second : f.second.toNat ≤ 86399) (valid : s.clock.valid = true) (day : f.day.toNat < s.clock.day) :
    timeSet f s = (s, .refuse .notMonotonic) := by
  simp only [timeSet, kind]
  rw [if_neg (Nat.not_lt.mpr second), if_neg (by simp [valid]), if_pos day]

theorem timeSet_of_same {f : TimeSetBody} {k : DayKind} (kind : dayKindOf f.kind = some k)
    (second : f.second.toNat ≤ 86399) (valid : s.clock.valid = true) (day : f.day.toNat = s.clock.day) :
    timeSet f s = (timeWithin k f.second.toNat s, .done) := by
  simp only [timeSet, kind]
  rw [if_neg (Nat.not_lt.mpr second), if_neg (by simp [valid]), if_neg (by omega), if_pos day]

/-- A setting within the day, with its state written out (R7). -/
theorem timeWithin_eq (k : DayKind) (second : Nat) (s : State) :
    timeWithin k second s =
      let v : State :=
        { s with
          clock := { s.clock with kind := if s.store.today = none then k else s.clock.kind, second := second }
          store := { s.store with storeDay := s.clock.day } }
      if s.clock.second / 60 < second / 60 then minuteTick v else v := by
  have kind : s.kindWithin k = if s.store.today = none then k else s.clock.kind := by
    unfold State.kindWithin
    cases s.store.today <;> simp
  unfold timeWithin
  rw [kind]
  rfl

/-- With TODAY EMPTY a tick lapses and flags nothing: its two tests remain. -/
theorem minuteTick_of_empty (empty : s.store.today = none) : minuteTick s = horizonTest (eveningTest s) := by
  have lapsed : lapseCalls s = s := by simp [lapseCalls_eq, callsOf, empty]
  have flagged : flagCalls s = s := by
    have store : s.store.onCalls .today (Call.flagged s.clock.minute) = s.store := by
      simp [Store.onCalls, empty]
      rw [← empty]
    rw [flagCalls, store]
    rfl
  rw [minuteTick_eq, tickedCalls, lapsed, flagged]

/-- What a tick on an EMPTY TODAY does: the store's mark, TIMETABLE_NEEDED and the compositor (R12, R136). -/
theorem minuteTick_of_empty_spec (empty : s.store.today = none) :
    (minuteTick s).store = { s.store with neededMark := (minuteTick s).store.neededMark } ∧
      (∀ q n, n ≠ .timetableNeeded → ((minuteTick s).hasNotice q n ↔ s.hasNotice q n)) ∧
      changesOnly [.store, .compositor, .ports] s (minuteTick s) := by
  have ports : (minuteTick s).ports = (eveningTest s).ports := by simp [minuteTick_of_empty empty]
  have store : (minuteTick s).store = (eveningTest s).store := by simp [minuteTick_of_empty empty]
  refine ⟨?_, fun q n other => ?_, ?_⟩
  · rw [store]
    rcases eveningTest_eq s with ⟨-, -, -, e⟩ | ⟨-, e⟩ <;> rw [e]
    rfl
  · simp only [State.hasNotice, ports]
    exact hasNotice_eveningTest_of_ne other
  · rw [minuteTick_of_empty empty]
    exact changesOnly_iff.mpr (by simp)

/-- The first setting before its tick (R6). -/
def timeBegun (c : Clock) (s : State) : State :=
  needToday (removeReason .noTime (setStore { s.store with storeDay := c.day } (setClock c s)))

theorem timeBegun_of_empty (c : Clock) (empty : s.store.today = none) :
    timeBegun c s =
      post .timetableNeeded (removeReason .noTime (setStore { s.store with storeDay := c.day } (setClock c s))) := by
  simp [timeBegun, needToday, empty]

/-- Settles O7: the owner's branches by `timeSet_of_…`, the first setting by its reasons and notices. -/
theorem timeSetSetsClock : Obligations.TimeSetSetsClock := by
  refine ⟨fun p f k s admits kind second invalid today tomorrow => ?_, fun p f s admits => ⟨fun bad => ?_,
    fun k kind second valid => ⟨fun day => ?_, ?_⟩⟩⟩
  · have begun := timeBegun_of_empty ⟨true, f.day.toNat, k, f.second.toNat⟩ today
    have empty : (timeBegun ⟨true, f.day.toNat, k, f.second.toNat⟩ s).store.today = none := by
      rw [begun]
      simpa using today
    obtain ⟨store, notices, changes⟩ := minuteTick_of_empty_spec empty
    refine ⟨timeBegun ⟨true, f.day.toNat, k, f.second.toNat⟩ s, ?_, ?_, ?_, fun r => ?_, ?_, ⟨fun q n => ?_, ?_⟩, ?_,
      store, notices, portsKeptButNotices_minuteTick _, changes⟩
    · rw [exec_timeSet_of_admits admits, timeSet_of_invalid kind second invalid]
      rfl
    · rw [begun]
      simp
    · rw [begun]
      simp
    · rw [begun]
      simp
    · rw [begun]
      simp [salesKeptButReasons]
    · rw [begun, hasNotice_post, hasNotice_removeReason]
      have recipients : q ∈ Notice.recipients .timetableNeeded ↔ q ≠ .terminal := by cases q <;> decide
      rw [recipients, or_assoc, or_comm (a := _ ∧ _)]
      exact Iff.rfl
    · rw [begun]
      have removed := portsKeptButNotices_removeReason .noTime
        (setStore { s.store with storeDay := f.day.toNat } (setClock ⟨true, f.day.toNat, k, f.second.toNat⟩ s))
      exact ((portsKeptButNotices_of_eq (s := s) rfl).trans removed).trans
        (portsKeptButNotices_post .timetableNeeded _)
    · rw [begun]
      exact changesOnly_iff.mpr (by simp)
  · rw [exec_timeSet_of_admits admits, timeSet_of_bad bad]
  · rw [exec_timeSet_of_admits admits, timeSet_of_earlier kind second valid day]
  · intro day c v
    rw [exec_timeSet_of_admits admits, timeSet_of_same kind second valid day, timeWithin_eq]

end Sys2Proof.Machine
end

section
/-! PROOFS. The treadles and the passages (O16, O19): an edge by its pulse and the mode, a closing by its axles and
candidates. -/

namespace Sys2Proof.Machine

variable {s : State}

/-! ## Rising edges (R36, R38, R40) -/

theorem treadleRises_of_no_edge {t : TreadleId}
    (h : (s.detector.treadle t).seen = false ∨ (s.detector.treadle t).pressed = true) : treadleRises t s = s :=
  if_neg (by rcases h with h | h <;> simp [h])

theorem treadleRises_of_edge {t : TreadleId} (seen : (s.detector.treadle t).seen = true)
    (released : (s.detector.treadle t).pressed = false) : treadleRises t s = rise t s :=
  if_pos ⟨seen, released⟩

/-- The pulse that a rising edge opens (R36). -/
def pulseOpened (t : TreadleId) (s : State) : State :=
  setDetector (s.detector.setTreadle t { s.detector.treadle t with pressed := true, pulse := some false }) s

theorem rise_eq (t : TreadleId) (s : State) :
    rise t s =
      if s.detector.mode = .paired ∧ (s.detector.treadle (otherTreadle t)).pulsing = true then
        formAxle (directionFirst (otherTreadle t)) (pulseOpened t s)
      else pulseOpened t s := by
  dsimp only [rise]
  split
  · rename_i mode
    exact (if_neg (by simp [mode])).symm
  · rename_i mode
    simp only [mode, true_and]
    rfl

theorem rise_of_no_axle {t : TreadleId}
    (h : s.detector.mode = .separate ∨ (s.detector.treadle (otherTreadle t)).pressed = false ∨
      (s.detector.treadle (otherTreadle t)).pulse = none) : rise t s = pulseOpened t s := by
  have silent (paired : s.detector.mode = .paired) : (s.detector.treadle (otherTreadle t)).pulsing = false := by
    rw [paired] at h
    rcases h with h | h | h
    · cases h
    all_goals simp [Treadle.pulsing, h]
  rw [rise_eq]
  exact if_neg fun ⟨paired, pulsing⟩ => by simp [silent paired] at pulsing

theorem rise_of_axle {t : TreadleId} (mode : s.detector.mode = .paired)
    (pressed : (s.detector.treadle (otherTreadle t)).pressed = true)
    (pulse : (s.detector.treadle (otherTreadle t)).pulse.isSome = true) :
    rise t s = formAxle (directionFirst (otherTreadle t)) (pulseOpened t s) := by
  rw [rise_eq]
  exact if_pos ⟨mode, by simp [Treadle.pulsing, pressed, pulse]⟩

/-- The detector after an axle: both pulses overlapped, both runs 0, the passage opened or extended. -/
theorem axleFormed_detector (t : TreadleId) (d : Direction) (s : State) :
    let x := s.detector.treadle t
    let y := s.detector.treadle (otherTreadle t)
    let u := formAxle d (pulseOpened t s)
    u.detector.mode = s.detector.mode ∧
      u.detector.treadle t = { x with pressed := true, pulse := some true, fault := false, run := 0 } ∧
      u.detector.treadle (otherTreadle t) = { y with pulse := some true, fault := false, run := 0 } ∧
      u.detector.passage = some (passageAfter d s.clock s.detector.passage) := by
  cases t <;> exact ⟨rfl, rfl, rfl, rfl⟩

theorem passageAfter_times (d : Direction) (c : Clock) (o : Option Passage) :
    (passageAfter d c o).last = c.second ∧ (passageAfter d c o).lastDay = c.day ∧ (passageAfter d c o).closing = 8 := by
  cases o <;> cases d <;> exact ⟨rfl, rfl, rfl⟩

/-! ## Falling edges (R36, R37, R39) -/

theorem treadleFalls_of_no_edge {t : TreadleId}
    (h : (s.detector.treadle t).seen = false ∨ (s.detector.treadle t).pressed = false) : treadleFalls t s = s :=
  if_neg (by rcases h with h | h <;> simp [h])

theorem treadleFalls_of_edge {t : TreadleId} (seen : (s.detector.treadle t).seen = true)
    (pressed : (s.detector.treadle t).pressed = true) : treadleFalls t s = fall t s :=
  if_pos ⟨seen, pressed⟩

theorem fall_of_overlapped {t : TreadleId} (h : (s.detector.treadle t).pulse = none ∨
      ((s.detector.treadle t).pulse = some true ∧ s.detector.mode = .paired)) :
    fall t s = setDetector (s.detector.setTreadle t (s.detector.treadle t).released) s := by
  unfold fall
  rcases h with pulse | ⟨pulse, mode⟩
  · simp only [pulse]
  · simp only [pulse, mode]

theorem fall_of_separate {t : TreadleId} (pulse : (s.detector.treadle t).pulse.isSome = true)
    (mode : s.detector.mode = .separate) :
    fall t s = setDetector (s.detector.setTreadle t
      { (s.detector.treadle t).released with test := min ((s.detector.treadle t).test + 1) 65535 }) s := by
  obtain ⟨overlapped, pulse⟩ := Option.isSome_iff_exists.mp pulse
  unfold fall
  simp only [pulse, mode]

theorem fall_of_unpaired {t : TreadleId} (pulse : (s.detector.treadle t).pulse = some false)
    (mode : s.detector.mode = .paired) :
    fall t s = unpaired t (setDetector (s.detector.setTreadle t (s.detector.treadle t).released) s) := by
  unfold fall
  simp only [pulse, mode]

@[simp] theorem Detector.treadle_setTreadle (d : Detector) (t : TreadleId) (x : Treadle) :
    (d.setTreadle t x).treadle t = x := by
  cases t <;> rfl

@[simp] theorem Detector.setTreadle_setTreadle (d : Detector) (t : TreadleId) (x y : Treadle) :
    (d.setTreadle t x).setTreadle t y = d.setTreadle t y := by
  cases t <;> rfl

/-- An unpaired pulse: the treadle with its run one higher, the count, and TREADLE_FAULT at a run of 20 (R37). -/
theorem unpaired_eq (t : TreadleId) (s : State) :
    let x := s.detector.treadle t
    let u := count .treadleUnpaired (setDetector (s.detector.setTreadle t
      { x with run := min (x.run + 1) 20, fault := x.fault || decide (19 ≤ x.run) }) s)
    unpaired t s = if x.run = 19 then post .treadleFault u else u := by
  have reaches : min ((s.detector.treadle t).run + 1) 20 = 20 ↔ 19 ≤ (s.detector.treadle t).run := by omega
  have crosses : (s.detector.treadle t).run < 20 ∧ 19 ≤ (s.detector.treadle t).run ↔
      (s.detector.treadle t).run = 19 := by omega
  simp only [unpaired, reaches, crosses]

/-- What an unpaired pulse changes (R37). -/
theorem unpaired_spec (t : TreadleId) (s : State) :
    let x := s.detector.treadle t
    let u := unpaired t s
    u.detector = s.detector.setTreadle t
        { x with run := min (x.run + 1) 20, fault := x.fault || decide (19 ≤ x.run) } ∧
      u.counter .treadleUnpaired = s.counterPlus .treadleUnpaired 1 ∧ countsOnly [.treadleUnpaired] s u ∧
      (∀ p k, u.hasNotice p k ↔ s.hasNotice p k ∨ (x.run = 19 ∧ p ≠ .terminal ∧ k = .treadleFault)) ∧
      portsKeptButNotices s u ∧ changesOnly [.detector, .counters, .ports] s u := by
  intro x u
  have counters : u.counters = (count .treadleUnpaired s).counters := by
    simp only [u, unpaired_eq]
    split <;> rfl
  have notices (p : Port) (k : Notice) :
      u.hasNotice p k ↔ s.hasNotice p k ∨ (x.run = 19 ∧ p ≠ .terminal ∧ k = .treadleFault) := by
    have recipients : p ∈ Notice.recipients .treadleFault ↔ p ≠ .terminal := by cases p <;> decide
    simp only [u, unpaired_eq]
    split
    · rename_i run
      rw [hasNotice_post, recipients]
      simp only [x, run, true_and]
      exact Iff.rfl
    · rename_i run
      simp only [x, run, false_and, or_false]
      exact Iff.rfl
  refine ⟨?_, ?_, fun c other => ?_, notices, ?_, ?_⟩
  · simp only [u, unpaired_eq]
    split <;> rfl
  · rw [counter_of_counters counters]
    exact counter_countBy_self _ _ s
  · rw [counter_of_counters counters]
    exact counter_countBy_of_ne _ s (by simpa using other)
  · simp only [u, unpaired_eq]
    split
    · exact portsKeptButNotices_post .treadleFault _
    · exact portsKeptButNotices_of_eq rfl
  · refine changesOnly_iff.mpr ?_
    simp only [u, unpaired_eq]
    split <;> simp

/-- Settles O16: rising edges by whether an axle forms, falling ones by their pulse and the mode. -/
theorem treadleEdgesFormAxles : Obligations.TreadleEdgesFormAxles := by
  refine ⟨fun t s up => ?_, fun t s up => ?_⟩
  · intro x y
    rw [exec_event (i := .treadleRisingEdge t) rfl up]
    refine ⟨fun none => ?_, fun seen released => ⟨fun alone => ?_, fun mode pressed pulse => ?_⟩⟩
    · rw [treadleRises_of_no_edge none]
      rfl
    · rw [treadleRises_of_edge seen released, rise_of_no_axle alone]
      rfl
    · rw [treadleRises_of_edge seen released, rise_of_axle mode pressed pulse]
      obtain ⟨kept, self, other, passage⟩ := axleFormed_detector t (directionFirst (otherTreadle t)) s
      obtain ⟨last, lastDay, closing⟩ :=
        passageAfter_times (directionFirst (otherTreadle t)) s.clock s.detector.passage
      refine ⟨_, _, rfl, kept.trans mode, self, other, passage, last, lastDay, closing, fun opened => ?_,
        fun o' held => ?_, changesOnly_iff.mpr (by simp [formAxle, pulseOpened])⟩
      · rw [opened]
        cases t <;> exact ⟨rfl, rfl, rfl⟩
      · rw [held]
        cases t <;> exact ⟨rfl, rfl, rfl⟩
  · intro x
    rw [exec_event (i := .treadleFallingEdge t) rfl up]
    refine ⟨fun none => ?_, fun seen pressed => ⟨fun ended => ?_, fun pulse mode => ?_, fun pulse mode => ?_⟩⟩
    · rw [treadleFalls_of_no_edge none]
      rfl
    · rw [treadleFalls_of_edge seen pressed, fall_of_overlapped ended]
      rfl
    · rw [treadleFalls_of_edge seen pressed, fall_of_separate pulse mode]
      rfl
    · rw [treadleFalls_of_edge seen pressed, fall_of_unpaired pulse mode]
      obtain ⟨detector, counter, counted, notices, ports, changes⟩ :=
        unpaired_spec t (setDetector (s.detector.setTreadle t (s.detector.treadle t).released) s)
      simp only [setDetector_detector, Detector.treadle_setTreadle] at detector notices
      refine ⟨_, rfl, ?_, counter, counted, notices, ports, (setDetector_changesOnly _ s).mono (by simp) |>.trans changes⟩
      rw [detector, Detector.setTreadle_setTreadle]
      rfl

/-! ## A passage closed (R41 to R44) -/

/-- The passage record removed (R41). -/
def passageRemoved (s : State) : State := setDetector { s.detector with passage := none } s

theorem passageClosed_of_none (h : s.detector.passage = none) : passageClosed s = s := by
  simp [passageClosed, h]

theorem passageClosed_of_ended {x : Passage} (h : s.detector.passage = some x) (ended : x.closing ≤ 1) :
    passageClosed s = closePassage x s := by
  simp [passageClosed, h, ended]

theorem closePassage_of_minor {x : Passage} (few : x.up + x.down < 4) :
    closePassage x s = count .passagesMinor (passageRemoved s) := if_pos few

theorem closePassage_of_match {x : Passage} {c : Call} (axles : 4 ≤ x.up + x.down)
    (matching : s.store.matching x = some c) : closePassage x s = matchPassage x c (passageRemoved s) := by
  have matching' : (passageRemoved s).store.matching x = some c := matching
  dsimp only [closePassage]
  rw [if_neg (Nat.not_lt.mpr axles)]
  show (match (passageRemoved s).store.matching x with
    | some c => matchPassage x c (passageRemoved s)
    | none => unmatchedPassage x (passageRemoved s)) = _
  rw [matching']

theorem closePassage_of_unmatched {x : Passage} (axles : 4 ≤ x.up + x.down)
    (matching : s.store.matching x = none) : closePassage x s = unmatchedPassage x (passageRemoved s) := by
  have matching' : (passageRemoved s).store.matching x = none := matching
  dsimp only [closePassage]
  rw [if_neg (Nat.not_lt.mpr axles)]
  show (match (passageRemoved s).store.matching x with
    | some c => matchPassage x c (passageRemoved s)
    | none => unmatchedPassage x (passageRemoved s)) = _
  rw [matching']

/-- A candidate by its state, its direction and its minutes (R42). -/
theorem Passage.candidate_eq (x : Passage) (c : Call) :
    x.candidate c = decide (c.state = .scheduled ∧ (x.up < x.down → c.direction = .down) ∧
      (x.down < x.up → c.direction = .up) ∧ c.scheduled ≤ x.last / 60 + 10 ∧ x.last / 60 ≤ c.expected + 60) := by
  have fits : x.direction.fits c.direction = decide ((x.up < x.down → c.direction = .down) ∧
      (x.down < x.up → c.direction = .up)) := by
    unfold Passage.direction
    rcases Nat.lt_trichotomy x.up x.down with less | same | more
    · rw [if_pos less]
      cases c.direction <;> simp [PassageDirection.fits, less, Nat.le_of_lt less]
    · rw [if_neg (by omega), if_neg (by omega)]
      simp [PassageDirection.fits, same]
    · rw [if_neg (by omega), if_pos more]
      cases c.direction <;> simp [PassageDirection.fits, more, Nat.le_of_lt more]
  simp only [Passage.candidate, fits, ← Bool.decide_and, and_assoc]

theorem findCall_of_mem {l : List Call} {c : Call} (unique : (l.map Call.service).Nodup) (held : c ∈ l) :
    findCall l c.service = some c := by
  cases found : findCall l c.service with
  | none => exact absurd (List.find?_eq_none.mp found c held) (by simp)
  | some d => rw [eq_of_service_eq unique held (findCall_mem found) (findCall_service found).symm]

theorem counter_append_of_ne {d : Counter} (other : d ≠ .journalDropped) (k : EntryKind) (s : State) :
    (append k s).counter d = s.counter d := by
  rcases append_eq k s with ⟨-, e⟩ | ⟨room, -⟩
  · rw [e]
    exact counter_countBy_of_ne 1 s other
  · exact counter_of_counters (append_counters_of_room room) d

/-- The entry that an unmatched passage asks for (R44). -/
def Passage.entry (x : Passage) : EntryKind := .unmatchedPassage x.direction x.up x.down x.last

theorem unmatchedPassage_eq (x : Passage) (s : State) :
    unmatchedPassage x s = count .passagesUnmatched (append x.entry s) := rfl

theorem unmatchedPassage_of_room {x : Passage} (room : 3 ≤ s.journal.free) :
    (unmatchedPassage x s).journal.entries = s.journal.entries ++ [newEntry x.entry s] ∧
      (unmatchedPassage x s).counters = (count .passagesUnmatched s).counters := by
  have counters : (append x.entry s).counters = s.counters := append_counters_of_room room
  refine ⟨append_entries_of_room (k := x.entry) room, ?_⟩
  simp only [unmatchedPassage_eq, count, countBy_counters, counters]

theorem unmatchedPassage_of_no_room {x : Passage} (full : s.journal.free < 3) :
    unmatchedPassage x s = count .passagesUnmatched (count .journalDropped s) := by
  rw [unmatchedPassage_eq, append_of_no_room (k := x.entry) full]

theorem salesKeptButReasons_append (k : EntryKind) (s : State) : salesKeptButReasons s (append k s) :=
  append_sales_eq k s

/-- Settles O19: by the axles, and by the first candidate of TODAY. -/
theorem passageClosesAndMatches : Obligations.PassageClosesAndMatches := by
  intro s up
  rw [exec_event (i := .passageClose) rfl up]
  refine ⟨fun none => ?_, fun x held ended => ?_⟩
  · rw [passageClosed_of_none none]
    rfl
  · intro m candidate
    have same : candidate = x.candidate := funext fun c => (Passage.candidate_eq x c).symm
    rw [passageClosed_of_ended held ended, same]
    refine ⟨fun few => ?_, fun axles => ⟨fun t c today unique day found => ?_, fun none => ?_⟩⟩
    · rw [closePassage_of_minor few]
      exact ⟨_, rfl, rfl, counter_countBy_self _ _ (passageRemoved s),
        fun c other => counter_countBy_of_ne _ (passageRemoved s) (by simpa using other),
        changesOnly_iff.mpr (by simp [passageRemoved])⟩
    · have matching : s.store.matching x = some c := by simp [Store.matching, day, today, callsOf, found]
      have held : s.store.call ⟨.today, c.service⟩ = some c := by
        simpa [Store.call, Store.table, today, callsOf] using findCall_of_mem unique (List.mem_of_find?_eq_some found)
      obtain ⟨departed, kept, rest⟩ :=
        call_setStore_onCall (s := s) (f := Call.departedAt x.last) (fun _ => rfl) held
      rw [closePassage_of_match axles matching]
      exact ⟨_, rfl, rfl, departed, kept, rest, fun p q held => (holds_of_withdrawCall held).symm,
        quotesWithdrawn_from rfl (quotesWithdrawn_withdrawCall _ _), rfl, counter_countBy_self _ _ s,
        fun c other => counter_countBy_of_ne _ s (by simpa using other),
        changesOnly_iff.mpr (by simp [matchPassage, passageRemoved, withdrawCall])⟩
    · have matching : s.store.matching x = Option.none := by
        unfold Store.matching
        rcases none with empty | day | none
        · simp [empty, callsOf]
        · exact if_neg day
        · cases today : s.store.today with
          | none => simp [callsOf]
          | some t => simp [callsOf, none t today]
      rw [closePassage_of_unmatched axles matching]
      refine ⟨_, rfl, ?_, ?_, fun room => ?_, fun full => ?_, ?_, ?_, ?_⟩
      · simp [unmatchedPassage_eq, passageRemoved]
      · have kept := counter_append_of_ne (d := .passagesUnmatched) (by decide) x.entry (passageRemoved s)
        rw [unmatchedPassage_eq, counter_count, if_pos rfl, State.counterPlus, kept]
        rfl
      · obtain ⟨entries, counters⟩ := unmatchedPassage_of_room (s := passageRemoved s) (x := x) room
        refine ⟨entries, fun c other => ?_⟩
        rw [counter_of_counters counters]
        exact counter_countBy_of_ne _ s (by simpa using other)
      · rw [unmatchedPassage_of_no_room (s := passageRemoved s) full]
        refine ⟨rfl, ?_, fun c other => ?_⟩
        · rw [counter_count, if_neg (by decide)]
          exact counter_countBy_self _ _ s
        · obtain ⟨unmatched, dropped⟩ : c ≠ .passagesUnmatched ∧ c ≠ .journalDropped := by simpa using other
          rw [counter_count, if_neg unmatched]
          exact counter_countBy_of_ne _ s dropped
      · exact salesKeptButReasons_append x.entry (passageRemoved s)
      · exact portsKeptButNotices_append x.entry (passageRemoved s)
      · exact changesOnly_iff.mpr (by simp [unmatchedPassage_eq, passageRemoved])

end Sys2Proof.Machine
end

section
/-! PROOFS. The fare unit (O20, O21, O24): the writes by their checks, and a fare stage by stage. -/

namespace Sys2Proof.Machine

variable {s : State}

/-! ## The writes of ranges, parameters, concessions and peaks (R49, R53 to R55) -/

/-- A vector with one entry stored holds it, and every other entry as it was. -/
theorem getElem?_stored {α : Type} {n : Nat} (v : Vector α n) {i : Nat} (x : α) (inside : i < n) :
    (v.setIfInBounds i x)[i]? = some x ∧ ∀ j : Nat, j ≠ i → (v.setIfInBounds i x)[j]? = v[j]? := by
  refine ⟨?_, fun j other => ?_⟩
  · rw [Vector.getElem?_setIfInBounds, if_pos rfl, if_pos inside]
  · rw [Vector.getElem?_setIfInBounds, if_neg (Ne.symm other)]

theorem fareRangeWrite_of_bad {f : FareRangeBody} (bad : 31 < f.index.toNat ∨ flagOf f.valid = none ∨
    (flagOf f.valid = some true ∧ f.distance.toNat = 0)) : fareRangeWrite f s = (s, .refuse .badRequest) := by
  dsimp only [fareRangeWrite]
  rcases bad with far | flag | ⟨flag, distance⟩
  · rw [if_pos far]
  · simp only [flag, ite_self]
  · simp only [flag, distance, if_true, ite_self]

theorem fareRangeWrite_of_clear {f : FareRangeBody} (index : f.index.toNat ≤ 31) (flag : flagOf f.valid = some false) :
    fareRangeWrite f s = (setRange f.index.toNat none s, .okWith (rangeBytes f.index.toNat none)) := by
  dsimp only [fareRangeWrite]
  rw [if_neg (Nat.not_lt.mpr index), flag]

theorem fareRangeWrite_of_set {f : FareRangeBody} (index : f.index.toNat ≤ 31) (flag : flagOf f.valid = some true)
    (distance : 1 ≤ f.distance.toNat) :
    fareRangeWrite f s =
      if alignLastCode f.last.toNat < alignFirstCode f.first.toNat then (s, .refuse .badRange)
      else
        let e : RangeEntry :=
          ⟨alignFirstCode f.first.toNat, alignLastCode f.last.toNat, min f.distance.toNat 15⟩
        (setRange f.index.toNat (some e) s, .okWith (rangeBytes f.index.toNat (some e))) := by
  dsimp only [fareRangeWrite]
  rw [if_neg (Nat.not_lt.mpr index), flag]
  exact if_neg (by omega)

theorem clamp_eq {low high : Nat} (h : low ≤ high) (n : Nat) : clamp low high n = max low (min high n) := by
  unfold clamp
  (repeat' split) <;> omega

theorem stepOf_eq (n : Nat) : stepOf n = if n = 1 ∨ n = 5 ∨ n = 10 ∨ n = 50 then n else 10 := by
  unfold stepOf
  (repeat' split) <;> omega

theorem fareConcessionWrite_of_bad {f : FareConcessionBody}
    (bad : f.cls.toNat = 0 ∨ 7 < f.cls.toNat ∨ appliesToOf f.appliesTo = none) :
    fareConcessionWrite f s = (s, .refuse .badRequest) := by
  unfold fareConcessionWrite
  rcases bad with zero | far | applies
  · rw [if_pos (.inl zero)]
  · rw [if_pos (.inr far)]
  · rw [applies]
    exact ite_self _

theorem fareConcessionWrite_of_ok {f : FareConcessionBody} {a : AppliesTo} (low : 1 ≤ f.cls.toNat)
    (high : f.cls.toNat ≤ 7) (applies : appliesToOf f.appliesTo = some a) :
    fareConcessionWrite f s =
      ({ s with fares := { s.fares with
          concessions := s.fares.concessions.setIfInBounds f.cls.toNat ⟨min f.discount.toNat 90, a⟩ } },
        .okWith (concessionBytes f.cls.toNat ⟨min f.discount.toNat 90, a⟩)) := by
  unfold fareConcessionWrite
  rw [if_neg (by omega), applies]

theorem fareRangeWrite_stores {p : Port} (f : FareRangeBody) (admits : s.admits p .fareRangeWrite)
    (index : f.index.toNat ≤ 31) (e : Option RangeEntry)
    (own : fareRangeWrite f s = (setRange f.index.toNat e s, .okWith (rangeBytes f.index.toNat e))) :
    ∃ u, exec (.fareRangeWrite p (.fields f)) s =
        .next (settle (answered p ReqCode.fareRangeWrite.byte 7 (.okWith (rangeBytes f.index.toNat e)) u)) ∧
      u.fares = { s.fares with ranges := u.fares.ranges } ∧ u.fares.ranges[f.index.toNat]? = some e ∧
      (∀ j : Nat, j ≠ f.index.toNat → u.fares.ranges[j]? = s.fares.ranges[j]?) ∧ changesOnly [.fares] s u := by
  obtain ⟨set, kept⟩ := getElem?_stored s.fares.ranges e (Nat.lt_succ_of_le index)
  refine ⟨setRange f.index.toNat e s, ?_, rfl, set, kept, changesOnly_iff.mpr (by simp)⟩
  rw [exec_fareRangeWrite_of_admits admits, own]

theorem fareParamWrite_eq (f : FareParamBody) (s : State) :
    let n := f.step.toNat
    let u : State := { s with fares := { s.fares with
      returnPercent := max 100 (min 250 f.returnPercent.toNat)
      offPeakPercent := max 30 (min 100 f.offPeakPercent.toNat)
      childPercent := min 100 f.childPercent.toNat
      step := if n = 1 ∨ n = 5 ∨ n = 10 ∨ n = 50 then n else 10
      capMultiple := max 2 (min 10 f.capMultiple.toNat) } }
    fareParamWrite f s = (u, .okWith (paramBytes u.fares)) := by
  have child := clamp_eq (low := 0) (high := 100) (by decide) f.childPercent.toNat
  rw [Nat.zero_max] at child
  dsimp only [fareParamWrite]
  rw [clamp_eq (low := 100) (by decide), clamp_eq (low := 30) (by decide), child, clamp_eq (low := 2) (by decide),
    stepOf_eq]

/-- Settles O20, write by write. -/
theorem fareWritesStoreEntries : Obligations.FareWritesStoreEntries := by
  refine ⟨fun p f s admits => ⟨fun bad => ?_, fun index flag => ?_, fun index flag distance => ⟨fun empty => ?_,
    fun some => ?_⟩⟩, fun p f s admits => ?_, fun p f s admits => ⟨fun bad => ?_, fun low high a applies => ?_⟩,
    fun p f s admits => ⟨fun bad => ?_, fun index start stop => ?_⟩⟩
  · rw [exec_fareRangeWrite_of_admits admits, fareRangeWrite_of_bad bad]
  · exact fareRangeWrite_stores f admits index _ (fareRangeWrite_of_clear index flag)
  · have own : fareRangeWrite f s = (s, .refuse .badRange) :=
      (fareRangeWrite_of_set index flag distance).trans (if_pos empty)
    rw [exec_fareRangeWrite_of_admits admits, own]
  · exact fareRangeWrite_stores f admits index _
      ((fareRangeWrite_of_set index flag distance).trans (if_neg (Nat.not_lt.mpr some)))
  · intro n u
    rw [exec_fareParamWrite_of_admits admits, fareParamWrite_eq]
  · rw [exec_fareConcessionWrite_of_admits admits, fareConcessionWrite_of_bad bad]
  · obtain ⟨set, kept⟩ := getElem?_stored s.fares.concessions (⟨min f.discount.toNat 90, a⟩ : Concession)
      (Nat.lt_succ_of_le high)
    rw [exec_fareConcessionWrite_of_admits admits, fareConcessionWrite_of_ok low high applies]
    exact ⟨_, rfl, rfl, set, kept, changesOnly_iff.mpr (by simp)⟩
  · have own : farePeakWrite f s = (s, .refuse .badRequest) := if_pos bad
    rw [exec_farePeakWrite_of_admits admits, own]
  · obtain ⟨set, kept⟩ := getElem?_stored s.fares.peaks (⟨f.start.toNat, f.stop.toNat⟩ : PeakWindow)
      (Nat.lt_succ_of_le index)
    rw [exec_farePeakWrite_of_admits admits, farePeakWrite, if_neg (by omega)]
    exact ⟨_, rfl, rfl, set, kept, changesOnly_iff.mpr (by simp)⟩

/-! ## The price row (R51, R52) -/

theorem getElem?_storePrices (ps : List (BitVec 24)) (row : Vector Nat 15) {i : Nat} (inside : i + ps.length ≤ 15)
    (j : Nat) :
    (storePrices row i ps)[j]? =
      match ps[j - i]? with
      | some x => if i ≤ j then some (min x.toNat 50000) else row[j]?
      | none => row[j]? := by
  induction ps generalizing row i with
  | nil => simp [storePrices]
  | cons p ps ih =>
    rw [List.length_cons] at inside
    rw [storePrices, ih _ (by omega), Vector.getElem?_setIfInBounds]
    rcases Nat.lt_trichotomy j i with below | rfl | above
    · simp only [Nat.not_le.mpr below, Nat.not_le.mpr (Nat.lt_succ_of_lt below), Nat.ne_of_gt below, if_false]
      cases ps[j - (i + 1)]? <;> cases (p :: ps)[j - i]? <;> rfl
    · have own : j < 15 := by omega
      simp only [Nat.not_le.mpr (Nat.lt_succ_self j), Nat.sub_self, List.getElem?_cons_zero, Nat.le_refl, if_true, if_false,
        own]
      cases ps[j - (j + 1)]? <;> rfl
    · have shift : j - i = (j - (i + 1)) + 1 := by omega
      simp only [shift, List.getElem?_cons_succ, Nat.ne_of_lt above, Nat.le_of_lt above, Nat.succ_le_of_lt above, if_true,
        if_false]

theorem anyPrice_iff (row : Vector Nat 15) : anyPrice row = true ↔ ∃ x ∈ row.toList, 0 < x := by
  simp only [anyPrice, List.any_eq_true, decide_eq_true_eq]

/-- The fare unit's message keeps NO_FARES in step with its flag, and every other reason as it was (R52). -/
theorem faresMessage_spec {before after : Bool} (h : .noFares ∈ s.sales.reasons ↔ before = false) :
    let u := faresMessage before after s
    (.noFares ∈ u.sales.reasons ↔ after = false) ∧
      (∀ r, r ≠ .noFares → (r ∈ u.sales.reasons ↔ r ∈ s.sales.reasons)) ∧
      salesKeptButReasons s u ∧ portsKeptButNotices s u ∧ (before = after → u = s) := by
  intro u
  have kept : salesKeptButReasons s u := faresMessage_sales_eq before after s
  by_cases same : before = after
  · have e : u = s := if_pos same
    rw [e]
    exact ⟨same ▸ h, fun _ _ => Iff.rfl, rfl, portsKeptButNotices_refl s, fun _ => rfl⟩
  · cases after with
    | true =>
      have e : u = removeReason .noFares s := by simp [u, faresMessage, same]
      refine ⟨by simp [e], fun r other => by simp [e, other], kept, ?_, fun eq => absurd eq same⟩
      rw [e]
      exact portsKeptButNotices_removeReason _ s
    | false =>
      have e : u = addReason .noFares s := by simp [u, faresMessage, same]
      refine ⟨by simp [e], fun r other => by simp [e, other], kept, ?_, fun eq => absurd eq same⟩
      rw [e]
      exact portsKeptButNotices_addReason _ s

theorem farePriceWrite_of_bad {f : FarePriceBody}
    (bad : f.first.toNat = 0 ∨ 15 < f.first.toNat ∨ 15 < f.first.toNat + f.prices.length - 1) :
    farePriceWrite f s = (s, .refuse .badRequest) := if_pos bad

/-- The part with a price row stored, before the fare unit's message. -/
def priced (row : Vector Nat 15) (s : State) : State :=
  { s with fares := { s.fares with prices := row, loaded := anyPrice row } }

theorem farePriceWrite_of_ok {f : FarePriceBody}
    (ok : ¬ (f.first.toNat = 0 ∨ 15 < f.first.toNat ∨ 15 < f.first.toNat + f.prices.length - 1)) :
    let t := priced (storePrices s.fares.prices (f.first.toNat - 1) f.prices) s
    farePriceWrite f s = (faresMessage s.fares.loaded t.fares.loaded t, .okWith (priceRowBytes t.fares)) := if_neg ok

/-- Settles O21: the row by `getElem?_storePrices`, the reasons by `faresMessage_spec`. -/
theorem farePriceWriteStoresRow : Obligations.FarePriceWriteStoresRow := by
  intro p f s admits one most d n
  rw [exec_farePriceWrite_of_admits admits f one most]
  refine ⟨fun bad => ?_, fun low high agrees => ?_⟩
  · rw [farePriceWrite_of_bad (by omega)]
  · rw [farePriceWrite_of_ok (by omega)]
    obtain ⟨reason, others, kept, ports, unchanged⟩ :=
      faresMessage_spec (s := priced (storePrices s.fares.prices (d - 1) f.prices) s) (before := s.fares.loaded)
        (after := anyPrice (storePrices s.fares.prices (d - 1) f.prices)) agrees
    have fares : (faresMessage s.fares.loaded (anyPrice (storePrices s.fares.prices (d - 1) f.prices))
        (priced (storePrices s.fares.prices (d - 1) f.prices) s)).fares =
        (priced (storePrices s.fares.prices (d - 1) f.prices) s).fares := by simp
    refine ⟨faresMessage s.fares.loaded _ (priced (storePrices s.fares.prices (d - 1) f.prices) s), ?_, fun j => ?_, ?_,
      ?_, ?_, others, kept, ports, fun same => ?_, ?_⟩
    · rw [fares]
      rfl
    · rw [fares]
      have stored := getElem?_storePrices f.prices s.fares.prices (i := d - 1) (by omega) j
      have shift : j - (d - 1) = j + 1 - d := by omega
      have reach : d - 1 ≤ j ↔ d ≤ j + 1 := by omega
      simp only [shift, reach] at stored
      exact stored
    · rw [fares]
      exact anyPrice_iff _
    · rw [fares]
      rfl
    · rw [fares]
      exact reason
    · rw [fares] at same
      rw [unchanged same]
      exact ⟨rfl, rfl⟩
    · exact changesOnly_iff.mpr (by simp [priced])

end Sys2Proof.Machine
end

section
/-! PROOFS. What a fare is (O24): the request read from a QUOTE's fields, the stages of the computation, and its
bounds. -/

namespace Sys2Proof.Machine

/-! ## The request read from the fields (R57, R204) -/

theorem byte_eq_of_toNat {a b : Byte} (h : a.toNat = b.toNat) : a = b := BitVec.eq_of_toNat_eq h

theorem flagOf_cases (b : Byte) :
    (b = 0 ∧ flagOf b = some false) ∨ (b = 1 ∧ flagOf b = some true) ∨ (b ≠ 0 ∧ b ≠ 1 ∧ flagOf b = none) := by
  unfold flagOf
  split
  · exact .inl ⟨byte_eq_of_toNat ‹_›, rfl⟩
  · exact .inr (.inl ⟨byte_eq_of_toNat ‹_›, rfl⟩)
  · rename_i zero one
    exact .inr (.inr ⟨fun e => zero (congrArg _ e), fun e => one (congrArg _ e), rfl⟩)

theorem ticketOf_cases (b : Byte) :
    (b = 0 ∧ ticketOf b = some .single) ∨ (b = 1 ∧ ticketOf b = some .ret) ∨ (b ≠ 0 ∧ b ≠ 1 ∧ ticketOf b = none) := by
  unfold ticketOf
  split
  · exact .inl ⟨byte_eq_of_toNat ‹_›, rfl⟩
  · exact .inr (.inl ⟨byte_eq_of_toNat ‹_›, rfl⟩)
  · rename_i zero one
    exact .inr (.inr ⟨fun e => zero (congrArg _ e), fun e => one (congrArg _ e), rfl⟩)

/-- The class and card of a QUOTE: absent together, present together, or refused. -/
theorem claimOf_cases (cls present : Byte) (card : BitVec 40) :
    ((cls = 0 ∧ present = 0) ∧ claimOf cls present card = some none) ∨
    ((1 ≤ cls.toNat ∧ cls.toNat ≤ 7 ∧ present = 1) ∧
      claimOf cls present card = some (some ⟨cls.toNat, card.toNat⟩)) ∨
    (¬ (cls = 0 ∧ present = 0) ∧ ¬ (1 ≤ cls.toNat ∧ cls.toNat ≤ 7 ∧ present = 1) ∧
      claimOf cls present card = none) := by
  unfold claimOf
  rcases flagOf_cases present with ⟨rfl, flag⟩ | ⟨rfl, flag⟩ | ⟨zero, one, flag⟩ <;> rw [flag]
  · by_cases cls0 : cls.toNat = 0
    · exact .inl ⟨⟨byte_eq_of_toNat cls0, rfl⟩, if_pos cls0⟩
    · exact .inr (.inr ⟨fun plain => cls0 (congrArg _ plain.1), fun carded => by simp at carded, if_neg cls0⟩)
  · by_cases range : 1 ≤ cls.toNat ∧ cls.toNat ≤ 7
    · exact .inr (.inl ⟨⟨range.1, range.2, rfl⟩, if_pos range⟩)
    · exact .inr (.inr ⟨fun plain => by simp at plain, fun carded => range ⟨carded.1, carded.2.1⟩, if_neg range⟩)
  · exact .inr (.inr ⟨fun plain => zero plain.2, fun carded => one carded.2.2, rfl⟩)

theorem callRefOf_eq_some {table : Byte} {service : BitVec 16} {r : CallRef} :
    callRefOf table service = some r ↔
      tableOf table = some r.table ∧ 1 ≤ service.toNat ∧ service.toNat ≤ 9999 ∧ r.service = service.toNat := by
  obtain ⟨t, n⟩ := r
  unfold callRefOf serviceOk
  cases tableOf table with
  | none => simp
  | some t' =>
    simp only [decide_eq_true_eq, Option.ite_none_right_eq_some, Option.some.injEq, CallRef.mk.injEq]
    constructor
    · rintro ⟨⟨low, high⟩, rfl, rfl⟩
      exact ⟨rfl, low, high, rfl⟩
    · rintro ⟨rfl, low, high, rfl⟩
      exact ⟨⟨low, high⟩, rfl, rfl⟩

/-- The target of a QUOTE: absent, a call named, or refused. -/
theorem targetOf_cases (present table : Byte) (service : BitVec 16) :
    (present = 0 ∧ targetOf present table service = some none) ∨
    (∃ t, (present = 1 ∧ tableOf table = some t ∧ 1 ≤ service.toNat ∧ service.toNat ≤ 9999) ∧
      targetOf present table service = some (some ⟨t, service.toNat⟩)) ∨
    (present ≠ 0 ∧ (∀ t, ¬ (present = 1 ∧ tableOf table = some t ∧ 1 ≤ service.toNat ∧ service.toNat ≤ 9999)) ∧
      targetOf present table service = none) := by
  unfold targetOf
  rcases flagOf_cases present with ⟨rfl, flag⟩ | ⟨rfl, flag⟩ | ⟨zero, one, flag⟩ <;> rw [flag]
  · exact .inl ⟨rfl, rfl⟩
  · cases ref : callRefOf table service with
    | none =>
      refine .inr (.inr ⟨by decide, fun t named => ?_, rfl⟩)
      obtain ⟨-, table', low, high⟩ := named
      cases ref.symm.trans (callRefOf_eq_some.mpr ⟨table', low, high, rfl⟩ :
        callRefOf table service = some ⟨t, service.toNat⟩)
    | some r =>
      obtain ⟨table', low, high, same⟩ := callRefOf_eq_some.mp ref
      refine .inr (.inl ⟨r.table, ⟨rfl, table', low, high⟩, ?_⟩)
      rw [← same]
      rfl
  · exact .inr (.inr ⟨zero, fun t named => one named.1, rfl⟩)

/-- The party and the destination of a QUOTE lie within their limits (R57). -/
def quoteInLimits (f : QuoteBody) : Prop :=
  f.destination.toNat ≤ 4095 ∧ f.adults.toNat ≤ 9 ∧ f.children.toNat ≤ 9 ∧
    1 ≤ f.adults.toNat + f.children.toNat ∧ f.adults.toNat + f.children.toNat ≤ 9

theorem fareRequestOf_of_limits {f : QuoteBody} (limits : quoteInLimits f) {ticket : TicketType}
    {claim : Option CardClaim} {target : Option CallRef} (h : ticketOf f.ticket = some ticket)
    (hc : claimOf f.concession f.cardPresent f.card = some claim)
    (ht : targetOf f.targetPresent f.table f.service = some target) :
    fareRequestOf f = some
      { destination := f.destination.toNat, ticket := ticket, adults := f.adults.toNat,
        children := f.children.toNat, concession := claim, target := target } := by
  unfold fareRequestOf
  rw [h, hc, ht]
  exact if_pos limits

theorem fareRequestOf_ne_none {f : QuoteBody} (h : fareRequestOf f ≠ none) :
    quoteInLimits f ∧ ticketOf f.ticket ≠ none ∧ claimOf f.concession f.cardPresent f.card ≠ none ∧
      targetOf f.targetPresent f.table f.service ≠ none := by
  unfold fareRequestOf at h
  split at h
  · rename_i ticket claim target
    split at h
    · exact ⟨‹_›, by simp [ticket], by simp [claim], by simp [target]⟩
    · exact absurd rfl h
  · exact absurd rfl h

/-- The first clause of O24. -/
theorem fareRequestOf_spec (f : QuoteBody) :
    let party := f.adults.toNat + f.children.toNat
    let plain := f.concession = 0 ∧ f.cardPresent = 0
    let carded := 1 ≤ f.concession.toNat ∧ f.concession.toNat ≤ 7 ∧ f.cardPresent = 1
    let named := fun t : TableName =>
      f.targetPresent = 1 ∧ tableOf f.table = some t ∧ 1 ≤ f.service.toNat ∧ f.service.toNat ≤ 9999
    let valid := f.destination.toNat ≤ 4095 ∧ (f.ticket = 0 ∨ f.ticket = 1) ∧
      f.adults.toNat ≤ 9 ∧ f.children.toNat ≤ 9 ∧ 1 ≤ party ∧ party ≤ 9 ∧ (plain ∨ carded) ∧
      (f.targetPresent = 0 ∨ ∃ t, named t)
    (¬ valid → fareRequestOf f = none) ∧
    (valid → ∃ r, fareRequestOf f = some r ∧ r.destination = f.destination.toNat ∧
      r.ticket = (if f.ticket = 0 then .single else .ret) ∧
      r.adults = f.adults.toNat ∧ r.children = f.children.toNat ∧ (plain → r.concession = none) ∧
      (carded → r.concession = some ⟨f.concession.toNat, f.card.toNat⟩) ∧
      (f.targetPresent = 0 → r.target = none) ∧
      ∀ t, named t → r.target = some ⟨t, f.service.toNat⟩) := by
  intro party plain carded named valid
  refine ⟨fun invalid => Classical.byContradiction fun read => invalid ?_, fun ok => ?_⟩
  · obtain ⟨⟨destination, adults, children, some, most⟩, ticket, claim, target⟩ := fareRequestOf_ne_none read
    refine ⟨destination, ?_, adults, children, some, most, ?_, ?_⟩
    · rcases ticketOf_cases f.ticket with ⟨zero, -⟩ | ⟨one, -⟩ | ⟨-, -, none⟩
      · exact .inl zero
      · exact .inr one
      · exact absurd none ticket
    · rcases claimOf_cases f.concession f.cardPresent f.card with ⟨plain, -⟩ | ⟨carded, -⟩ | ⟨-, -, none⟩
      · exact .inl plain
      · exact .inr carded
      · exact absurd none claim
    · rcases targetOf_cases f.targetPresent f.table f.service with ⟨zero, -⟩ | ⟨t, named, -⟩ | ⟨-, -, none⟩
      · exact .inl zero
      · exact .inr ⟨t, named⟩
      · exact absurd none target
  · obtain ⟨destination, ticket, adults, children, some, most, claim, target⟩ := ok
    have limits : quoteInLimits f := ⟨destination, adults, children, some, most⟩
    obtain ⟨k, ticket', kind⟩ : ∃ k, ticketOf f.ticket = Option.some k ∧ k = if f.ticket = 0 then .single else .ret := by
      rcases ticketOf_cases f.ticket with ⟨zero, e⟩ | ⟨one, e⟩ | ⟨zero, one, -⟩
      · exact ⟨_, e, by simp [zero]⟩
      · exact ⟨_, e, by simp [one]⟩
      · exact absurd ticket (not_or.mpr ⟨zero, one⟩)
    obtain ⟨c, claim', plain', carded'⟩ : ∃ c, claimOf f.concession f.cardPresent f.card = Option.some c ∧
        (plain → c = none) ∧ (carded → c = Option.some ⟨f.concession.toNat, f.card.toNat⟩) := by
      rcases claimOf_cases f.concession f.cardPresent f.card with ⟨is, e⟩ | ⟨is, e⟩ | ⟨no, no', -⟩
      · exact ⟨_, e, fun _ => rfl, fun has => absurd (is.2.symm.trans has.2.2) (by decide)⟩
      · exact ⟨_, e, fun has => absurd (has.2.symm.trans is.2.2) (by decide), fun _ => rfl⟩
      · exact absurd claim (not_or.mpr ⟨no, no'⟩)
    obtain ⟨t, target', absent, present⟩ : ∃ t, targetOf f.targetPresent f.table f.service = Option.some t ∧
        (f.targetPresent = 0 → t = none) ∧ ∀ n, named n → t = Option.some ⟨n, f.service.toNat⟩ := by
      rcases targetOf_cases f.targetPresent f.table f.service with ⟨is, e⟩ | ⟨n, is, e⟩ | ⟨no, no', -⟩
      · exact ⟨_, e, fun _ => rfl, fun n has => absurd (is.symm.trans has.1) (by decide)⟩
      · refine ⟨_, e, fun has => absurd (has.symm.trans is.1) (by decide), fun n' has => ?_⟩
        obtain rfl : n = n' := Option.some.inj (is.2.1.symm.trans has.2.1)
        rfl
      · exact absurd target (not_or.mpr ⟨no, fun ⟨n, named⟩ => no' n named⟩)
    exact ⟨_, fareRequestOf_of_limits limits ticket' claim' target', rfl, kind, rfl, rfl, plain', carded', absent,
      present⟩

/-! ## The stages of the computation (R50, R59 to R67) -/

section Stages

variable {s : State} {r : FareRequest}

theorem distanceOf_eq_none {f : FareTables} {code : Nat}
    (none : ∀ (i : Fin 32) e, f.ranges[i] = some e → ¬ (e.first ≤ code ∧ code ≤ e.last)) :
    f.distanceOf code = Option.none := by
  unfold FareTables.distanceOf
  rw [Option.map_eq_none_iff, List.find?_eq_none]
  intro e held
  obtain ⟨i, inside, at_i⟩ := List.getElem_of_mem (by simpa using held : some e ∈ f.ranges.toList)
  have := none ⟨i, by simpa using inside⟩ e (by simpa using at_i)
  simpa using this

/-- The lowest range that contains the code gives the distance (R50). -/
theorem distanceOf_eq_some {f : FareTables} {code : Nat} {i : Fin 32} {e : RangeEntry} (at_i : f.ranges[i] = some e)
    (covers : e.first ≤ code ∧ code ≤ e.last)
    (lowest : ∀ j, j < i → ∀ e', f.ranges[j] = some e' → ¬ (e'.first ≤ code ∧ code ≤ e'.last)) :
    f.distanceOf code = some e.distance := by
  unfold FareTables.distanceOf
  have found : f.ranges.toList.find? (fun x => x.any (fun e => decide (e.first ≤ code ∧ code ≤ e.last))) =
      some (some e) := by
    rw [List.find?_eq_some_iff_getElem]
    refine ⟨by simpa using covers, i.val, by simp, by simpa using at_i, fun j before => ?_⟩
    have low := lowest ⟨j, Nat.lt_trans before i.isLt⟩ before
    cases at_j : f.ranges.toList[j]'(by simpa using Nat.lt_trans before i.isLt) with
    | none => rfl
    | some e' =>
      have off := low e' (by simpa using at_j)
      simp only [Option.any_some, off, decide_false, Bool.not_false]
  have first : (f.ranges.toList.filterMap id).find? (fun e => decide (e.first ≤ code ∧ code ≤ e.last)) = some e := by
    rw [List.find?_filterMap]
    exact congrArg (fun x => x.bind id) found
  rw [first]
  rfl

theorem priceAt_eq (f : FareTables) (d : Fin 15) : f.priceAt (d.val + 1) = f.prices[d] := by
  simp [FareTables.priceAt]

theorem bandBasis_of_absent {t : CallRef} (target : r.target = some t) (absent : s.store.call t = none) :
    s.bandBasis r = none := by
  unfold State.bandBasis
  unfold Store.call at absent
  rw [target]
  dsimp only
  cases table : s.store.table t.table with
  | none => rfl
  | some tab =>
    rw [table] at absent
    have none : findCall tab.calls t.service = none := absent
    simp only [none]

/-- The minute and the day kind that decide the band (R60). -/
theorem bandBasis_of_basis {minute : Nat} {kind : DayKind}
    (basis : r.target = none ∧ minute = s.clock.second / 60 ∧ kind = s.clock.kind ∨
      ∃ t tab c, r.target = some t ∧ s.store.table t.table = some tab ∧ s.store.call t = some c ∧
        minute = c.scheduled ∧ kind = tab.kind) : s.bandBasis r = some (minute, kind) := by
  unfold State.bandBasis
  rcases basis with ⟨target, rfl, rfl⟩ | ⟨t, tab, c, target, table, call, rfl, rfl⟩
  · rw [target]
    rfl
  · rw [target]
    unfold Store.call at call
    rw [table] at call
    have found : findCall tab.calls t.service = some c := call
    simp only [table, found]

theorem isPeak_iff (f : FareTables) (minute : Nat) :
    f.isPeak minute = true ↔ ∃ w : Fin 4, f.peaks[w].start ≤ minute ∧ minute < f.peaks[w].stop := by
  simp only [FareTables.isPeak, List.any_eq_true, PeakWindow.contains, decide_eq_true_eq]
  constructor
  · rintro ⟨w, held, inside⟩
    obtain ⟨i, small, rfl⟩ := List.getElem_of_mem held
    exact ⟨⟨i, by simpa using small⟩, by simpa using inside⟩
  · rintro ⟨w, inside⟩
    exact ⟨f.peaks[w], by simp, inside⟩

theorem band_spec (f : FareTables) (kind : DayKind) (minute : Nat) :
    let peak := kind = .weekday ∧ ∃ w : Fin 4, f.peaks[w].start ≤ minute ∧ minute < f.peaks[w].stop
    (peak → f.band kind minute = .peak) ∧ (¬ peak → f.band kind minute = .offPeak) := by
  intro peak
  have iff : (kind = .weekday ∧ f.isPeak minute = true) ↔ peak := and_congr_right fun _ => isPeak_iff f minute
  exact ⟨fun is => if_pos (iff.mpr is), fun off => if_neg fun is => off (iff.mp is)⟩

theorem bandPercent_eq (f : FareTables) (b : Band) :
    f.bandPercent b = if b = .peak then 100 else f.offPeakPercent := by
  cases b <;> rfl

theorem returnFactor_eq (f : FareTables) (t : TicketType) :
    f.returnFactor t = if t = .single then 100 else f.returnPercent := by
  cases t <;> rfl

theorem concessionOf_of_claim (f : FareTables) {k : Fin 8} {card : Nat} (h : r.concession = some ⟨k.val, card⟩) :
    f.concessionOf r = some f.concessions[k] := by
  simp [FareTables.concessionOf, h]

theorem concessionOf_of_none (f : FareTables) (h : r.concession = none) : f.concessionOf r = none := by
  simp [FareTables.concessionOf, h]

/-- The exact value before the child and the concession percentages, times 10,000 (R61, R62). -/
def FareTables.base (f : FareTables) (r : FareRequest) (p : Nat) (band : Band) : Nat :=
  p * f.returnFactor r.ticket * f.bandPercent band

/-- The stages of a fare, one by one (R62 to R67). -/
theorem price_spec (f : FareTables) (r : FareRequest) (d p : Nat) (band : Band) :
    let x := f.price r d p band
    let base := f.base r p band
    let party := r.adults + r.children
    x.distance = d ∧ x.price = p ∧ x.band = band ∧
    x.adult = roundTo f.step base 10000 ∧ x.child = roundTo f.step (base * f.childPercent) 1000000 ∧
    (r.concession = none → x.holder = .none ∧ x.notApplied = false) ∧
    (∀ (k : Fin 8) card, r.concession = some ⟨k.val, card⟩ →
      let c := f.concessions[k]
      x.concAdult = roundTo f.step (base * (100 - c.discount)) 1000000 ∧
      x.concChild = roundTo f.step (base * f.childPercent * (100 - c.discount)) 100000000 ∧
      (1 ≤ r.adults → x.holder = .adult ∧ x.notApplied = false) ∧
      (r.adults = 0 → c.appliesTo = .all → x.holder = .child ∧ x.notApplied = false) ∧
      (r.adults = 0 → c.appliesTo = .adults → x.holder = .none ∧ x.notApplied = true)) ∧
    x.sum = sumOf x.holder r.adults r.children x.adult x.child x.concAdult x.concChild ∧
    (2 ≤ party → x.cap = some (f.capMultiple * x.adult) ∧ x.total = min x.sum (f.capMultiple * x.adult)) ∧
    (party ≤ 1 → x.cap = none ∧ x.total = x.sum) := by
  intro x base party
  refine ⟨rfl, rfl, rfl, rfl, rfl, fun none => ?_, fun k card claim => ?_, rfl, fun many => ?_, fun one => ?_⟩
  · simp [x, FareTables.price, concessionOf_of_none f none, holderOf]
  · intro c
    have held := concessionOf_of_claim f claim
    have holder : x.holder = holderOf (some c) r.adults := by simp [x, FareTables.price, held, c]
    have flag : x.notApplied = decide (x.holder = .none) := by simp [x, FareTables.price, held]
    refine ⟨by simp [x, FareTables.price, held, c, base, FareTables.base],
      by simp [x, FareTables.price, held, c, base, FareTables.base], fun adults => ?_, fun none all => ?_,
      fun none adults => ?_⟩ <;> rw [flag, holder]
    · simp [holderOf, adults]
    · simp [holderOf, none, all]
    · simp [holderOf, none, adults]
  · have cap : x.cap = some (f.capMultiple * x.adult) := if_pos many
    refine ⟨cap, ?_⟩
    show (match x.cap with | none => x.sum | some m => min x.sum m) = _
    rw [cap]
  · have cap : x.cap = none := if_neg (by omega)
    refine ⟨cap, ?_⟩
    show (match x.cap with | none => x.sum | some m => min x.sum m) = _
    rw [cap]

theorem computeFare_of_no_price {d : Nat} (distance : s.fares.distanceOf r.destination = some d)
    (price : s.fares.priceAt d = 0) : s.computeFare r = .noFare := by
  unfold State.computeFare
  rw [distance]
  exact if_pos price

theorem computeFare_of_basis {d : Nat} (distance : s.fares.distanceOf r.destination = some d)
    (price : s.fares.priceAt d ≠ 0) :
    s.computeFare r =
      match s.bandBasis r with
      | none => .noSuch
      | some (m, kind) => .fare (s.fares.price r d (s.fares.priceAt d) (s.fares.band kind m)) := by
  unfold State.computeFare
  rw [distance]
  exact if_neg price

theorem computeFare_eq_fare {x : Fare} (h : s.computeFare r = .fare x) :
    ∃ d band, x = s.fares.price r d (s.fares.priceAt d) band := by
  unfold State.computeFare at h
  (repeat' split at h) <;> cases h
  exact ⟨_, _, rfl⟩

end Stages

/-! ## The bounds of a fare (R63, R67) -/

/-- Rounding keeps the order of the exact values. -/
theorem roundTo_mono {step n d n' d' : Nat} (hstep : 0 < step) (hd : 0 < d) (hd' : 0 < d') (less : n * d' ≤ n' * d) :
    roundTo step n d ≤ roundTo step n' d' := by
  obtain ⟨whole, above, -⟩ := roundingIsNearest step n d hstep hd
  obtain ⟨whole', -, below⟩ := roundingIsNearest step n' d' hstep hd'
  obtain ⟨k, hk⟩ := Nat.dvd_of_mod_eq_zero whole
  obtain ⟨k', hk'⟩ := Nat.dvd_of_mod_eq_zero whole'
  refine Nat.le_of_not_lt fun more => ?_
  rw [hk, hk'] at more
  rw [hk] at above
  rw [hk'] at below
  have next : k' + 1 ≤ k := Nat.lt_of_mul_lt_mul_left more
  have scaled := Nat.mul_le_mul_right d' above
  have scaled' := Nat.mul_lt_mul_of_pos_right below hd
  have steps := Nat.mul_le_mul_left (2 * (step * (d * d'))) next
  grind

/-- Rounding an exact value at most a multiple of the step gives at most that multiple. -/
theorem roundTo_le {step n d m : Nat} (hstep : 0 < step) (hd : 0 < d) (whole : m % step = 0) (less : n ≤ m * d) :
    roundTo step n d ≤ m := by
  obtain ⟨whole', above, -⟩ := roundingIsNearest step n d hstep hd
  obtain ⟨k, hk⟩ := Nat.dvd_of_mod_eq_zero whole
  obtain ⟨k', hk'⟩ := Nat.dvd_of_mod_eq_zero whole'
  refine Nat.le_of_not_lt fun more => ?_
  rw [hk, hk'] at more
  rw [hk'] at above
  rw [hk] at less
  have next : k + 1 ≤ k' := Nat.lt_of_mul_lt_mul_left more
  have steps := Nat.mul_le_mul_left (2 * (step * d)) next
  have pos := Nat.mul_pos hstep hd
  grind

section Bounds

variable {f : FareTables} {r : FareRequest}

theorem step_pos (h : f.ok) : 0 < f.step ∧ 125000 % f.step = 0 := by
  rcases h.step with e | e | e | e <;> rw [e] <;> decide

theorem priceAt_le (h : f.ok) (d : Nat) : f.priceAt d ≤ 50000 := by
  unfold FareTables.priceAt
  cases at_d : f.prices.toList[d - 1]? with
  | none => simp
  | some x => exact h.prices x (List.mem_of_getElem? at_d)

theorem base_le (h : f.ok) {p : Nat} (price : p ≤ 50000) (band : Band) : f.base r p band ≤ 125000 * 10000 := by
  obtain ⟨low, high, low', high', -⟩ := h.percents
  have factor : f.returnFactor r.ticket ≤ 250 := by
    rw [returnFactor_eq]
    split <;> omega
  have percent : f.bandPercent band ≤ 100 := by
    rw [bandPercent_eq]
    split <;> omega
  calc p * f.returnFactor r.ticket * f.bandPercent band
      ≤ 50000 * 250 * 100 := Nat.mul_le_mul (Nat.mul_le_mul price factor) percent
    _ = 125000 * 10000 := by decide

/-- A percentage of an amount in ten-thousandths, over a hundred times that (R62, R64). -/
theorem percent_scaled {amount q : Nat} (hq : q ≤ 100) : amount * q * 10000 ≤ amount * 1000000 := by
  rw [Nat.mul_assoc]
  exact Nat.mul_le_mul_left amount (by omega)

/-- A percentage of a percentage of an amount in ten-thousandths (R64). -/
theorem percents_scaled {amount q q' : Nat} (hq : q ≤ 100) (hq' : q' ≤ 100) :
    amount * q * q' * 10000 ≤ amount * 100000000 := by
  have product : q * q' ≤ 10000 := Nat.mul_le_mul hq hq'
  rw [Nat.mul_assoc amount, Nat.mul_assoc amount]
  exact Nat.mul_le_mul_left amount (by omega)

/-- The values per person: no one is charged more than an adult, and an adult at most 125,000 (R62 to R64). -/
theorem values_le (h : f.ok) {p : Nat} (price : p ≤ 50000) (d : Nat) (band : Band) :
    let x := f.price r d p band
    x.adult ≤ 125000 ∧ x.child ≤ x.adult ∧ x.concAdult ≤ x.adult ∧ x.concChild ≤ x.adult := by
  intro x
  obtain ⟨pos, whole⟩ := step_pos h
  have child : f.childPercent ≤ 100 := h.percents.2.2.2.2
  have smaller {n d : Nat} (hd : 0 < d) (less : n * 10000 ≤ f.base r p band * d) : roundTo f.step n d ≤ x.adult :=
    roundTo_mono pos hd (by decide) less
  have conc : x.concAdult ≤ x.adult ∧ x.concChild ≤ x.adult := by
    cases k : f.concessionOf r with
    | none => simp [x, FareTables.price, k]
    | some c =>
      have adult : x.concAdult = roundTo f.step (f.base r p band * (100 - c.discount)) 1000000 := by
        simp [x, FareTables.price, FareTables.base, k]
      have child' : x.concChild =
          roundTo f.step (f.base r p band * f.childPercent * (100 - c.discount)) 100000000 := by
        simp [x, FareTables.price, FareTables.base, k]
      have rest : 100 - c.discount ≤ 100 := Nat.sub_le _ _
      rw [adult, child']
      refine ⟨smaller (by decide) ?_, smaller (by decide) ?_⟩
      · exact percent_scaled rest
      · exact percents_scaled child rest
  exact ⟨roundTo_le pos (by decide) whole (base_le h price band), smaller (by decide) (percent_scaled child), conc⟩

/-- What a holder is given is charged to someone in the party (R65). -/
theorem sumOf_le {h : Holder} {adults children a c a' c' : Nat} (child : c ≤ a) (adult' : a' ≤ a) (child' : c' ≤ a)
    (adult : h = .adult → 1 ≤ adults) (minor : h = .child → 1 ≤ children) :
    sumOf h adults children a c a' c' ≤ (adults + children) * a := by
  have children_le : ∀ n, n * c ≤ n * a := fun n => Nat.mul_le_mul_left n child
  cases h with
  | adult =>
    obtain ⟨n, rfl⟩ := Nat.exists_eq_add_of_le (adult rfl)
    have := children_le children
    simp only [sumOf, Nat.add_sub_cancel_left]
    grind
  | child =>
    obtain ⟨n, rfl⟩ := Nat.exists_eq_add_of_le (minor rfl)
    have := children_le n
    simp only [sumOf, Nat.add_sub_cancel_left]
    grind
  | none =>
    have := children_le children
    simp only [sumOf]
    grind

theorem holderOf_adult {k : Option Concession} {adults : Nat} (h : holderOf k adults = .adult) : 1 ≤ adults := by
  unfold holderOf at h
  (repeat' split at h) <;> first | assumption | cases h

theorem holderOf_child {k : Option Concession} {adults : Nat} (h : holderOf k adults = .child) : adults = 0 := by
  unfold holderOf at h
  (repeat' split at h) <;> first | omega | cases h

/-- The last clause of O24. -/
theorem price_le (h : f.ok) {p : Nat} (price : p ≤ 50000) (d : Nat) (band : Band) (some : 1 ≤ r.adults + r.children)
    (most : r.adults + r.children ≤ 9) :
    let x := f.price r d p band
    x.total ≤ 1125000 ∧ x.total ≤ x.sum ∧ x.child ≤ x.adult ∧ x.concAdult ≤ x.adult ∧ x.concChild ≤ x.adult ∧
      (2 ≤ r.adults + r.children → x.total ≤ f.capMultiple * x.adult) ∧
      (r.adults + r.children = 1 → x.total = x.sum) := by
  intro x
  obtain ⟨adult, child, concAdult, concChild⟩ := values_le (r := r) h price d band
  obtain ⟨-, -, -, -, -, none, card, sum, many, one⟩ := price_spec f r d p band
  have total : x.total ≤ x.sum := by
    rcases Nat.lt_or_ge 1 (r.adults + r.children) with two | single
    · exact (many two).2 ▸ Nat.min_le_left _ _
    · exact Nat.le_of_eq (one single).2
  have bound : x.sum ≤ (r.adults + r.children) * x.adult := by
    rw [sum]
    refine sumOf_le child concAdult concChild (fun holder => holderOf_adult holder) (fun holder => ?_)
    have := holderOf_child holder
    omega
  have most' : (r.adults + r.children) * x.adult ≤ 9 * 125000 := Nat.mul_le_mul most adult
  exact ⟨by omega, total, child, concAdult, concChild, fun two => (many two).2 ▸ Nat.min_le_right _ _,
    fun single => (one (Nat.le_of_eq single)).2⟩

end Bounds

/-- Settles O24: the fields read by `fareRequestOf_spec`, the stages by `price_spec`, the bounds by `price_le`. -/
theorem fareTotalIsBounded : Obligations.FareTotalIsBounded := by
  refine ⟨fareRequestOf_spec, fun s r => ⟨fun none => ?_, fun i e d at_i covers lowest distance => ?_⟩,
    fun s r x ok some most fare => ?_⟩
  · unfold State.computeFare
    rw [distanceOf_eq_none none]
  · have distance' := distanceOf_eq_some at_i covers lowest
    have price' : s.fares.priceAt e.distance = s.fares.prices[d] := by rw [distance, priceAt_eq]
    intro price
    refine ⟨fun free => computeFare_of_no_price distance' (price'.trans free), fun priced t target absent => ?_,
      fun priced minute kind basis => ?_⟩
    · rw [computeFare_of_basis distance' (price' ▸ priced), bandBasis_of_absent target absent]
    · intro peak
      obtain ⟨is, off⟩ := band_spec s.fares kind minute
      have computed : s.computeFare r = .fare (s.fares.price r e.distance price (s.fares.band kind minute)) := by
        rw [computeFare_of_basis distance' (price' ▸ priced), bandBasis_of_basis basis, price']
      obtain ⟨hd, hp, hb, adult, child, none, card, sum, many, one⟩ :=
        price_spec s.fares r e.distance price (s.fares.band kind minute)
      refine ⟨_, computed, hd, hp, is, off, ?_⟩
      have base : s.fares.base r price (s.fares.band kind minute) =
          price * (if r.ticket = .single then 100 else s.fares.returnPercent) *
            (if s.fares.band kind minute = .peak then 100 else s.fares.offPeakPercent) := by
        rw [FareTables.base, returnFactor_eq, bandPercent_eq]
      rw [base] at adult child card
      exact ⟨adult, child, none, card, sum, many, one⟩
  · obtain ⟨d, band, rfl⟩ := computeFare_eq_fare fare
    exact price_le ok (priceAt_le ok d) d band some most

end Sys2Proof.Machine
end

section
/-! PROOFS. The reads (R56, R96, R199, R200): the length of each reply's body, and the reads as requests (O22). -/

namespace Sys2Proof.Machine

/-! ## Lengths of the records in replies -/

theorem length_flatMap_of_const {α : Type} {write : α → List Byte} {n : Nat} (same : ∀ x, (write x).length = n)
    (l : List α) : (l.flatMap write).length = n * l.length := Laws.FitsFrame.flatMap_length same l

theorem length_runBytes {α : Type} {write : Nat → α → List Byte} {n : Nat} (same : ∀ i x, (write i x).length = n)
    (l : List α) : ∀ i, (runBytes write i l).length = n * l.length := by
  induction l with
  | nil => exact fun _ => rfl
  | cons x xs ih => simp [runBytes, same, ih, Nat.mul_succ, Nat.add_comm]

@[simp] theorem length_flagByte (b : Bool) : (flagByte b).length = 1 := length_num1 _

@[simp] theorem length_reasonBytes (rs : List Reason) : (reasonBytes rs).length = 1 := length_num1 _

@[simp] theorem length_remainingBytes (n : Option Nat) : (remainingBytes n).length = 2 := by
  cases n <;> exact length_num _ _

theorem length_rangeBytes (i : Nat) (e : Option RangeEntry) : (rangeBytes i e).length = 7 := by
  cases e <;> simp [rangeBytes]

theorem length_rvlBytes (i : Nat) (e : Option RvlEntry) : (rvlBytes i e).length = 8 := by
  cases e <;> simp [rvlBytes]

theorem length_concessionBytes (i : Nat) (c : Concession) : (concessionBytes i c).length = 3 := by
  simp [concessionBytes]

theorem length_peakBytes (i : Nat) (w : PeakWindow) : (peakBytes i w).length = 5 := by simp [peakBytes]

theorem length_panelBytes (r : Panel) : (panelBytes r).length = 8 := by simp [panelBytes]

theorem length_callBytes (c : Call) : (callBytes c).length = 17 := by
  cases r : c.report <;> simp [callBytes, r]

@[simp] theorem length_tableStatus (t : Option DayTable) : (tableStatus t).length = 7 := by
  cases t <;> simp [tableStatus]

/-! ## STATUS -/

theorem length_statusClock (s : State) : s.statusClock.length ≤ 252 := by
  cases g : s.store.staging <;> simp [State.statusClock, stagingStatus, g]

theorem length_statusDetector (s : State) : s.statusDetector.length ≤ 252 := by
  cases g : s.detector.passage <;> simp [State.statusDetector, treadleStatus, passageStatus, g]

theorem length_portSalesStatus (x : PortSales) : (portSalesStatus x).length = 12 := by
  cases g : x.slot <;> cases l : x.lastSale <;> simp [portSalesStatus, g, l]

theorem length_statusSales (s : State) : s.statusSales.length ≤ 252 := by
  simp [State.statusSales, length_portSalesStatus, PerPort.toList]

theorem length_statusJournal (s : State) : s.statusJournal.length ≤ 252 := by
  cases g : s.journal.batch <;> simp [State.statusJournal, batchStatus, g]

theorem length_progress (b : DisplayBus) : b.progress.length = 2 := by
  unfold DisplayBus.progress; split <;> simp

theorem length_statusDisplay (s : State) : s.statusDisplay.length ≤ 252 := by
  simp [State.statusDisplay, DisplayBus.settings, length_progress, length_flatMap_of_const length_panelBytes,
    -List.length_flatMap]

theorem length_statusSupply (s : State) : s.statusSupply.length ≤ 252 := by
  cases g : s.supply.load <;> simp [State.statusSupply, loadStatus, g]

theorem length_statusPorts (s : State) : s.statusPorts.length ≤ 252 := by
  simp [State.statusPorts, portStatus, rightsBytes, PerPort.toList]

theorem length_statusBytes (s : State) : ∀ x, (s.statusBytes x).length ≤ 252
  | .clock => length_statusClock s
  | .detector => length_statusDetector s
  | .sales => length_statusSales s
  | .journal => length_statusJournal s
  | .display => length_statusDisplay s
  | .supply => length_statusSupply s
  | .ports => length_statusPorts s

/-- A frame heard shows in STATUS as a terminal no longer silent alone (log 24). -/
theorem statusBytes_hear {p : Port} {s : State} (alike : p ≠ .terminal ∨ s.sales.silent = false) (n : Nat)
    (x : StatusSection) : (hear p n s).statusBytes x = s.statusBytes x := by
  cases p with
  | link => cases x <;> rfl
  | service => cases x <;> rfl
  | terminal =>
    have active : s.sales.silent = false := alike.resolve_left (· rfl)
    cases x with
    | sales => simp only [State.statusBytes, State.statusSales, active]; rfl
    | _ => rfl

/-- STATUS reads the part with its own frame heard (R199; log 24). -/
theorem exec_status_of_admits {p : Port} {s : State} (f : StatusBody) (h : s.admits p .status) :
    exec (.status p (.fields f)) s =
      .next (settle (answered p ReqCode.status.byte 1 (status f (hear p 3 s)).2 s)) := by
  rw [exec_eq]
  refine congrArg (fun t => Host.Outcome.next (settle t)) ((request_admitted h rfl).trans ?_)
  have kept : (status f (hear p 3 s)).1 = hear p 3 s := by unfold status; split <;> rfl
  exact congrArg (makeReply p ReqCode.status.byte _) kept

/-- O22's clause for STATUS of a known part. -/
theorem exec_status_of_section {p : Port} {f : StatusBody} {x : StatusSection} {s : State} (h : s.admits p .status)
    (known : statusSectionOf f.statusSection = some x) :
    exec (.status p (.fields f)) s =
      .next (settle (answered p ReqCode.status.byte 1 (.okWith ((hear p 3 s).statusBytes x)) s)) := by
  rw [exec_status_of_admits f h, status, known]

theorem exec_status_of_unknown {p : Port} {f : StatusBody} {s : State} (h : s.admits p .status)
    (unknown : statusSectionOf f.statusSection = none) :
    exec (.status p (.fields f)) s =
      .next (settle (answered p ReqCode.status.byte 1 (.refuse .badRequest) s)) := by
  rw [exec_status_of_admits f h, status, unknown]

/-! ## LIST_CALLS, FARE_READ and RVL_READ -/

theorem length_listCallsBytes (name : TableName) (t : Option DayTable) (first n : Nat) :
    (listCallsBytes name t first n).length = 10 + 17 * (listedCalls t first n).length := by
  simp only [listCallsBytes, length_flatMap_of_const length_callBytes, List.length_append, length_num1,
    length_tableStatus]

theorem length_listedCalls (t : Option DayTable) (first n : Nat) : (listedCalls t first n).length ≤ 14 :=
  Nat.le_trans (List.length_take_le _ _) (Nat.min_le_right n 14)

theorem length_fareReadBytes (f : FareTables) (name : FareTableName) (first n : Nat) :
    (fareReadBytes f name first n).length ≤ 252 := by
  cases name with
  | ranges =>
    simp [fareReadBytes, length_runBytes length_rangeBytes]
    omega
  | prices =>
    simp [fareReadBytes, priceRowBytes, length_flatMap_of_const (length_num 3), -List.length_flatMap]
  | parameters => simp [fareReadBytes, paramBytes]
  | concessions => simp [fareReadBytes, length_runBytes length_concessionBytes]
  | peaks => simp [fareReadBytes, length_runBytes length_peakBytes]

theorem length_rvlRun {l : List (Option RvlEntry)} {first n : Nat} (inside : first + n ≤ l.length) :
    (num1 first ++ num1 (min n 31) ++ runBytes rvlBytes first ((l.drop first).take (min n 31))).length =
      2 + 8 * min n 31 := by
  simp [length_runBytes length_rvlBytes]
  omega

theorem runOk_iff {size first n : Nat} : runOk size first n = true ↔ first < size ∧ 1 ≤ n ∧ first + n ≤ size := by
  simp [runOk]

/-- Settles O22: each read's bytes by their lengths, and each read as a request whose owner changes nothing. -/
theorem readsChangeNothing : Obligations.ReadsChangeNothing := by
  unfold Obligations.ReadsChangeNothing
  refine ⟨?_, ?_, ?_, ?_, fun p f s h unknown => exec_status_of_unknown h unknown, ?_, ?_, ?_⟩
  · exact fun p f x s h named =>
      ⟨length_statusBytes _ x, fun alike => statusBytes_hear alike 3 x, exec_status_of_section h named⟩
  · intro p f t s h named low one most calls body
    have own : listCalls f s = (s, .okWith body) := by
      rw [listCalls, named]
      exact if_neg (by omega)
    have length : body.length = 10 + 17 * calls.length := length_listCallsBytes t _ _ _
    have fits : calls.length ≤ 14 := length_listedCalls _ _ _
    refine ⟨length, by omega, ?_⟩
    rw [exec_listCalls_of_admits h, own]
  · intro p f name s h named run body
    have own : fareRead f s = (s, .okWith body) := by
      rw [fareRead, named]
      refine if_neg fun bad => ?_
      have ok : runOk 32 f.first.toNat f.count.toNat = true := runOk_iff.mpr (by have := run bad.1; omega)
      exact Bool.noConfusion (bad.2.symm.trans ok)
    refine ⟨length_fareReadBytes _ _ _ _, ?_⟩
    rw [exec_fareRead_of_admits h, own]
  · intro p f s h low one most run body
    have own : rvlRead f s = (s, .okWith body) := if_pos (runOk_iff.mpr ⟨by omega, one, most⟩)
    have length : body.length = 2 + 8 * min f.count.toNat 31 := length_rvlRun (by simpa using most)
    refine ⟨length, by omega, ?_⟩
    rw [exec_rvlRead_of_admits h, own]
  · intro p f s h bad
    have own : listCalls f s = (s, .refuse .badRequest) := by
      rw [listCalls]
      rcases bad with unknown | bad
      · rw [unknown]
      · split
        · rfl
        · exact if_pos bad
    rw [exec_listCalls_of_admits h, own]
  · intro p f s h bad
    have own : fareRead f s = (s, .refuse .badRequest) := by
      rw [fareRead]
      rcases bad with unknown | ⟨named, bad⟩
      · rw [unknown]
      · rw [named]
        refine if_pos ⟨rfl, Bool.eq_false_iff.mpr fun ok => ?_⟩
        have := runOk_iff.mp ok
        omega
    rw [exec_fareRead_of_admits h, own]
  · intro p f s h bad
    have own : rvlRead f s = (s, .refuse .badRequest) := if_neg fun ok => by
      have := runOk_iff.mp ok
      omega
    rw [exec_rvlRead_of_admits h, own]

end Sys2Proof.Machine
end

section
/-! PROOFS. Quotes, refused issues, voids and the timers of the sales controller (O25, O27, O28, O33). -/

namespace Sys2Proof.Machine

variable {s : State} {p : Port}

/-! ## What a refusal counts (R75, R80, R181) -/

theorem countRevoked_spec {c : Counter} (other : c ≠ .cardRevoked) (a : Answer) (s : State) :
    (countRevoked a (count c s)).counter c = s.counterPlus c 1 ∧
      (countRevoked a (count c s)).counter .cardRevoked =
        (if a.result = .cardRevoked then s.counterPlus .cardRevoked 1 else s.counter .cardRevoked) ∧
      countsOnly [c, .cardRevoked] s (countRevoked a (count c s)) ∧
      changesOnly [.counters] s (countRevoked a (count c s)) := by
  have counted : (count c s).counter .cardRevoked = s.counter .cardRevoked :=
    counter_countBy_of_ne _ s other.symm
  unfold countRevoked
  by_cases revoked : a.result = .cardRevoked
  · rw [if_pos revoked, if_pos revoked]
    refine ⟨(counter_countBy_of_ne _ _ other).trans (counter_countBy_self _ _ s), ?_, fun d out => ?_,
      (count_changesOnly c s).trans (count_changesOnly _ _)⟩
    · exact (counter_countBy_self _ _ _).trans (congrArg (fun n => min (n + 1) counterMax) counted)
    · obtain ⟨notC, notRevoked⟩ : d ≠ c ∧ d ≠ .cardRevoked := by simpa using out
      exact (counter_countBy_of_ne _ _ notRevoked).trans (counter_countBy_of_ne _ s notC)
  · rw [if_neg revoked, if_neg revoked]
    refine ⟨counter_countBy_self _ _ s, counted, fun d out => ?_, count_changesOnly c s⟩
    have notC : d ≠ c := by
      rintro rfl
      exact out (List.mem_cons_self ..)
    exact counter_countBy_of_ne _ s notC

/-! ## QUOTE (R75, R76) -/

theorem length_fareRequestBytes (r : FareRequest) : (fareRequestBytes r).length = 16 := by
  cases c : r.concession <;> cases t : r.target <;> simp [fareRequestBytes, c, t]

theorem length_quoteBytes (q : Quote) : (quoteBytes q).length = 48 := by
  simp [quoteBytes, length_fareRequestBytes]

theorem Sales.isOpen_of_nil {x : Sales} (opened : x.reasons = []) : x.isOpen = true := by simp [Sales.isOpen, opened]

theorem Sales.isOpen_of_ne {x : Sales} (closed : x.reasons ≠ []) : x.isOpen = false := by
  simpa [Sales.isOpen] using closed

theorem quoteChecks_of_closed {b : Body QuoteBody} (closed : s.sales.reasons ≠ []) :
    s.quoteChecks b = .error (closedAnswer s) := by
  simp [State.quoteChecks, Sales.isOpen_of_ne closed]

theorem quoteChecks_of_bad {f : QuoteBody} (opened : s.sales.reasons = []) (bad : fareRequestOf f = none) :
    s.quoteChecks (.fields f) = .error (.refuse .badRequest) := by
  simp [State.quoteChecks, Sales.isOpen_of_nil opened, bad]

/-- A refused QUOTE is counted and changes nothing else (R76, R181). -/
theorem quote_of_error {f : QuoteBody} {a : Answer} (h : s.admits p .quote)
    (checks : s.quoteChecks (.fields f) = .error a) :
    ∃ u, exec (.quote p (.fields f)) s = .next (settle (answered p ReqCode.quote.byte 16 a u)) ∧
      u.counter .refusedQuotes = s.counterPlus .refusedQuotes 1 ∧
      u.counter .cardRevoked =
        (if a.result = .cardRevoked then s.counterPlus .cardRevoked 1 else s.counter .cardRevoked) ∧
      countsOnly [.refusedQuotes, .cardRevoked] s u ∧ changesOnly [.counters] s u := by
  have own : quote p (.fields f) s = (countRevoked a (count .refusedQuotes s), a) := by
    rw [quote, checks]
  refine ⟨_, ?_, countRevoked_spec (by simp) a s⟩
  rw [exec_quote_of_admits h, own]

/-- The port's sales record replaced: what of the sales controller that leaves. -/
theorem setSales_spec (p : Port) (x : PortSales) (s : State) :
    (setSales p x s).sales.ports.get p = x ∧
      (∀ o, o ≠ p → (setSales p x s).sales.ports.get o = s.sales.ports.get o) ∧
      (setSales p x s).sales = { s.sales with ports := (setSales p x s).sales.ports } ∧
      changesOnly [.sales] s (setSales p x s) :=
  ⟨by simp [setSales], fun o other => PerPort.get_set_of_ne _ _ other, rfl, setSales_changesOnly p x s⟩

/-- Settles O25: an accepted QUOTE is `setSales` of the new record; a refused one is `quote_of_error` at the check
that fails. -/
theorem quoteFillsSlot : Obligations.QuoteFillsSlot := by
  unfold Obligations.QuoteFillsSlot
  intro p f s h
  refine ⟨fun r x opened request fare onSale card stock => ?_, fun closed => ?_, fun opened bad => ?_,
    fun r opened request => ⟨fun fare => ?_, fun fare => ?_, fun x fare => ⟨fun off => ?_, fun onSale =>
      ⟨fun card => ?_, fun card empty => ?_⟩⟩⟩⟩
  · intro y q
    have checks : s.quoteChecks (.fields f) = .ok (r, x) := by
      simp [State.quoteChecks, Sales.isOpen_of_nil opened, request, fare, onSale, card, stock]
    have own : quote p (.fields f) s = (setSales p { y with
        slot := some q, mark := .none, nextQuote := nextQuoteNumber q.number } s,
        { result := .ok, body := quoteBytes q, notApplied := x.notApplied }) := by
      rw [quote, checks]
      rfl
    refine ⟨_, ?_, length_quoteBytes q, setSales_spec p _ s⟩
    rw [exec_quote_of_admits h, own]
    rfl
  · exact quote_of_error h (quoteChecks_of_closed closed)
  · exact quote_of_error h (quoteChecks_of_bad opened bad)
  · exact quote_of_error h (a := .refuse .noFare) (by simp [State.quoteChecks, Sales.isOpen_of_nil opened, request, fare])
  · exact quote_of_error h (a := .refuse .noSuch) (by simp [State.quoteChecks, Sales.isOpen_of_nil opened, request, fare])
  · exact quote_of_error h (a := .refuse .notOnSale) (by simp [State.quoteChecks, Sales.isOpen_of_nil opened, request, fare, off])
  · exact quote_of_error h (a := .refuse .cardRevoked)
      (by simp [State.quoteChecks, Sales.isOpen_of_nil opened, request, fare, onSale, card])
  · exact quote_of_error h (a := .refuse .stockEmpty)
      (by simp [State.quoteChecks, Sales.isOpen_of_nil opened, request, fare, onSale, card, empty])

/-! ## The checks of ISSUE (R80 to R82) -/

theorem issueTail_of_ok {r : FareRequest} (card : s.cardRevoked r = false) (stock : s.sales.remaining ≠ 0)
    (room : 2 ≤ s.journal.free) : s.issueTail r = .ok () := by
  simp [State.issueTail, card, stock, Nat.not_lt.mpr room]

/-- With sales OPEN and the target on sale, card, stock and journal decide the ISSUE of a HELD quote (R81). -/
theorem heldChecks_of_onSale {q : Quote} (opened : s.sales.reasons = []) (onSale : s.targetOnSale q.request = true) :
    s.heldChecks q = (s.issueTail q.request).map fun _ => q.fare := by
  simp only [State.heldChecks, Sales.isOpen_of_nil opened, onSale, if_true]
  cases s.issueTail q.request <;> rfl

theorem heldChecks_of_closed {q : Quote} (closed : s.sales.reasons ≠ []) :
    s.heldChecks q = .error (closedAnswer s) := by
  simp [State.heldChecks, Sales.isOpen_of_ne closed]

theorem requoteChecks_of_closed {q : Quote} (closed : s.sales.reasons ≠ []) :
    s.requoteChecks q = .error (closedAnswer s) := by
  simp [State.requoteChecks, Sales.isOpen_of_ne closed]

/-- With sales OPEN, the target on sale and the fare as it was, card, stock and journal decide a requote (R82). -/
theorem requoteChecks_of_equal {q : Quote} {x : Fare} (opened : s.sales.reasons = [])
    (fare : s.computeFare q.request = .fare x) (onSale : s.targetOnSale q.request = true)
    (equal : x.total = q.fare.total) : s.requoteChecks q = (s.issueTail q.request).map fun _ => x := by
  simp only [State.requoteChecks, Sales.isOpen_of_nil opened, fare, onSale, if_true, Bool.true_eq_false, if_false,
    equal, ne_eq, not_true_eq_false]
  cases s.issueTail q.request <;> rfl

/-! ## A refused ISSUE (R80) -/

/-- What O27 says of a refusal that empties the slot. -/
def IssueRefused (p : Port) (f : IssueBody) (s : State) (a : Answer) : Prop :=
  ∃ u, exec (.issue p (.fields f)) s = .next (settle (answered p ReqCode.issue.byte 1 a u)) ∧
    u.sales.ports.get p = { s.sales.ports.get p with slot := none, mark := .none } ∧
    (∀ o, o ≠ p → u.sales.ports.get o = s.sales.ports.get o) ∧
    u.sales = { s.sales with ports := u.sales.ports } ∧
    u.counter .refusedIssues = s.counterPlus .refusedIssues 1 ∧
    u.counter .cardRevoked =
      (if a.result = .cardRevoked then s.counterPlus .cardRevoked 1 else s.counter .cardRevoked) ∧
    countsOnly [.refusedIssues, .cardRevoked] s u ∧ changesOnly [.sales, .counters] s u

theorem issueRefused_of_refuseIssue {f : IssueBody} {a : Answer} (h : s.admits p .issue)
    (own : issue p f s = refuseIssue p a s) : IssueRefused p f s a := by
  obtain ⟨refused, revoked, only, -⟩ := countRevoked_spec (c := .refusedIssues) (by simp) a s
  refine ⟨(refuseIssue p a s).1, ?_, ?_, fun o other => ?_, ?_, ?_⟩
  · rw [exec_issue_of_admits h, own]
    rfl
  · simp [refuseIssue, setSales, PortSales.cleared]
  · simp [refuseIssue, setSales, PerPort.get_set_of_ne _ _ other]
  · simp [refuseIssue, setSales]
  · exact ⟨refused, revoked, only, refuseIssue_changesOnly p a s⟩

/-- A refused check of a HELD quote refuses its ISSUE (R80, R81). -/
theorem issueRefused_of_held {f : IssueBody} {a : Answer} {q : Quote} (h : s.admits p .issue) (pos : f.number.toNat ≠ 0)
    (slot : (s.sales.ports.get p).slot = some q) (number : q.number = f.number.toNat)
    (checks : s.heldChecks q = .error a) : IssueRefused p f s a :=
  issueRefused_of_refuseIssue h (by simp [issue, pos, PortSales.issueCase, slot, number, checks])

/-- A refused check of an EXPIRED quote refuses its requote (R80, R82). -/
theorem issueRefused_of_expired {f : IssueBody} {a : Answer} {q : Quote} (h : s.admits p .issue)
    (pos : f.number.toNat ≠ 0) (slot : (s.sales.ports.get p).slot = none)
    (mark : (s.sales.ports.get p).mark = .expired q) (number : q.number = f.number.toNat)
    (checks : s.requoteChecks q = .error a) : IssueRefused p f s a :=
  issueRefused_of_refuseIssue h (by simp [issue, pos, PortSales.issueCase, slot, mark, number, checks])

/-- A number that meets neither the slot nor the mark (R80). -/
theorem issueCase_of_unmet {x : PortSales} {n : Nat} (slot : ∀ q, x.slot = some q → q.number ≠ n)
    (expired : x.slot = none → ∀ q, x.mark = .expired q → q.number ≠ n)
    (invalid : x.slot = none → x.mark ≠ .invalidated n) : x.issueCase n = .noQuote := by
  unfold PortSales.issueCase
  cases held : x.slot with
  | some q => exact if_neg (slot q held)
  | none =>
    cases mark : x.mark with
    | none => rfl
    | expired q => exact if_neg (expired held q mark)
    | invalidated m => exact if_neg fun e => invalid held (mark.trans (congrArg QuoteMark.invalidated e))

/-- Settles O27: number 0 apart, each refusal is `refuseIssue` with the answer of the first check that fails. -/
theorem refusedIssueEmptiesSlot : Obligations.RefusedIssueEmptiesSlot := by
  unfold Obligations.RefusedIssueEmptiesSlot
  intro p f s h y
  refine ⟨fun zero => ?_, fun pos => ?_⟩
  · have own : issue p f s = (count .refusedIssues s, .refuse .badRequest) := if_pos zero
    refine ⟨count .refusedIssues s, ?_, counter_countBy_self _ _ s, fun c out => ?_, count_changesOnly _ s⟩
    · rw [exec_issue_of_admits h, own]
    · exact counter_countBy_of_ne _ s (by simpa using out)
  · intro refused closed lastChecks
    have refusal (a : Answer) (x : IssueRefused p f s a) (plain : a = { result := a.result, body := a.body }) :
        refused a.result a.body := by
      unfold IssueRefused at x
      rw [plain] at x
      exact x
    refine ⟨fun slot expired invalid => ?_, fun slot mark => ?_, fun q slot number => ?_,
      fun q slot mark number => ?_⟩
    · refine refusal (.refuse .noQuote) (issueRefused_of_refuseIssue h ?_) rfl
      have meets : y.issueCase f.number.toNat = .noQuote := issueCase_of_unmet slot expired invalid
      rw [issue, if_neg pos, meets]
    · refine refusal (.refuse .serviceGone) (issueRefused_of_refuseIssue h ?_) rfl
      have meets : y.issueCase f.number.toNat = .invalidated := by simp [PortSales.issueCase, slot, mark]
      rw [issue, if_neg pos, meets]
    · have checked (a : Answer) (checks : s.heldChecks q = .error a) : IssueRefused p f s a :=
        issueRefused_of_held h pos slot number checks
      refine ⟨fun shut => refusal (closedAnswer s) (checked _ (heldChecks_of_closed shut)) rfl, fun opened =>
        ⟨fun off => ?_, fun onSale => ⟨fun card => ?_, fun card => ⟨fun empty => ?_, fun stock full => ?_⟩⟩⟩⟩
      · refine refusal (.refuse .serviceGone) (checked _ ?_) rfl
        simp [State.heldChecks, Sales.isOpen_of_nil opened, off]
      · refine refusal (.refuse .cardRevoked) (checked _ ?_) rfl
        simp [heldChecks_of_onSale opened onSale, State.issueTail, card, Except.map]
      · refine refusal (.refuse .stockEmpty) (checked _ ?_) rfl
        simp [heldChecks_of_onSale opened onSale, State.issueTail, card, empty, Except.map]
      · refine refusal (.refuse .journalFull) (checked _ ?_) rfl
        simp [heldChecks_of_onSale opened onSale, State.issueTail, card, stock, full, Except.map]
    · have checked (a : Answer) (checks : s.requoteChecks q = .error a) : IssueRefused p f s a :=
        issueRefused_of_expired h pos slot mark number checks
      refine ⟨fun shut => refusal (closedAnswer s) (checked _ (requoteChecks_of_closed shut)) rfl, fun opened =>
        ⟨fun fare => ?_, fun fare => ?_, fun x fare => ⟨fun off => ?_, fun onSale => ⟨fun changed => ?_, fun equal =>
          ⟨fun card => ?_, fun card => ⟨fun empty => ?_, fun stock full => ?_⟩⟩⟩⟩⟩⟩
      · refine refusal (.refuse .serviceGone) (checked _ ?_) rfl
        simp [State.requoteChecks, Sales.isOpen_of_nil opened, fare]
      · refine refusal (.refuse .fareChanged) (checked _ ?_) rfl
        simp [State.requoteChecks, Sales.isOpen_of_nil opened, fare]
      · refine refusal (.refuse .serviceGone) (checked _ ?_) rfl
        simp [State.requoteChecks, Sales.isOpen_of_nil opened, fare, off]
      · refine refusal (.refuse .fareChanged) (checked _ ?_) rfl
        simp [State.requoteChecks, Sales.isOpen_of_nil opened, fare, onSale, changed]
      · refine refusal (.refuse .cardRevoked) (checked _ ?_) rfl
        simp [requoteChecks_of_equal opened fare onSale equal, State.issueTail, card, Except.map]
      · refine refusal (.refuse .stockEmpty) (checked _ ?_) rfl
        simp [requoteChecks_of_equal opened fare onSale equal, State.issueTail, card, empty, Except.map]
      · refine refusal (.refuse .journalFull) (checked _ ?_) rfl
        simp [requoteChecks_of_equal opened fare onSale equal, State.issueTail, card, stock, full, Except.map]

/-! ## The timers (R73, R77, R86) -/

/-- Settles O33. -/
theorem salesTimersExpire : Obligations.SalesTimersExpire := by
  unfold Obligations.SalesTimersExpire
  intro s up
  refine ⟨fun p q slot ended => ?_, fun p l sale ended => ?_, fun ended => ?_⟩
  · have own : quoteExpired p s = setSales p { s.sales.ports.get p with slot := none, mark := .expired q } s := by
      simp [quoteExpired, slot, ended]
    refine ⟨_, ?_, setSales_spec p _ s⟩
    rw [exec_event (i := .quoteExpiry p) rfl up, own]
    rfl
  · have own : voidWindowExpired p s = setSales p { s.sales.ports.get p with lastSale := none } s := by
      simp [voidWindowExpired, sale, ended]
    refine ⟨_, ?_, setSales_spec p _ s⟩
    rw [exec_event (i := .voidWindowExpiry p) rfl up, own]
    rfl
  · have own : silenceExpired s = { s with sales := { s.sales with silence := none, silent := true } } :=
      if_pos ended
    rw [exec_event (i := .terminalSilenceExpiry) rfl up, own]
    rfl

/-! ## VOID (R87) -/

/-- With 2 entries free before it, an append puts JOURNAL_FULL in exactly where fewer are left (R71). -/
theorem journalFull_append_of_free (k : EntryKind) (before : 2 ≤ s.journal.free) :
    .journalFull ∈ (append k s).sales.reasons ↔
      .journalFull ∈ s.sales.reasons ∨ (append k s).journal.free < 2 := by
  rw [(fillsJournal_append k s).2]
  simp [before]

/-- A sale voided (R87): its entry, its count, and the port's last sale cleared. -/
def saleVoided (p : Port) (serial : Nat) (s : State) : State :=
  setSales p { s.sales.ports.get p with lastSale := none } (count .voided (append (.void serial p) s))

theorem voidSale_of_free {f : VoidBody} {l : LastSale} (sale : (s.sales.ports.get p).lastSale = some l)
    (serial : l.serial = f.serial.toNat) (free : 1 ≤ s.journal.free) :
    voidSale p f s = (saleVoided p l.serial s, .done) := by
  have room : ¬ s.journal.free < 1 := by omega
  simp only [voidSale, sale, serial, saleVoided]
  simp [room]

theorem counter_saleVoided (p : Port) (serial : Nat) (room : 1 ≤ s.journal.free) :
    (saleVoided p serial s).counter .voided = s.counterPlus .voided 1 ∧
      countsOnly [.voided] s (saleVoided p serial s) := by
  have counters : (append (.void serial p) s).counters = s.counters := append_counters_of_room room
  exact ⟨(counter_countBy_self _ _ _).trans (counterPlus_of_counters counters _ _), fun c out =>
    (counter_countBy_of_ne _ _ (by simpa using out)).trans (counter_of_counters counters c)⟩

theorem saleVoided_sales (p : Port) (serial : Nat) (s : State) :
    (saleVoided p serial s).sales.ports.get p = { s.sales.ports.get p with lastSale := none } ∧
      (∀ o, o ≠ p → (saleVoided p serial s).sales.ports.get o = s.sales.ports.get o) ∧
      (saleVoided p serial s).sales = { s.sales with
        reasons := (saleVoided p serial s).sales.reasons, ports := (saleVoided p serial s).sales.ports } := by
  have sales := salesKeptButReasons_append (.void serial p) s
  have ports := congrArg Sales.ports sales
  refine ⟨PerPort.get_set_self _ _ _, fun o other => ?_, ?_⟩
  · exact (PerPort.get_set_of_ne _ _ other).trans (congrArg (PerPort.get · o) ports)
  · exact congrArg (fun x : Sales => { x with ports := (saleVoided p serial s).sales.ports }) sales

/-- Settles O28: an append of one VOID entry, one count, and the port's record. -/
theorem voidCancelsLastSale : Obligations.VoidCancelsLastSale := by
  unfold Obligations.VoidCancelsLastSale
  intro p f s h
  refine ⟨fun l sale serial => ⟨fun free => ?_, fun full => ?_⟩, fun unmet => ?_⟩
  · have own := voidSale_of_free sale serial free
    obtain ⟨voided, only⟩ := counter_saleVoided p l.serial free
    obtain ⟨record, others, rest⟩ := saleVoided_sales p l.serial s
    have changes := voidSale_changesOnly p f s
    rw [own] at changes
    refine ⟨saleVoided p l.serial s, ?_, append_entries_of_room free, voided, only, record, others, rest,
      fun before => journalFull_append_of_free _ before, portsKeptButNotices_append _ s, changes⟩
    rw [exec_void_of_admits h, own]
  · have own : voidSale p f s = (s, .refuse .journalFull) := by simp [voidSale, sale, serial, full]
    rw [exec_void_of_admits h, own]
  · have own : voidSale p f s = (s, .refuse .notVoidable) := by
      unfold voidSale
      split
      · rfl
      · exact if_pos (unmet _ ‹_›)
    rw [exec_void_of_admits h, own]

end Sys2Proof.Machine
end

section
/-! PROOFS. ISSUE with every check passed (O26), the serial stock (O30), the revocation list (O31) and suspension
(O32). -/

namespace Sys2Proof.Machine

variable {s : State} {p : Port}

/-! ## The stock tests (R83, R92) -/

theorem stockEmptyTest_spec (s : State) :
    salesKeptButReasons s (stockEmptyTest s) ∧
      (∀ r, r ∈ (stockEmptyTest s).sales.reasons ↔
        r ∈ s.sales.reasons ∨ r = .stockEmpty ∧ s.sales.remaining = 0) ∧
      portsKeptButNotices s (stockEmptyTest s) := by
  unfold stockEmptyTest
  split
  next empty =>
    exact ⟨by simp [salesKeptButReasons], fun r => by simp [empty, or_comm], portsKeptButNotices_addReason _ s⟩
  next stocked => exact ⟨rfl, fun r => by simp [stocked], portsKeptButNotices_refl s⟩

theorem stockLowTest_spec (s : State) :
    (stockLowTest s).sales =
        { s.sales with lowMark := s.sales.lowMark || decide (s.sales.remaining < 200) } ∧
      (s.sales.remaining < 200 → s.sales.lowMark = false →
        (stockLowTest s).hasNotice .link .stockLow ∧ (stockLowTest s).hasNotice .service .stockLow) ∧
      portsKeptButNotices s (stockLowTest s) := by
  unfold stockLowTest
  split
  next low =>
    obtain ⟨few, unmarked⟩ := low
    refine ⟨?_, fun _ _ => ⟨hasNotice_post.mpr (.inr ⟨by decide, rfl⟩), hasNotice_post.mpr (.inr ⟨by decide, rfl⟩)⟩,
      portsKeptButNotices_post _ { s with sales := { s.sales with lowMark := true } }⟩
    simp [few]
  next notLow =>
    refine ⟨?_, fun few unmarked => absurd ⟨few, unmarked⟩ notLow, portsKeptButNotices_refl s⟩
    have marked : (s.sales.lowMark || decide (s.sales.remaining < 200)) = s.sales.lowMark := by
      cases mark : s.sales.lowMark <;> simp_all
    rw [marked]

/-- What the stock tests do with the sales controller and the notices. -/
theorem stockTests_spec (s : State) :
    (stockTests s).sales = { s.sales with
        reasons := (stockTests s).sales.reasons
        lowMark := s.sales.lowMark || decide (s.sales.remaining < 200) } ∧
      (∀ r, r ∈ (stockTests s).sales.reasons ↔
        r ∈ s.sales.reasons ∨ r = .stockEmpty ∧ s.sales.remaining = 0) ∧
      (s.sales.remaining < 200 → s.sales.lowMark = false →
        (stockTests s).hasNotice .link .stockLow ∧ (stockTests s).hasNotice .service .stockLow) ∧
      portsKeptButNotices s (stockTests s) := by
  obtain ⟨kept, reasons, ports⟩ := stockEmptyTest_spec s
  obtain ⟨marked, posted, ports'⟩ := stockLowTest_spec (stockEmptyTest s)
  unfold salesKeptButReasons at kept
  have stock : (stockEmptyTest s).sales.remaining = s.sales.remaining := by rw [kept]; rfl
  have mark : (stockEmptyTest s).sales.lowMark = s.sales.lowMark := by rw [kept]
  rw [stock, mark] at marked posted
  rw [stockTests_eq]
  refine ⟨?_, fun r => ?_, posted, ports.trans ports'⟩
  · rw [marked, kept]
  · rw [marked]
    exact reasons r

/-! ## The counters of an issue (R83, R180) -/

/-- The counter of an issued ticket. -/
def issuedCounter (t : TicketType) : Counter := if t = .single then .issuedSingle else .issuedReturn

/-- The counter of its revenue. -/
def revenueCounter (b : Band) : Counter := if b = .peak then .revenuePeak else .revenueOffPeak

/-- The counts of an issue (R83, step 3). -/
def issueCounted (t : TicketType) (b : Band) (total : Nat) (requoted : Bool) (s : State) : State :=
  if requoted then count .requotedIssues (countIssue t b total s) else countIssue t b total s

theorem countIssue_eq (t : TicketType) (b : Band) (total : Nat) (s : State) :
    countIssue t b total s = countBy (revenueCounter b) total (count (issuedCounter t) s) := by
  cases t <;> cases b <;> rfl

theorem issuedCounter_ne_revenueCounter (t : TicketType) (b : Band) : issuedCounter t ≠ revenueCounter b := by
  cases t <;> cases b <;> decide

theorem ne_requotedIssues (t : TicketType) (b : Band) :
    issuedCounter t ≠ .requotedIssues ∧ revenueCounter b ≠ .requotedIssues := by
  cases t <;> cases b <;> decide

theorem countIssue_spec (t : TicketType) (b : Band) (total : Nat) (s : State) :
    (countIssue t b total s).counter (issuedCounter t) = s.counterPlus (issuedCounter t) 1 ∧
      (countIssue t b total s).counter (revenueCounter b) = s.counterPlus (revenueCounter b) total ∧
      countsOnly [issuedCounter t, revenueCounter b] s (countIssue t b total s) := by
  have apart := issuedCounter_ne_revenueCounter t b
  have revenue : (count (issuedCounter t) s).counter (revenueCounter b) = s.counter (revenueCounter b) :=
    counter_countBy_of_ne _ s apart.symm
  rw [countIssue_eq]
  refine ⟨(counter_countBy_of_ne _ _ apart).trans (counter_countBy_self _ _ s),
    (counter_countBy_self _ _ _).trans (congrArg (fun n => min (n + total) counterMax) revenue), fun c out => ?_⟩
  obtain ⟨notIssued, notRevenue⟩ : c ≠ issuedCounter t ∧ c ≠ revenueCounter b := by simpa using out
  exact (counter_countBy_of_ne _ _ notRevenue).trans (counter_countBy_of_ne _ s notIssued)

theorem issueCounted_spec (t : TicketType) (b : Band) (total : Nat) (requoted : Bool) (s : State) :
    (issueCounted t b total requoted s).counter (issuedCounter t) = s.counterPlus (issuedCounter t) 1 ∧
      (issueCounted t b total requoted s).counter (revenueCounter b) = s.counterPlus (revenueCounter b) total ∧
      (requoted = true →
        (issueCounted t b total requoted s).counter .requotedIssues = s.counterPlus .requotedIssues 1) ∧
      countsOnly (if requoted then [issuedCounter t, revenueCounter b, .requotedIssues]
        else [issuedCounter t, revenueCounter b]) s (issueCounted t b total requoted s) := by
  obtain ⟨issued, revenue, only⟩ := countIssue_spec t b total s
  obtain ⟨apart, apart'⟩ := ne_requotedIssues t b
  cases requoted with
  | false => exact ⟨issued, revenue, fun h => absurd h Bool.false_ne_true, only⟩
  | true =>
    have requotes : (countIssue t b total s).counter .requotedIssues = s.counter .requotedIssues :=
      only _ (by simpa using ⟨apart.symm, apart'.symm⟩)
    refine ⟨(counter_countBy_of_ne _ _ apart).trans issued, (counter_countBy_of_ne _ _ apart').trans revenue,
      fun _ => (counter_countBy_self _ _ _).trans (congrArg (fun n => min (n + 1) counterMax) requotes),
      fun c out => ?_⟩
    obtain ⟨notIssued, notRevenue, notRequoted⟩ :
      c ≠ issuedCounter t ∧ c ≠ revenueCounter b ∧ c ≠ .requotedIssues := by simpa using out
    exact (counter_countBy_of_ne _ _ notRequoted).trans (only c (by simpa using ⟨notIssued, notRevenue⟩))

@[simp] theorem issueCounted_sales (t : TicketType) (b : Band) (n : Nat) (requoted : Bool) (s : State) :
    (issueCounted t b n requoted s).sales = s.sales := by cases requoted <;> simp [issueCounted]

@[simp] theorem issueCounted_journal (t : TicketType) (b : Band) (n : Nat) (requoted : Bool) (s : State) :
    (issueCounted t b n requoted s).journal = s.journal := by cases requoted <;> simp [issueCounted]

@[simp] theorem issueCounted_ports (t : TicketType) (b : Band) (n : Nat) (requoted : Bool) (s : State) :
    (issueCounted t b n requoted s).ports = s.ports := by cases requoted <;> simp [issueCounted]

/-! ## The steps of an issue (R83) -/

/-- The serial drawn (R83, step 1). -/
def serialDrawn (s : State) : State := { s with sales := { s.sales with blocks := takeSerial s.sales.blocks } }

/-- An issue up to its stock tests: the serial drawn, the entry, the counts and the port's record. -/
def ticketSold (p : Port) (serial : Nat) (r : FareRequest) (x : Fare) (requoted : Bool) (s : State) : State :=
  setSales p { s.sales.ports.get p with
      slot := none, mark := .none, lastSale := some { serial := serial, window := 300 } }
    (issueCounted r.ticket x.band x.total requoted (append (.sale serial p r x.band x.total) (serialDrawn s)))

theorem append_sales_serialDrawn (k : EntryKind) (s : State) :
    (append k (serialDrawn s)).sales = { s.sales with
      blocks := takeSerial s.sales.blocks, reasons := (append k (serialDrawn s)).sales.reasons } :=
  salesKeptButReasons_append k (serialDrawn s)

theorem issueTicket_eq (p : Port) (r : FareRequest) (x : Fare) (requoted : Bool) (s : State) :
    issueTicket p r x requoted s = (stockTests (ticketSold p (nextSerial s.sales.blocks) r x requoted s),
      { result := .ok
        body := ticketBytes (s.ticket (nextSerial s.sales.blocks) r x)
        requoted := requoted, notApplied := x.notApplied }) := by
  have ports := congrArg Sales.ports
    (append_sales_serialDrawn (.sale (nextSerial s.sales.blocks) p r x.band x.total) s)
  have record : (issueCounted r.ticket x.band x.total requoted (append
      (.sale (nextSerial s.sales.blocks) p r x.band x.total) (serialDrawn s))).sales.ports.get p =
      s.sales.ports.get p := by rw [issueCounted_sales, ports]
  rw [ticketSold, ← record]
  rfl

section Sold

variable (serial : Nat) (r : FareRequest) (x : Fare) (requoted : Bool)

/-- What an issue leaves in the sales controller before the stock tests, with the SALE entry's room assured. -/
theorem ticketSold_sales (p : Port) (s : State) :
    (ticketSold p serial r x requoted s).sales.blocks = takeSerial s.sales.blocks ∧
      (ticketSold p serial r x requoted s).sales.horizon = s.sales.horizon ∧
      (ticketSold p serial r x requoted s).sales.lowMark = s.sales.lowMark ∧
      (ticketSold p serial r x requoted s).sales.ports.get p = { s.sales.ports.get p with
        slot := none, mark := .none, lastSale := some { serial := serial, window := 300 } } ∧
      ∀ o, o ≠ p → (ticketSold p serial r x requoted s).sales.ports.get o = s.sales.ports.get o := by
  have kept := append_sales_serialDrawn (.sale serial p r x.band x.total) s
  refine ⟨?_, ?_, ?_, PerPort.get_set_self _ _ _, fun o other => (PerPort.get_set_of_ne _ _ other).trans ?_⟩ <;>
    simp only [ticketSold, setSales_sales, issueCounted_sales] <;> rw [kept]

/-- Its reasons: JOURNAL_FULL where fewer than 2 entries are left free, and no other joins. -/
theorem ticketSold_reasons (opened : s.sales.reasons = []) (room : 2 ≤ s.journal.free) (p : Port) (q : Reason) :
    q ∈ (ticketSold p serial r x requoted s).sales.reasons ↔
      q = .journalFull ∧ (ticketSold p serial r x requoted s).journal.free < 2 := by
  simp only [ticketSold, setSales_sales, setSales_journal, issueCounted_sales, issueCounted_journal]
  by_cases full : q = .journalFull
  · subst full
    rw [journalFull_append_of_free (s := serialDrawn s) _ room]
    simp [serialDrawn, opened]
  · rw [mem_reasons_append full]
    simp [serialDrawn, opened, full]

theorem ticketSold_entries (room : 2 ≤ s.journal.free) (p : Port) :
    (ticketSold p serial r x requoted s).journal.entries =
      s.journal.entries ++ [newEntry (.sale serial p r x.band x.total) s] := by
  simp only [ticketSold, setSales_journal, issueCounted_journal]
  exact append_entries_of_room (s := serialDrawn s) room

theorem portsKeptButNotices_ticketSold (p : Port) (s : State) :
    portsKeptButNotices s (ticketSold p serial r x requoted s) :=
  (portsKeptButNotices_append (.sale serial p r x.band x.total) (serialDrawn s)).trans
    (portsKeptButNotices_of_eq (by simp [ticketSold]))

end Sold

/-- A serial taken lowers the stock by one (R91). -/
theorem remaining_takeSerial {x y : Sales} {b : StockBlock} {rest : List StockBlock} (ok : x.stockOk)
    (blocks : x.blocks = b :: rest) (taken : y.blocks = takeSerial x.blocks) : y.remaining + 1 = x.remaining := by
  obtain ⟨-, -, next, -⟩ := ok.left b (by simp [blocks])
  simp only [Sales.remaining, taken, blocks, takeSerial]
  split <;> simp only [List.map_cons, List.sum_cons, StockBlock.left] <;> omega

/-- The ticket's day and validity (R84). -/
theorem ticket_basis (serial : Nat) (r : FareRequest) (x : Fare) (s : State) :
    (r.target = none →
      (s.ticket serial r x).day = s.clock.day ∧ (s.ticket serial r x).validity = s.clock.second / 60) ∧
    ∀ t tab c, r.target = some t → s.store.table t.table = some tab → s.store.call t = some c →
      (s.ticket serial r x).day = tab.day ∧ (s.ticket serial r x).validity = c.scheduled := by
  refine ⟨fun none_ => ?_, fun t tab c target table call => ?_⟩
  · simp [State.ticket, none_, Clock.minute]
  · simp [State.ticket, target, table, call]

/-- With every check passed, an ISSUE of a HELD quote or a requote is `issueTicket`. -/
theorem issue_of_checks {f : IssueBody} {q : Quote} {x : Fare} {requoted : Bool} (number : f.number.toNat = q.number)
    (pos : q.number ≠ 0) (opened : s.sales.reasons = []) (onSale : s.targetOnSale q.request = true)
    (card : s.cardRevoked q.request = false) (stock : s.sales.remaining ≠ 0) (room : 2 ≤ s.journal.free)
    (met : (s.sales.ports.get p).slot = some q ∧ x = q.fare ∧ requoted = false ∨
      (s.sales.ports.get p).slot = none ∧ (s.sales.ports.get p).mark = .expired q ∧
        s.computeFare q.request = .fare x ∧ x.total = q.fare.total ∧ requoted = true) :
    issue p f s = issueTicket p q.request x requoted s := by
  have ok := issueTail_of_ok card stock room
  rw [issue, if_neg (number ▸ pos), number]
  rcases met with ⟨slot, rfl, rfl⟩ | ⟨slot, mark, fare, equal, rfl⟩
  · have meets : (s.sales.ports.get p).issueCase q.number = .held q := by simp [PortSales.issueCase, slot]
    have checks : s.heldChecks q = .ok q.fare := by rw [heldChecks_of_onSale opened onSale, ok]; rfl
    rw [meets]
    dsimp only
    rw [checks]
  · have meets : (s.sales.ports.get p).issueCase q.number = .requote q := by simp [PortSales.issueCase, slot, mark]
    have checks : s.requoteChecks q = .ok x := by rw [requoteChecks_of_equal opened fare onSale equal, ok]; rfl
    rw [meets]
    dsimp only
    rw [checks]

/-- Settles O26: the steps of R83 by `ticketSold` and `stockTests`. -/
theorem issueDrawsNextSerial : Obligations.IssueDrawsNextSerial := by
  unfold Obligations.IssueDrawsNextSerial
  intro p f q x requoted b rest s h number pos blocks opened onSale card stock room met serial
  have own := issue_of_checks number pos opened onSale card stock room met
  have drawn : nextSerial s.sales.blocks = serial := by rw [blocks]; rfl
  rw [issueTicket_eq, drawn] at own
  obtain ⟨sold, sold_def⟩ : ∃ sold, sold = ticketSold p serial q.request x requoted s := ⟨_, rfl⟩
  rw [← sold_def] at own
  obtain ⟨taken, horizon, lowMark, record, others⟩ := ticketSold_sales serial q.request x requoted p s
  rw [← sold_def] at taken horizon lowMark record others
  have reasons := ticketSold_reasons serial q.request x requoted opened room p
  have soldPorts := portsKeptButNotices_ticketSold serial q.request x requoted p s
  rw [← sold_def] at reasons soldPorts
  obtain ⟨kept, joined, posted, ports⟩ := stockTests_spec sold
  obtain ⟨issued, revenue, requotes, only⟩ := issueCounted_spec q.request.ticket x.band x.total requoted
    (append (.sale serial p q.request x.band x.total) (serialDrawn s))
  have counters : (append (.sale serial p q.request x.band x.total) (serialDrawn s)).counters = s.counters :=
    append_counters_of_room (s := serialDrawn s) room
  have journal : (stockTests sold).journal = sold.journal := by simp
  have left : (stockTests sold).sales.remaining = sold.sales.remaining := by rw [kept]; rfl
  obtain ⟨noTarget, target⟩ := ticket_basis serial q.request x s
  have counted (c : Counter) : (stockTests sold).counter c = (issueCounted q.request.ticket x.band x.total requoted
      (append (.sale serial p q.request x.band x.total) (serialDrawn s))).counter c :=
    counter_of_counters (by simp [sold_def, ticketSold]) c
  refine ⟨stockTests sold, (s.ticket serial q.request x).day, (s.ticket serial q.request x).validity, ?_, noTarget, target,
    ?_, ?_, ?_, ⟨?_, ?_, fun again => ?_, fun c out => ?_⟩, ?_, fun o other => ?_, ?_, ?_, ?_, fun few unmarked => ?_,
    fun ok => ?_, ?_, ?_⟩
  · rw [exec_issue_of_admits h, own]
    rfl
  · rw [kept, taken, blocks]
    rfl
  · rw [kept, horizon]
  · rw [journal, sold_def]
    exact ticketSold_entries serial q.request x requoted room p
  · exact (counted _).trans (issued.trans (counterPlus_of_counters counters _ _))
  · exact (counted _).trans (revenue.trans (counterPlus_of_counters counters _ _))
  · exact (counted _).trans ((requotes again).trans (counterPlus_of_counters counters _ _))
  · exact (counted c).trans ((only c out).trans (counter_of_counters counters c))
  · rw [kept, record]
  · rw [kept, others o other]
  · rw [joined, reasons, left]
    simp
  · have alone : Reason.journalFull ≠ .stockEmpty := by decide
    rw [joined, reasons, journal]
    simp [alone, sold_def]
  · rw [left, kept]
    exact congrArg (· || _) lowMark
  · exact posted (left ▸ few) (lowMark.trans unmarked)
  · rw [left]
    exact remaining_takeSerial ok blocks taken
  · exact soldPorts.trans ports
  · have changes := issue_changesOnly p f s
    rw [own] at changes
    exact changes

/-! ## STOCK_ADD (R89, R90) -/

/-- The block in the list, before the low mark is looked at. -/
def blockJoined (b : StockBlock) (s : State) : State :=
  removeReason .stockEmpty { s with sales := { s.sales with
    blocks := s.sales.blocks ++ [b], horizon := b.last } }

/-- An accepted block. -/
def stockAdded (b : StockBlock) (s : State) : State :=
  if 200 ≤ (blockJoined b s).sales.remaining then
    { blockJoined b s with sales := { (blockJoined b s).sales with lowMark := false } }
  else blockJoined b s

theorem stockAdd_of_ok {f : StockAddBody} {b : StockBlock} (checks : s.stockChecks f = .ok b) :
    stockAdd f s = (stockAdded b s,
      .okWith (num 4 b.first ++ num 4 b.last ++ num 4 (stockAdded b s).sales.remaining)) := by
  rw [stockAdd, checks]
  rfl

theorem stockAdd_of_error {f : StockAddBody} {r : Result} (checks : s.stockChecks f = .error r) :
    stockAdd f s = (s, .refuse r) := by
  rw [stockAdd, checks]

theorem stockAdded_spec (b : StockBlock) (s : State) :
    (stockAdded b s).sales = { s.sales with
        reasons := setErase .stockEmpty s.sales.reasons
        blocks := s.sales.blocks ++ [b]
        horizon := b.last
        lowMark := s.sales.lowMark && decide (s.sales.remaining + b.left < 200) } ∧
      (stockAdded b s).sales.remaining = s.sales.remaining + b.left ∧
      portsKeptButNotices s (stockAdded b s) := by
  have joined : (blockJoined b s).sales.remaining = s.sales.remaining + b.left := by
    rw [blockJoined, removeReason_sales]
    exact remaining_appended s.sales b b.last
  have ports : portsKeptButNotices s (blockJoined b s) := portsKeptButNotices_removeReason .stockEmpty
    { s with sales := { s.sales with blocks := s.sales.blocks ++ [b], horizon := b.last } }
  unfold stockAdded
  rw [joined]
  split
  next high =>
    refine ⟨?_, joined, ports⟩
    simp [blockJoined, Nat.not_lt.mpr high]
  next low =>
    refine ⟨?_, joined, ports⟩
    simp [blockJoined, Nat.lt_of_not_le low]

/-- Settles O30: the checks of R89 in their order, and `stockAdded`. -/
theorem stockAddAcceptsBlock : Obligations.StockAddAcceptsBlock := by
  unfold Obligations.StockAddAcceptsBlock
  intro p f s h a z refused
  have refuses (r : Result) (checks : s.stockChecks f = .error r) : refused r := by
    show exec _ _ = _
    rw [exec_stockAdd_of_admits h, stockAdd_of_error checks]
  refine ⟨fun bad => refuses _ ?_, fun first first' last last' full => ?_⟩
  · by_cases range : f.first.toNat = 0 ∨ 99999999 < f.first.toNat ∨ f.last.toNat = 0 ∨ 99999999 < f.last.toNat
    · exact if_pos range
    · have empty : z < a := by omega
      exact (if_neg range).trans (if_pos empty)
  · have range : ¬ (f.first.toNat = 0 ∨ 99999999 < f.first.toNat ∨ f.last.toNat = 0 ∨ 99999999 < f.last.toNat) := by
      omega
    have checks : s.stockChecks f = (if a ≤ s.sales.horizon then .error .overlap
        else if 4 ≤ s.sales.blocks.length then .error .stockFull else .ok ⟨a, min z (a + 99999), a⟩) :=
      (if_neg range).trans (if_neg (Nat.not_lt.mpr full))
    refine ⟨fun low => refuses _ (checks.trans (if_pos low)), fun high many => refuses _ ?_, fun high few => ?_⟩
    · exact checks.trans ((if_neg (Nat.not_le.mpr high)).trans (if_pos many))
    · intro b
      have accepted : s.stockChecks f = .ok b :=
        checks.trans ((if_neg (Nat.not_le.mpr high)).trans (if_neg (Nat.not_le.mpr few)))
      have own := stockAdd_of_ok accepted
      obtain ⟨sales, remaining, ports⟩ := stockAdded_spec b s
      have changes := stockAdd_changesOnly f s
      rw [own] at changes
      refine ⟨stockAdded b s, ?_, congrArg Sales.blocks sales, congrArg Sales.horizon sales, remaining, fun r => ?_, ?_,
        by rw [sales], by rw [sales], by rw [sales], ports, changes⟩
      · rw [exec_stockAdd_of_admits h, own]
      · rw [congrArg Sales.reasons sales]
        exact mem_setErase
      · rw [remaining]
        exact congrArg Sales.lowMark sales

/-! ## The revocation list (R95) -/

/-- Settles O31. -/
theorem rvlWritesStoreEntries : Obligations.RvlWritesStoreEntries := by
  unfold Obligations.RvlWritesStoreEntries
  refine ⟨fun p f s h => ?_, fun p s h => ⟨_, exec_rvlClearAll_of_admits h {}, ?_, rvlClearAll_changesOnly {} s⟩⟩
  · intro i stores
    have stored (e : Option RvlEntry) (inside : i ≤ 63)
        (own : rvlWrite f s = ({ s with revoked := s.revoked.setIfInBounds i e }, .okWith (rvlBytes i e))) :
        stores e := by
      obtain ⟨here, others⟩ := getElem?_stored s.revoked e (show i < 64 by omega)
      have changes := rvlWrite_changesOnly f s
      rw [own] at changes
      refine ⟨{ s with revoked := s.revoked.setIfInBounds i e }, ?_, here, others, changes⟩
      rw [exec_rvlWrite_of_admits h, own]
    refine ⟨fun bad => ?_, fun inside flag => stored none inside ?_, fun inside flag => stored _ inside ?_⟩
    · have own : rvlWrite f s = (s, .refuse .badRequest) := by
        rcases bad with outside | unknown
        · exact if_pos outside
        · by_cases outside : 63 < i
          · exact if_pos outside
          · refine (if_neg outside).trans ?_
            rw [unknown]
      rw [exec_rvlWrite_of_admits h, own]
    · refine (if_neg (Nat.not_lt.mpr inside)).trans ?_
      rw [flag]
    · refine (if_neg (Nat.not_lt.mpr inside)).trans ?_
      rw [flag]
  · intro e held
    have all : (rvlClearAll {} s).1.revoked = Vector.replicate 64 none := rfl
    rw [all] at held
    simpa using held

/-! ## SALES_SUSPEND and SALES_RESUME (R72) -/

theorem setInsert_ne_iff {r : Reason} {rs : List Reason} (order : rs.Sublist Reason.all) :
    setInsert Reason.all r rs ≠ rs ↔ r ∉ rs :=
  ⟨fun changed held => changed (setInsert_of_mem order Reason.nodup_all held), fun out same =>
    out (by rw [← same]; simp)⟩

/-- Settles O32. -/
theorem suspendAndResumeSales : Obligations.SuspendAndResumeSales := by
  unfold Obligations.SuspendAndResumeSales
  refine ⟨fun p s other => ⟨fun h => ?_, fun h => ?_⟩, fun s h order => ?_⟩
  · have own : salesSuspend p {} s = (s, .refuse .notPermitted) := by
      cases p with
      | service => exact absurd rfl other
      | _ => rfl
    rw [exec_salesSuspend_of_admits h, own]
  · have own : salesResume p {} s = (s, .refuse .notPermitted) := by
      cases p with
      | service => exact absurd rfl other
      | _ => rfl
    rw [exec_salesResume_of_admits h, own]
  · have resumed : s.admits .service .salesResume := ⟨h.1, h.2⟩
    refine ⟨addReason .suspended s, removeReason .suspended s, exec_salesSuspend_of_admits h {},
      exec_salesResume_of_admits resumed {}, fun r => by simp [or_comm], fun r => by simp, fun held => ?_, fun out => ?_,
      fun out => ⟨hasNotice_changeReasons.mpr (.inr ?_), hasNotice_changeReasons.mpr (.inr ?_)⟩,
      fun held => ⟨hasNotice_removeReason.mpr (.inr ?_), hasNotice_removeReason.mpr (.inr ?_)⟩,
      by simp [salesKeptButReasons], by simp [salesKeptButReasons], portsKeptButNotices_addReason _ s,
      portsKeptButNotices_removeReason _ s, changeReasons_changesOnly _ s, changeReasons_changesOnly _ s⟩
    · exact if_pos (setInsert_of_mem order Reason.nodup_all held)
    · exact if_pos (setErase_of_not_mem out)
    · exact ⟨(setInsert_ne_iff order).mpr out, by decide, rfl⟩
    · exact ⟨(setInsert_ne_iff order).mpr out, by decide, rfl⟩
    · exact ⟨by decide, rfl, held⟩
    · exact ⟨by decide, rfl, held⟩

end Sys2Proof.Machine
end

section
/-! PROOFS. The batches' ends: an acknowledgement (O35), a failure and a timeout (O36). -/

namespace Sys2Proof.Machine

variable {s : State} {p : Port}

/-! ## The link port's readiness (R120, R121) -/

theorem linkReady_congr {s t : State} (journal : t.journal = s.journal) (scheduler : t.scheduler = s.scheduler) :
    t.linkReady = s.linkReady := by
  simp only [State.linkReady, State.takePermitted, journal, scheduler]

@[simp] theorem linkReady_uploadDue (before : State) : (uploadDue before s).linkReady = s.linkReady :=
  linkReady_congr (by simp) (by simp)

theorem linkReady_of_batch {b : Batch} (held : s.journal.batch = some b) : s.linkReady = false := by
  simp [State.linkReady, held]

/-- From a state that is not ready UPLOAD_DUE stands exactly where it stood, and on the link port once ready. -/
theorem hasNotice_uploadDue_of_batch {before : State} {b : Batch} (held : before.journal.batch = some b) {k : Notice} :
    (uploadDue before s).hasNotice p k ↔
      s.hasNotice p k ∨ p = .link ∧ k = .uploadDue ∧ s.linkReady = true := by
  rw [hasNotice_uploadDue, linkReady_of_batch held]
  simp

/-! ## The batch a port holds under an id (R108, R110) -/

theorem heldBatch_of_held {j : Journal} {b : Batch} {id : Nat} (batch : j.batch = some b) (name : b.id = id)
    (holder : b.holder = p) : j.heldBatch p id = some b := by
  simp [Journal.heldBatch, batch, name, holder]

theorem heldBatch_of_stale {j : Journal} {id : Nat} (stale : ∀ b, j.batch = some b → b.id ≠ id ∨ b.holder ≠ p) :
    j.heldBatch p id = none := by
  refine Option.eq_none_iff_forall_ne_some.mpr fun b found => ?_
  obtain ⟨batch, name, holder⟩ := Journal.heldBatch_eq_some found
  exact (stale b batch).elim (· name) (· holder)

/-! ## BATCH_ACK (R108, R117) -/

/-- A batch acknowledged, up to its messages. -/
def batchRemoved (p : Port) (b : Batch) (s : State) : State :=
  ifLink p schedulerSuccess (count .batchesAcked { s with journal := s.journal.acknowledged b })

section Removed

variable (p : Port) (b : Batch) (s : State)

@[simp] theorem batchRemoved_journal : (batchRemoved p b s).journal = s.journal.acknowledged b := by
  cases p <;> rfl

@[simp] theorem batchRemoved_sales : (batchRemoved p b s).sales = s.sales := by cases p <;> rfl

@[simp] theorem batchRemoved_ports : (batchRemoved p b s).ports = s.ports := by cases p <;> rfl

theorem batchRemoved_scheduler : (batchRemoved p b s).scheduler =
    if p = .link then { state := .due, failures := 0, wait := none, dueSecond := none } else s.scheduler := by
  cases p <;> rfl

theorem batchRemoved_counters : (batchRemoved p b s).counters = (count .batchesAcked s).counters := by
  cases p <;> rfl

end Removed

/-- Entries leave the journal at an acknowledgement: the free count does not fall. -/
theorem free_le_acknowledged (j : Journal) (b : Batch) : j.free ≤ (j.acknowledged b).free := by
  simp only [Journal.free, Journal.acknowledged, List.length_drop]
  split <;> omega

theorem batchAck_of_zero {f : BatchIdBody} (zero : f.id.toNat = 0) : batchAck p f s = (s, .refuse .badRequest) :=
  if_pos zero

theorem batchAck_of_stale {f : BatchIdBody} (pos : f.id.toNat ≠ 0) (stale : s.journal.heldBatch p f.id.toNat = none) :
    batchAck p f s = (s, .refuse .staleBatch) := by
  rw [batchAck, if_neg pos, stale]

theorem batchAck_of_held {f : BatchIdBody} {b : Batch} (pos : f.id.toNat ≠ 0)
    (held : s.journal.heldBatch p f.id.toNat = some b) :
    batchAck p f s = (uploadDue s (freeMessage s.journal (batchRemoved p b s)),
      .okWith (ackBytes b (s.journal.entries.drop b.count))) := by
  have entries : (s.journal.entries.drop b.count) = (batchRemoved p b s).journal.entries := by
    rw [batchRemoved_journal]
    rfl
  rw [batchAck, if_neg pos, held, entries]
  rfl

/-- Settles O35: the messages of an acknowledgement by `freeMessage_eq` and `uploadDue_eq`. -/
theorem batchAckRemovesEntries : Obligations.BatchAckRemovesEntries := by
  unfold Obligations.BatchAckRemovesEntries
  intro p f s h
  refine ⟨fun zero => ?_, fun pos => ⟨fun stale => ?_, fun b batch name holder => ?_⟩⟩
  · rw [exec_batchAck_of_admits h, batchAck_of_zero zero]
  · rw [exec_batchAck_of_admits h, batchAck_of_stale pos (heldBatch_of_stale stale)]
  · intro left
    have own := batchAck_of_held pos (heldBatch_of_held batch name holder)
    obtain ⟨told, told_def⟩ : ∃ told, told = freeMessage s.journal (batchRemoved p b s) := ⟨_, rfl⟩
    rw [← told_def] at own
    have message := freeMessage_eq s.journal (batchRemoved p b s)
    rw [← told_def, batchRemoved_journal] at message
    have journal : told.journal = s.journal.acknowledged b := by simp [told_def]
    have counters : (uploadDue s told).counters = (count .batchesAcked s).counters := by
      simp [told_def, batchRemoved_counters]
    have changes := batchAck_changesOnly p f s
    rw [own] at changes
    refine ⟨uploadDue s told, ?_, ?_, ?_, fun c out => ?_, ?_, fun few many r => ?_, fun same => ?_, fun ready => ?_, ?_, ?_,
      changes⟩
    · rw [exec_batchAck_of_admits h, own]
    · rw [uploadDue_journal, journal]
      rfl
    · exact (counter_of_counters counters _).trans (counter_countBy_self _ _ s)
    · exact (counter_of_counters counters c).trans (counter_countBy_of_ne _ s (by simpa using out))
    · rw [uploadDue_scheduler, told_def, freeMessage_scheduler, batchRemoved_scheduler]
    · rw [uploadDue_journal, journal] at many
      rw [uploadDue_sales]
      rcases message with ⟨_, _, -⟩ | ⟨-, -, e⟩ | ⟨_, -⟩
      · omega
      · rw [e]
        simp
      · omega
    · rw [uploadDue_journal, journal] at same
      have grows := free_le_acknowledged s.journal b
      rw [uploadDue_sales]
      rcases message with ⟨_, _, -⟩ | ⟨_, _, -⟩ | ⟨-, e⟩
      · omega
      · omega
      · rw [e, batchRemoved_sales]
    · rw [linkReady_uploadDue] at ready
      exact (hasNotice_uploadDue_of_batch batch).mpr (.inr ⟨rfl, rfl, ready⟩)
    · have kept := freeMessage_sales_eq s.journal (batchRemoved p b s)
      rw [batchRemoved_sales, ← told_def] at kept
      rw [salesKeptButReasons, uploadDue_sales]
      exact kept
    · rw [told_def]
      exact ((portsKeptButNotices_of_eq (batchRemoved_ports p b s)).trans (portsKeptButNotices_freeMessage _ _)).trans
        (portsKeptButNotices_uploadDue _ _)

/-! ## A failed batch (R109, R111, R115) -/

/-- What a failure tells the scheduler, by the batch's holder (R109, R115). -/
def FailureTold (p : Port) (s u : State) : Prop :=
  (p ≠ .link → u.scheduler = s.scheduler ∧ u.draws = s.draws) ∧
  (p = .link →
    let n := min (s.scheduler.failures + 1) 16
    (n = 16 → u.draws = s.draws ∧
      u.scheduler = { state := .held, failures := 16, wait := none, dueSecond := none }) ∧
    (n < 16 → u.draws = s.draws + 1 ∧ ∃ r, r < 2 ^ min n 10 ∧
      (r = 0 → u.scheduler = { state := .due, failures := n, wait := none, dueSecond := none }) ∧
      (1 ≤ r → u.scheduler =
        { state := .waiting, failures := n, wait := some (r * 30)
          dueSecond := some ((s.clock.second + r * 30) % 86400) })))

theorem failureTold_schedulerFailure (s : State) : FailureTold .link s (schedulerFailure s) := by
  refine ⟨fun other => absurd rfl other, fun _ => ⟨fun last => ?_, fun more => ?_⟩⟩
  · have own : schedulerFailure s = { s with scheduler :=
        { state := .held, failures := 16, wait := none, dueSecond := none } } := if_pos last
    rw [own]
    exact ⟨rfl, rfl⟩
  · let n := min (s.scheduler.failures + 1) 16
    have drawn : backoffDraw n s.draws < 2 ^ min n 10 := Nat.mod_lt _ (Nat.two_pow_pos _)
    by_cases due : backoffDraw n s.draws = 0
    · have own : schedulerFailure s = { s with
          scheduler := { state := .due, failures := n, wait := none, dueSecond := none }, draws := s.draws + 1 } :=
        (if_neg (Nat.ne_of_lt more)).trans (if_pos due)
      rw [own]
      exact ⟨rfl, 0, Nat.two_pow_pos _, fun _ => rfl, fun one => absurd one (by omega)⟩
    · have own : schedulerFailure s = { s with
          scheduler := { state := .waiting, failures := n, wait := some (backoffDraw n s.draws * 30)
                         dueSecond := some (s.clock.after (backoffDraw n s.draws * 30)) }
          draws := s.draws + 1 } :=
        (if_neg (Nat.ne_of_lt more)).trans (if_neg due)
      rw [own]
      exact ⟨rfl, backoffDraw n s.draws, drawn, fun zero => absurd zero due, fun _ => rfl⟩

theorem failureTold_failBatch (p : Port) (s : State) : FailureTold p s (failBatch p s) := by
  cases p with
  | link => exact failureTold_schedulerFailure (count .batchesFailed { s with journal := s.journal.returned })
  | terminal => exact ⟨fun _ => ⟨rfl, rfl⟩, fun link => nomatch link⟩
  | service => exact ⟨fun _ => ⟨rfl, rfl⟩, fun link => nomatch link⟩

theorem failBatch_counters (p : Port) (s : State) : (failBatch p s).counters = (count .batchesFailed s).counters := by
  cases p <;> simp [failBatch, ifLink]

/-- What O36 says of a failed batch of a holder, by a report or by the timeout. -/
def BatchFailed (p : Port) (timedOut : Bool) (s u : State) : Prop :=
  u.journal = { s.journal with entries := s.journal.entries.map (Entry.as .unsent), batch := none } ∧
    u.counter .batchesFailed = s.counterPlus .batchesFailed 1 ∧ countsOnly [.batchesFailed] s u ∧
    (p ≠ .link → u.scheduler = s.scheduler ∧ u.draws = s.draws) ∧
    (p = .link →
      let n := min (s.scheduler.failures + 1) 16
      (n = 16 → u.draws = s.draws ∧
        u.scheduler = { state := .held, failures := 16, wait := none, dueSecond := none }) ∧
      (n < 16 → u.draws = s.draws + 1 ∧ ∃ r, r < 2 ^ min n 10 ∧
        (r = 0 → u.scheduler = { state := .due, failures := n, wait := none, dueSecond := none }) ∧
        (1 ≤ r → u.scheduler =
          { state := .waiting, failures := n, wait := some (r * 30)
            dueSecond := some ((s.clock.second + r * 30) % 86400) }))) ∧
    (∀ q k, u.hasNotice q k ↔
      s.hasNotice q k ∨ (q = .link ∧ k = .uploadDue ∧ u.linkReady = true) ∨
        (timedOut = true ∧ q = p ∧ k = .batchTimedOut)) ∧
    portsKeptButNotices s u ∧ changesOnly [.journal, .scheduler, .counters, .ports, .draws] s u

/-- A batch failed, with its notice where it timed out, and UPLOAD_DUE on readiness. -/
theorem batchFailed_of_noticed {b : Batch} (batch : s.journal.batch = some b) {timedOut : Bool} {t : State}
    (noticed : t = failBatch p s ∧ timedOut = false ∨
      t = postTo .batchTimedOut [p] (failBatch p s) ∧ timedOut = true) :
    BatchFailed p timedOut s (uploadDue s t) := by
  have same : t.journal = (failBatch p s).journal ∧ t.counters = (failBatch p s).counters ∧
      t.scheduler = (failBatch p s).scheduler ∧ t.draws = (failBatch p s).draws := by
    rcases noticed with ⟨rfl, -⟩ | ⟨rfl, -⟩ <;> exact ⟨rfl, rfl, rfl, rfl⟩
  obtain ⟨journal, counters, scheduler, draws⟩ := same
  have counted : (uploadDue s t).counters = (count .batchesFailed s).counters := by
    rw [uploadDue_counters, counters, failBatch_counters]
  obtain ⟨elsewhere, link⟩ := failureTold_failBatch p s
  have ports : (failBatch p s).ports = s.ports := by simp
  have posts (q : Port) (k : Notice) : t.hasNotice q k ↔
      s.hasNotice q k ∨ (timedOut = true ∧ q = p ∧ k = .batchTimedOut) := by
    rcases noticed with ⟨rfl, rfl⟩ | ⟨rfl, rfl⟩
    · simp [State.hasNotice]
    · rw [hasNotice_postTo]
      simp [State.hasNotice]
  have kept : portsKeptButNotices s t := by
    rcases noticed with ⟨rfl, -⟩ | ⟨rfl, -⟩
    · exact portsKeptButNotices_of_eq ports
    · exact (portsKeptButNotices_of_eq ports).trans (portsKeptButNotices_postTo _ _ _)
  have changes : changesOnly [.journal, .scheduler, .counters, .ports, .draws] s t := by
    have failed : changesOnly [.journal, .scheduler, .counters, .ports, .draws] s (failBatch p s) :=
      (failBatch_changesOnly p s).mono (by decide)
    rcases noticed with ⟨rfl, -⟩ | ⟨rfl, -⟩
    · exact failed
    · exact failed.trans ((postTo_changesOnly _ _ _).mono (by decide))
  refine ⟨?_, ?_, fun c out => ?_, fun other => ?_, fun isLink => ?_, fun q k => ?_,
    kept.trans (portsKeptButNotices_uploadDue _ _), changes.trans ((uploadDue_changesOnly _ _).mono (by decide))⟩
  · rw [uploadDue_journal, journal, failBatch_journal]
    rfl
  · exact (counter_of_counters counted _).trans (counter_countBy_self _ _ s)
  · exact (counter_of_counters counted c).trans (counter_countBy_of_ne _ s (by simpa using out))
  · rw [uploadDue_scheduler, uploadDue_draws, scheduler, draws]
    exact elsewhere other
  · rw [uploadDue_scheduler, uploadDue_draws, scheduler, draws]
    exact link isLink
  · rw [hasNotice_uploadDue_of_batch batch, posts, linkReady_uploadDue]
    grind

theorem batchFail_of_zero {f : BatchIdBody} (zero : f.id.toNat = 0) : batchFail p f s = (s, .refuse .badRequest) :=
  if_pos zero

theorem batchFail_of_stale {f : BatchIdBody} (pos : f.id.toNat ≠ 0) (stale : s.journal.heldBatch p f.id.toNat = none) :
    batchFail p f s = (s, .refuse .staleBatch) := by
  rw [batchFail, if_neg pos, stale]

theorem batchFail_of_held {f : BatchIdBody} {b : Batch} (pos : f.id.toNat ≠ 0)
    (held : s.journal.heldBatch p f.id.toNat = some b) :
    batchFail p f s = (uploadDue s (failBatch p s), .done) := by
  rw [batchFail, if_neg pos, held]

/-- Settles O36: a report and a timeout both by `batchFailed_of_noticed`. -/
theorem batchFailReturnsEntries : Obligations.BatchFailReturnsEntries := by
  unfold Obligations.BatchFailReturnsEntries
  refine ⟨fun s batch => ⟨fun p f h => ?_, ?_⟩, fun s b batch => ?_⟩
  · by_cases zero : f.id.toNat = 0
    · rw [exec_batchFail_of_admits h, batchFail_of_zero zero, if_pos zero]
    · have stale : s.journal.heldBatch p f.id.toNat = none := by simp [Journal.heldBatch, batch]
      rw [exec_batchFail_of_admits h, batchFail_of_stale zero stale, if_neg zero]
  · have own : batchTimedOut s = s := batchTimedOut_of_running fun b held => nomatch batch.symm.trans held
    cases up : s.core with
    | up => rw [exec_event (i := .batchTimeout) rfl up, own]; rfl
    | down => exact congrArg (fun t => Host.Outcome.next (settle t)) (whenUp_of_down up)
  · intro failed
    refine ⟨fun p f h => ⟨fun zero => ?_, fun pos stale => ?_, fun pos name holder => ?_⟩, fun up ended => ?_⟩
    · rw [exec_batchFail_of_admits h, batchFail_of_zero zero]
    · have unheld : s.journal.heldBatch p f.id.toNat = none := heldBatch_of_stale fun c held => by
        cases batch.symm.trans held
        exact stale
      rw [exec_batchFail_of_admits h, batchFail_of_stale pos unheld]
    · refine ⟨uploadDue s (failBatch p s), ?_, batchFailed_of_noticed batch (.inl ⟨rfl, rfl⟩)⟩
      rw [exec_batchFail_of_admits h, batchFail_of_held pos (heldBatch_of_held batch name holder)]
    · have own : batchTimedOut s = uploadDue s (postTo .batchTimedOut [b.holder] (failBatch b.holder s)) := by
        simp [batchTimedOut, batch, ended]
      refine ⟨_, ?_, batchFailed_of_noticed batch (.inr ⟨rfl, rfl⟩)⟩
      rw [exec_event (i := .batchTimeout) rfl up, own]
      rfl

end Sys2Proof.Machine
end

section
/-! PROOFS. The supply monitor: levels (O47), samples and changes of state (O48), print load periods (O29). -/

namespace Sys2Proof.Machine

variable {s : State} {p : Port}

/-! ## SUPPLY_LEVELS (R168) -/

/-- Settles O47. -/
theorem supplyLevelsStored : Obligations.SupplyLevelsStored := by
  unfold Obligations.SupplyLevelsStored
  intro p f s h
  refine ⟨fun bad => ?_, fun high order => ?_⟩
  · have own : supplyLevels f s = (s, .refuse .badRequest) := if_pos bad
    rw [exec_supplyLevels_of_admits h, own]
  · have ok : ¬ (7 < f.economy.toNat ∨ 7 < f.reserve.toNat ∨ f.economy.toNat ≤ f.reserve.toNat) := by omega
    have own : supplyLevels f s = _ := if_neg ok
    rw [exec_supplyLevels_of_admits h, own]
    rfl

/-! ## Print load periods (R173, R174) -/

theorem overrunLoad_spec (s : State) :
    (overrunLoad s).supply = { s.supply with load := none } ∧
      (overrunLoad s).counter .loadOverruns = s.counterPlus .loadOverruns 1 ∧
      countsOnly [.loadOverruns] s (overrunLoad s) ∧ changesOnly [.supply, .counters] s (overrunLoad s) :=
  ⟨rfl, counter_countBy_self _ _ (endLoad s), fun _ out => counter_countBy_of_ne _ (endLoad s) (by simpa using out),
    changesOnly_iff.mpr (by simp [overrunLoad])⟩

theorem loadBegin_of_none {f : NoFields} (none_ : s.supply.load = none) :
    loadBegin f s = (setSupply { s.supply with load := some (newLoad s.clock) } s,
      .okWith [BitVec.ofNat 8 s.supply.state.code, 20]) := by
  simp only [loadBegin, endLoadAtLimit, none_, loadAfter]
  rfl

/-- A LOAD_BEGIN with the limit timer ended counts the old period's overrun and opens a new one (log 28). -/
theorem loadBegin_of_ended {f : NoFields} {l : LoadPeriod} (held : s.supply.load = some l) (ended : l.limitTimer = 0) :
    loadBegin f s = (setSupply { s.supply with load := some (newLoad s.clock) } (overrunLoad s),
      .okWith [BitVec.ofNat 8 s.supply.state.code, 20]) := by
  simp only [loadBegin, endLoadAtLimit, held, ended, if_true]
  rfl

theorem loadBegin_of_running {f : NoFields} {l : LoadPeriod} (held : s.supply.load = some l) (left : l.limitTimer ≠ 0) :
    loadBegin f s = (setSupply { s.supply with load := some { l with endTimer := min 20 l.limitTimer } } s,
      .okWith [BitVec.ofNat 8 s.supply.state.code, BitVec.ofNat 8 (min 20 l.limitTimer)]) := by
  simp only [loadBegin, endLoadAtLimit, held, left, if_false, loadAfter]
  rfl

/-- STATUS SUPPLY of an open load period: the monitor's ten bytes, and the period's record (R199, 8.3). -/
theorem statusSupply_of_load {l : LoadPeriod} (held : s.supply.load = some l) :
    ∃ monitor, monitor.length = 10 ∧ s.statusSupply = monitor ++ num1 1 ++ num 3 l.beginSecond ++
      num 3 ((s.clock.second + l.endTimer) % 86400) := by
  refine ⟨num1 s.supply.state.code ++ num1 s.supply.economy ++ num1 s.supply.reserve ++
    num1 s.supply.economyRecovery ++ num1 s.supply.reserveRecovery ++ num1 s.supply.floor ++
    num1 (sampleClassCode s.supply.lastClass) ++ num1 s.supply.reserveRun ++
    num1 s.supply.economyRun ++ num1 s.supply.upgradeRun, by simp, ?_⟩
  simp [State.statusSupply, loadStatus, held, LoadPeriod.endSecond, Clock.after]

/-- Settles O29: LOAD_BEGIN by the period and its limit timer, LOAD_END, the timeout, and STATUS SUPPLY. -/
theorem loadPeriodsOpenAndEnd : Obligations.LoadPeriodsOpenAndEnd := by
  unfold Obligations.LoadPeriodsOpenAndEnd
  refine ⟨fun p s h => ⟨fun unloaded => ?_, fun l held ended => ?_, fun l held left => ?_⟩, fun p s h => ?_,
    fun s l up held ended => ?_, fun p f s l h named held => ?_⟩
  · rw [exec_loadBegin_of_admits h, loadBegin_of_none unloaded]
    rfl
  · obtain ⟨-, counted, only, changes⟩ := overrunLoad_spec s
    have replaced := setSupply_changesOnly { s.supply with load := some (newLoad s.clock) } (overrunLoad s)
    refine ⟨setSupply { s.supply with load := some (newLoad s.clock) } (overrunLoad s), ?_, rfl, counted, only,
      changes.trans (replaced.mono (by decide))⟩
    rw [exec_loadBegin_of_admits h, loadBegin_of_ended held ended]
  · rw [exec_loadBegin_of_admits h, loadBegin_of_running held left]
  · have own : loadEnd {} s = (setSupply { s.supply with load := none } s,
        .okWith [BitVec.ofNat 8 s.supply.state.code, if s.supply.load = none then 0 else 1]) := by
      cases load : s.supply.load <;> simp only [loadEnd, load] <;> rfl
    rw [exec_loadEnd_of_admits h, own]
  · have own : loadTimedOut s = overrunLoad s := by simp [loadTimedOut, held, ended]
    refine ⟨overrunLoad s, ?_, overrunLoad_spec s⟩
    rw [exec_event (i := .loadPeriodTimeout) rfl up, own]
    rfl
  · obtain ⟨monitor, ten, bytes⟩ := statusSupply_of_load held
    refine ⟨monitor, ten, ?_⟩
    have heard : (hear p 3 s).statusBytes .supply = s.statusSupply := by cases p <;> rfl
    rw [exec_status_of_section h named, heard, bytes]

/-! ## What a sample does with the runs (R167, R169, R170, R175) -/

/-- A sample's class lies below a level exactly when its voltage does (R167; log 19). -/
theorem below_classOf (mv : Nat) {n : Nat} (level : n ≤ 7) : (classOf mv).below n = decide (mv < 11000 + n * 200) := by
  unfold classOf
  split
  next under => simp only [SampleClass.below]; exact (decide_eq_true (by omega)).symm
  next => simp only [SampleClass.below, decide_eq_decide]; omega

theorem reserveRunAfter_classOf {x : Supply} (ok : x.ok) (mv : Nat) : x.reserveRunAfter (classOf mv) =
    if x.state = .reserve then 0
    else if x.load.isSome then (if mv < 11000 + x.floor * 200 then x.reserveRun + 1 else x.reserveRun)
    else if mv < 11000 + x.reserve * 200 then x.reserveRun + 1 else 0 := by
  obtain ⟨rising, top⟩ := ok.levels
  have floor : x.floor ≤ 7 := by unfold Supply.floor; omega
  unfold Supply.reserveRunAfter
  rw [below_classOf mv floor, below_classOf mv (by omega)]
  cases x.state <;> cases x.load <;> simp

theorem economyRunAfter_classOf {x : Supply} (ok : x.ok) (mv : Nat) : x.economyRunAfter (classOf mv) =
    if x.state ≠ .normal then 0
    else if x.load.isSome then x.economyRun
    else if mv < 11000 + x.economy * 200 then x.economyRun + 1 else 0 := by
  obtain ⟨rising, top⟩ := ok.levels
  unfold Supply.economyRunAfter
  rw [below_classOf mv top]
  cases x.state <;> cases x.load <;> simp

theorem upgradeRunAfter_classOf {x : Supply} (ok : x.ok) (mv : Nat) : x.upgradeRunAfter (classOf mv) =
    if x.state = .normal then 0
    else if x.load.isSome then x.upgradeRun
    else if mv < 11000 + (if x.state = .economy then x.economyRecovery else x.reserveRecovery) * 200 then 0
    else x.upgradeRun + 1 := by
  obtain ⟨rising, top⟩ := ok.levels
  have economy : x.economyRecovery ≤ 7 := by unfold Supply.economyRecovery; omega
  have reserve : x.reserveRecovery ≤ 7 := by unfold Supply.reserveRecovery; omega
  unfold Supply.upgradeRunAfter Supply.recoveryLevel
  cases x.state <;> cases x.load <;> simp [below_classOf mv economy, below_classOf mv reserve]

/-! ## A change of the supply state (R176) -/

/-- What a change of the supply state does before the display's interval (R176). -/
def supplyMoved (new : SupplyState) (s : State) : State :=
  let t := tellSales s.supply.state new (setSupply { s.supply.runsCleared with state := new } s)
  let t := post .supplyChanged (append (.supply new) t)
  if downgrade s.supply.state new then count .supplyDowngrades t else t

theorem changeSupply_eq (new : SupplyState) (line : DataLine) (s : State) :
    changeSupply new line s = intervalChanged s.intervalInForce line (supplyMoved new s) := rfl

/-- The reason SUPPLY_RESERVE follows the state, and SALES_STATE a changed set (R69, R176). -/
theorem tellSales_spec {old new : SupplyState} (moved : new = .reserve → old ≠ .reserve) (s : State) :
    (∀ r, r ∈ (tellSales old new s).sales.reasons ↔
      if r = .supplyReserve then new = .reserve ∨ r ∈ s.sales.reasons ∧ old ≠ .reserve
      else r ∈ s.sales.reasons) ∧
    ((tellSales old new s).sales.reasons ≠ s.sales.reasons → ∀ q, q ≠ .link →
      (tellSales old new s).hasNotice q .salesState) ∧
    salesKeptButReasons s (tellSales old new s) ∧ portsKeptButNotices s (tellSales old new s) := by
  unfold tellSales
  split
  next enters =>
    refine ⟨fun r => ?_, fun changed q other => hasNotice_changeReasons.mpr (.inr ⟨?_, other, rfl⟩),
      by simp [salesKeptButReasons], portsKeptButNotices_addReason _ s⟩
    · rw [addReason_sales]
      simp only [mem_setInsert_reason, enters.1, true_or]
      split <;> simp_all
    · simpa using changed
  next stays =>
    split
    next leaves =>
      refine ⟨fun r => ?_, fun changed q other => hasNotice_changeReasons.mpr (.inr ⟨?_, other, rfl⟩),
        by simp [salesKeptButReasons], portsKeptButNotices_removeReason _ s⟩
      · rw [removeReason_sales]
        simp only [mem_setErase, leaves.1, leaves.2, not_true_eq_false, and_false, ne_eq, false_or]
        split <;> simp_all
      · simpa using changed
    next out =>
      refine ⟨fun r => ?_, fun changed => absurd rfl changed, rfl, portsKeptButNotices_refl s⟩
      split
      next own =>
        subst own
        cases old <;> cases new <;> simp_all
      next => rfl

/-! ### Notices through an append -/

theorem hasNotice_freeMessage_mono {before : Journal} {q : Port} {n : Notice} (h : s.hasNotice q n) :
    (freeMessage before s).hasNotice q n := by
  rcases freeMessage_eq before s with ⟨-, -, e⟩ | ⟨-, -, e⟩ | ⟨-, e⟩ <;> rw [e]
  · exact hasNotice_changeReasons.mpr (.inl h)
  · exact hasNotice_changeReasons.mpr (.inl h)
  · exact h

theorem hasNotice_append_mono {k : EntryKind} {q : Port} {n : Notice} (h : s.hasNotice q n) :
    (append k s).hasNotice q n := by
  rcases append_eq k s with ⟨-, e⟩ | ⟨-, e⟩ <;> rw [e]
  · exact h
  · exact hasNotice_uploadDue.mpr (.inl (hasNotice_freeMessage_mono h))

/-- An append that changes the reason set notices it (R69). -/
theorem salesState_of_append {k : EntryKind} (changed : (append k s).sales.reasons ≠ s.sales.reasons) {q : Port}
    (other : q ≠ .link) : (append k s).hasNotice q .salesState := by
  rcases append_eq k s with ⟨-, e⟩ | ⟨-, e⟩ <;> rw [e] at changed ⊢
  · exact absurd rfl changed
  · rw [uploadDue_sales] at changed
    refine hasNotice_uploadDue.mpr (.inl ?_)
    rcases freeMessage_eq s.journal (pushEntry k s) with ⟨-, -, e⟩ | ⟨-, -, e⟩ | ⟨-, e⟩ <;> rw [e] at changed ⊢
    · exact hasNotice_changeReasons.mpr (.inr ⟨by simpa using changed, other, rfl⟩)
    · exact hasNotice_changeReasons.mpr (.inr ⟨by simpa using changed, other, rfl⟩)
    · exact absurd rfl changed

/-- An append that makes the link port ready notices UPLOAD_DUE there (R121). -/
theorem uploadDue_of_append {k : EntryKind} (before : s.linkReady = false) (after : (append k s).linkReady = true) :
    (append k s).hasNotice .link .uploadDue := by
  rcases append_eq k s with ⟨-, e⟩ | ⟨-, e⟩ <;> rw [e] at after ⊢
  · exact absurd (before.symm.trans after) Bool.false_ne_true
  · rw [linkReady_uploadDue] at after
    exact hasNotice_uploadDue.mpr (.inr ⟨rfl, rfl, before, after⟩)

/-! ### The change as a whole -/

section Moved

variable {new : SupplyState} (moved : new = .reserve → s.supply.state ≠ .reserve)

/-- The state in which the SUPPLY entry is appended. -/
def supplyTold (new : SupplyState) (s : State) : State :=
  tellSales s.supply.state new (setSupply { s.supply.runsCleared with state := new } s)

theorem supplyMoved_eq (new : SupplyState) (s : State) :
    supplyMoved new s = (if downgrade s.supply.state new then
      count .supplyDowngrades (post .supplyChanged (append (.supply new) (supplyTold new s)))
      else post .supplyChanged (append (.supply new) (supplyTold new s))) := rfl

theorem supplyMoved_sales (new : SupplyState) (s : State) :
    (supplyMoved new s).sales = (append (.supply new) (supplyTold new s)).sales := by
  rw [supplyMoved_eq]
  split <;> rfl

theorem supplyMoved_journal (new : SupplyState) (s : State) :
    (supplyMoved new s).journal = (append (.supply new) (supplyTold new s)).journal := by
  rw [supplyMoved_eq]
  split <;> rfl

theorem hasNotice_supplyMoved {q : Port} {n : Notice} : (supplyMoved new s).hasNotice q n ↔
    (append (.supply new) (supplyTold new s)).hasNotice q n ∨ n = .supplyChanged := by
  have everyone : q ∈ Notice.recipients .supplyChanged := by cases q <;> decide
  have posted : (post .supplyChanged (append (.supply new) (supplyTold new s))).hasNotice q n ↔ _ := hasNotice_post
  rw [supplyMoved_eq]
  split
  · exact posted.trans (by simp [everyone])
  · exact posted.trans (by simp [everyone])

@[simp] theorem supplyTold_journal (new : SupplyState) (s : State) : (supplyTold new s).journal = s.journal := by
  simp [supplyTold]

@[simp] theorem supplyTold_counters (new : SupplyState) (s : State) : (supplyTold new s).counters = s.counters := by
  simp [supplyTold]

@[simp] theorem supplyTold_scheduler (new : SupplyState) (s : State) : (supplyTold new s).scheduler = s.scheduler := by
  simp [supplyTold]

@[simp] theorem supplyTold_clock (new : SupplyState) (s : State) : (supplyTold new s).clock = s.clock := by
  simp [supplyTold]

@[simp] theorem supplyMoved_supply (new : SupplyState) (s : State) :
    (supplyMoved new s).supply = { s.supply.runsCleared with state := new } := by
  rw [supplyMoved_eq]
  split <;> simp [supplyTold]

@[simp] theorem supplyMoved_bus (new : SupplyState) (s : State) : (supplyMoved new s).bus = s.bus := by
  rw [supplyMoved_eq]
  split <;> simp [supplyTold]

include moved in
/-- The reasons after a change (R69, R71, R176). -/
theorem supplyMoved_reasons :
    (.supplyReserve ∈ (supplyMoved new s).sales.reasons ↔
      new = .reserve ∨ .supplyReserve ∈ s.sales.reasons ∧ s.supply.state ≠ .reserve) ∧
    (.journalFull ∈ (supplyMoved new s).sales.reasons ↔
      .journalFull ∈ s.sales.reasons ∨ (2 ≤ s.journal.free ∧ (supplyMoved new s).journal.free < 2)) ∧
    (∀ r, r ≠ .supplyReserve → r ≠ .journalFull →
      (r ∈ (supplyMoved new s).sales.reasons ↔ r ∈ s.sales.reasons)) ∧
    ((supplyMoved new s).sales.reasons ≠ s.sales.reasons → ∀ q, q ≠ .link →
      (supplyMoved new s).hasNotice q .salesState) := by
  obtain ⟨told, noticed, -, -⟩ := tellSales_spec moved (setSupply { s.supply.runsCleared with state := new } s)
  rw [supplyMoved_sales, supplyMoved_journal]
  refine ⟨?_, ?_, fun r notReserve notFull => ?_, fun changed q other => hasNotice_supplyMoved.mpr (.inl ?_)⟩
  · rw [mem_reasons_append (by decide)]
    exact (told _).trans (by simp)
  · rw [(fillsJournal_append _ _).2, supplyTold_journal]
    exact or_congr ((told _).trans (by simp)) Iff.rfl
  · rw [mem_reasons_append notFull]
    exact (told r).trans (by simp [notReserve])
  · by_cases same : (append (.supply new) (supplyTold new s)).sales.reasons = (supplyTold new s).sales.reasons
    · exact hasNotice_append_mono (noticed (fun e => changed (same.trans e)) q other)
    · exact salesState_of_append same other

/-- The SUPPLY entry, or its drop (R102). -/
theorem supplyMoved_entry (new : SupplyState) (s : State) :
    (3 ≤ s.journal.free →
      (supplyMoved new s).journal.entries = s.journal.entries ++ [newEntry (.supply new) s] ∧
      (supplyMoved new s).counter .journalDropped = s.counter .journalDropped) ∧
    (s.journal.free < 3 → (supplyMoved new s).journal = s.journal ∧
      (supplyMoved new s).counter .journalDropped = s.counterPlus .journalDropped 1) := by
  have dropped : (supplyMoved new s).counter .journalDropped =
      (append (.supply new) (supplyTold new s)).counter .journalDropped := by
    rw [supplyMoved_eq]
    split
    · exact counter_countBy_of_ne _ _ (by decide)
    · rfl
  have told : (supplyTold new s).counters = s.counters := supplyTold_counters new s
  rw [dropped, supplyMoved_journal]
  refine ⟨fun room => ?_, fun full => ?_⟩
  · have room' : EntryKind.room (.supply new) ≤ (supplyTold new s).journal.free := by
      rw [supplyTold_journal]
      exact room
    refine ⟨?_, ?_⟩
    · rw [append_entries_of_room room']
      simp [newEntry]
    · exact (counter_of_counters (append_counters_of_room room') _).trans (counter_of_counters told _)
  · have full' : (supplyTold new s).journal.free < EntryKind.room (.supply new) := by
      rw [supplyTold_journal]
      exact full
    refine ⟨?_, ?_⟩
    · rw [append_journal_of_no_room full', supplyTold_journal]
    · rw [append_of_no_room full']
      exact (counter_countBy_self _ _ _).trans (counterPlus_of_counters told _ _)

/-- The counters of a change: a downgrade alone counts, and a dropped entry (R102, R171). -/
theorem supplyMoved_counters (new : SupplyState) (s : State) :
    ((supplyMoved new s).counter .supplyDowngrades =
      if downgrade s.supply.state new then s.counterPlus .supplyDowngrades 1 else s.counter .supplyDowngrades) ∧
    countsOnly [.journalDropped, .supplyDowngrades] s (supplyMoved new s) := by
  have appended (c : Counter) (other : c ≠ .journalDropped) :
      (post .supplyChanged (append (.supply new) (supplyTold new s))).counter c = s.counter c :=
    (counter_append_of_ne other _ _).trans (counter_of_counters (supplyTold_counters new s) c)
  rw [supplyMoved_eq]
  split
  · refine ⟨(counter_countBy_self _ _ _).trans ?_, fun c out => ?_⟩
    · exact congrArg (fun n => min (n + 1) counterMax) (appended _ (by decide))
    · obtain ⟨drop, down⟩ : c ≠ .journalDropped ∧ c ≠ .supplyDowngrades := by simpa using out
      exact (counter_countBy_of_ne _ _ down).trans (appended c drop)
  · exact ⟨appended _ (by decide), fun c out => appended c fun e => out (by simp [e])⟩

include moved in
/-- What a change keeps. -/
theorem supplyMoved_kept :
    salesKeptButReasons s (supplyMoved new s) ∧ portsKeptButNotices s (supplyMoved new s) ∧
      changesOnly [.supply, .sales, .journal, .counters, .ports] s (supplyMoved new s) := by
  obtain ⟨-, -, sales, ports⟩ := tellSales_spec moved (setSupply { s.supply.runsCleared with state := new } s)
  refine ⟨?_, ?_, ?_⟩
  · have appended := salesKeptButReasons_append (.supply new) (supplyTold new s)
    unfold salesKeptButReasons at appended sales ⊢
    rw [supplyMoved_sales, appended]
    rw [show (supplyTold new s).sales = _ from sales]
    rfl
  · have noticed : portsKeptButNotices s (post .supplyChanged (append (.supply new) (supplyTold new s))) :=
      (ports.trans (portsKeptButNotices_append _ _)).trans (portsKeptButNotices_post _ _)
    rw [supplyMoved_eq]
    split
    · exact noticed
    · exact noticed
  · refine changesOnly_iff.mpr ?_
    rw [supplyMoved_eq]
    split <;> simp [supplyTold]

/-- A change that makes the link port ready notices UPLOAD_DUE there. -/
theorem supplyMoved_uploadDue (before : s.linkReady = false) (after : (supplyMoved new s).linkReady = true) :
    (supplyMoved new s).hasNotice .link .uploadDue := by
  have told : (supplyTold new s).linkReady = s.linkReady := linkReady_congr (by simp) (by simp)
  have moved : (supplyMoved new s).linkReady = (append (.supply new) (supplyTold new s)).linkReady := by
    rw [supplyMoved_eq]
    split <;> rfl
  exact hasNotice_supplyMoved.mpr (.inl (uploadDue_of_append (told.trans before) (moved.symm.trans after)))

end Moved

/-! ## The interval in force after a change (R148) -/

section Interval

variable {old : Nat} {line : DataLine}

theorem intervalChanged_of_same
    (same : s.bus.pacing = .trigger ∨ s.bus.state = .stopped ∨ (old = 0 ↔ s.intervalInForce = 0)) :
    intervalChanged old line s = s := by
  unfold intervalChanged
  split
  next paced =>
    have crosses : old = 0 ↔ s.intervalInForce = 0 := by
      rcases same with trigger | stopped | same
      · exact absurd (trigger.symm.trans paced.1) (by decide)
      · exact absurd stopped paced.2
      · exact same
    rw [if_neg (by omega), if_neg (by omega)]
  next => rfl

/-- Frames that ran back to back are timed again: the timer starts (R148). -/
theorem intervalChanged_of_start (paced : s.bus.pacing = .interval) (runs : s.bus.state ≠ .stopped) (zero : old = 0)
    (timed : s.intervalInForce ≠ 0) : intervalChanged old line s =
      setBus { s.bus with frameTimer := some s.intervalInForce, startDue := false } s := by
  rw [intervalChanged, if_pos ⟨paced, runs⟩, if_pos ⟨zero, timed⟩]

/-- The interval in force has become 0: the timer stops and a start is raised, which IDLE takes (R148, R149). -/
theorem intervalChanged_of_stop (paced : s.bus.pacing = .interval) (runs : s.bus.state ≠ .stopped) (timed : old ≠ 0)
    (zero : s.intervalInForce = 0) : intervalChanged old line s =
      if s.bus.state = .idle then beginFrame line (setBus { s.bus with frameTimer := none } s)
      else setBus { s.bus with frameTimer := none } s := by
  rw [intervalChanged, if_pos ⟨paced, runs⟩, if_neg (by omega), if_pos ⟨timed, zero⟩]
  rfl

theorem not_restless_of_timed (timed : s.intervalInForce ≠ 0) : s.restless = false := by
  simp [State.restless, State.frameDue, State.backToBack, timed]

theorem not_restless_of_not_idle (busy : s.bus.state ≠ .idle) : s.restless = false := by
  simp [State.restless, State.frameDue, busy]

end Interval

/-! ## The sample (R169, R171, R172) -/

/-- The next state by the runs (R171, R172). -/
theorem nextState_of_runs {x : Supply} (h : 3 ≤ x.reserveRun ∨ 3 ≤ x.economyRun ∨ 30 ≤ x.upgradeRun)
    (rests : 30 ≤ x.upgradeRun → x.state ≠ .normal) : x.nextState =
      some (if 3 ≤ x.reserveRun then .reserve else if 3 ≤ x.economyRun then .economy
        else if x.state = .reserve then .economy else .normal) := by
  unfold Supply.nextState
  by_cases reserve : 3 ≤ x.reserveRun
  · rw [if_pos reserve, if_pos reserve]
  · by_cases economy : 3 ≤ x.economyRun
    · rw [if_neg reserve, if_neg reserve, if_pos economy, if_pos economy]
    · have upgrade : 30 ≤ x.upgradeRun := by omega
      have up := rests upgrade
      rw [if_neg reserve, if_neg reserve, if_neg economy, if_neg economy, if_pos upgrade]
      cases state : x.state with
      | normal => exact absurd state up
      | economy => rfl
      | reserve => rfl

theorem nextState_of_low {x : Supply} (reserve : x.reserveRun < 3) (economy : x.economyRun < 3)
    (upgrade : x.upgradeRun < 30) : x.nextState = none := by
  rw [Supply.nextState, if_neg (Nat.not_le.mpr reserve), if_neg (Nat.not_le.mpr economy),
    if_neg (Nat.not_le.mpr upgrade)]

theorem exec_sample_of_same {mv : Nat} {line : DataLine} (up : s.core = .up) (ended : s.supply.sampleTimer = 0)
    (same : (s.supply.sampled (classOf mv)).nextState = none) :
    exec (.sample mv line) s = .next (settleAt line (setSupply (s.supply.sampled (classOf mv)) s)) := by
  have own : sampleTaken mv line s = setSupply (s.supply.sampled (classOf mv)) s := by
    simp [sampleTaken, ended, applySample, same]
  rw [exec_event (i := .sample mv line) rfl up, own]
  rfl

theorem exec_sample_of_move {mv : Nat} {line : DataLine} {new : SupplyState} (up : s.core = .up)
    (ended : s.supply.sampleTimer = 0) (moves : (s.supply.sampled (classOf mv)).nextState = some new) :
    exec (.sample mv line) s = .next (settleAt line (intervalChanged s.intervalInForce line
      (supplyMoved new (setSupply (s.supply.sampled (classOf mv)) s)))) := by
  have own : sampleTaken mv line s = changeSupply new line (setSupply (s.supply.sampled (classOf mv)) s) := by
    simp [sampleTaken, ended, applySample, moves]
  rw [exec_event (i := .sample mv line) rfl up, own]
  rfl

/-- What the display does with a sample's change of state, by the interval before and after (R148). -/
theorem settleAt_intervalChanged {old : Nat} {line : DataLine} (v : State) :
    (v.bus.pacing = .trigger ∨ v.bus.state = .stopped ∨ (old = 0 ↔ v.intervalInForce = 0) →
      settleAt line (intervalChanged old line v) = settleAt line v) ∧
    (v.bus.pacing = .interval → v.bus.state ≠ .stopped →
      (old = 0 → v.intervalInForce ≠ 0 → settleAt line (intervalChanged old line v) =
        setBus { v.bus with frameTimer := some v.intervalInForce, startDue := false } v) ∧
      (old ≠ 0 → v.intervalInForce = 0 →
        (v.bus.state ≠ .idle → settleAt line (intervalChanged old line v) =
          setBus { v.bus with frameTimer := none } v) ∧
        (v.bus.state = .idle → settleAt line (intervalChanged old line v) =
          settleAt line (beginFrame line (setBus { v.bus with frameTimer := none } v))))) := by
  refine ⟨fun same => by rw [intervalChanged_of_same same], fun paced runs =>
    ⟨fun zero timed => ?_, fun timed zero => ⟨fun busy => ?_, fun idle => ?_⟩⟩⟩
  · rw [intervalChanged_of_start paced runs zero timed]
    exact settleAt_of_rest (not_restless_of_timed
      (s := setBus { v.bus with frameTimer := some v.intervalInForce, startDue := false } v) timed) line
  · rw [intervalChanged_of_stop paced runs timed zero, if_neg busy]
    exact settleAt_of_rest (not_restless_of_not_idle (s := setBus { v.bus with frameTimer := none } v) busy) line
  · rw [intervalChanged_of_stop paced runs timed zero, if_pos idle]

/-- A change is a downgrade exactly when the reserve or the economy run calls for it (R171, R172). -/
theorem downgrade_of_runs {x : Supply} (reserve : 3 ≤ x.reserveRun → x.state ≠ .reserve)
    (economy : 3 ≤ x.economyRun → x.state = .normal) :
    downgrade x.state (if 3 ≤ x.reserveRun then .reserve else if 3 ≤ x.economyRun then .economy
      else if x.state = .reserve then .economy else .normal) =
      decide (3 ≤ x.reserveRun ∨ 3 ≤ x.economyRun) := by
  by_cases r : 3 ≤ x.reserveRun
  · have := reserve r
    cases state : x.state <;> simp_all [downgrade, SupplyState.code]
  · by_cases e : 3 ≤ x.economyRun
    · simp [r, e, economy e, downgrade, SupplyState.code]
    · cases state : x.state <;> simp [r, e, downgrade, SupplyState.code]

/-- Settles O48: the runs by `*RunAfter_classOf`, a change of state by the lemmas on `supplyMoved` and its display by
`settleAt_intervalChanged`. -/
theorem sampleMovesSupplyState : Obligations.SampleMovesSupplyState := by
  unfold Obligations.SampleMovesSupplyState
  intro mv line s up x below reserve economy upgrade cls ok ended
  have sampled : x.sampled (classOf mv) = { x with
      lastClass := some cls, sampleTimer := 2, reserveRun := reserve, economyRun := economy
      upgradeRun := upgrade } := by
    unfold Supply.sampled
    rw [reserveRunAfter_classOf ok mv, economyRunAfter_classOf ok mv, upgradeRunAfter_classOf ok mv]
    rfl
  obtain ⟨normal, eco, res⟩ := x.sampled_zero (classOf mv)
  have hr : (x.sampled (classOf mv)).reserveRun = reserve := by rw [sampled]
  have he : (x.sampled (classOf mv)).economyRun = economy := by rw [sampled]
  have hu : (x.sampled (classOf mv)).upgradeRun = upgrade := by rw [sampled]
  refine ⟨fun lowR lowE lowU => ?_, fun high => ?_⟩
  · rw [exec_sample_of_same up ended (nextState_of_low (Nat.lt_of_le_of_lt (Nat.le_of_eq hr) lowR)
      (Nat.lt_of_le_of_lt (Nat.le_of_eq he) lowE) (Nat.lt_of_le_of_lt (Nat.le_of_eq hu) lowU))]
    rw [show s.supply.sampled (classOf mv) = _ from sampled]
    rfl
  · intro new old n
    have fromReserve : 3 ≤ reserve → x.state ≠ .reserve := fun three held => by
      have := (res held).1
      omega
    have fromNormal : 3 ≤ economy → x.state = .normal := fun three => by
      cases state : x.state with
      | normal => rfl
      | economy => have := eco state; omega
      | reserve => have := (res state).2; omega
    have moves : (x.sampled (classOf mv)).nextState = some new := by
      rw [nextState_of_runs (by rw [hr, he, hu]; exact high)
        (fun thirty held => by have := normal held; omega), hr, he]
      rfl
    have down : downgrade x.state new = decide (3 ≤ reserve ∨ 3 ≤ economy) := by
      have := downgrade_of_runs (x := x.sampled (classOf mv)) (by rw [hr]; exact fromReserve)
        (by rw [he]; exact fromNormal)
      rwa [hr, he] at this
    have moved : new = .reserve → x.state ≠ .reserve := fun reserved => by
      by_cases three : 3 ≤ reserve
      · exact fromReserve three
      · intro held
        have none_ : ¬ 3 ≤ economy := fun e => absurd (held.symm.trans (fromNormal e)) (by decide)
        have : new = .economy := by simp [new, three, none_, held]
        exact absurd (reserved.symm.trans this) (by decide)
    let t := setSupply (x.sampled (classOf mv)) s
    have t_def : t = setSupply (x.sampled (classOf mv)) s := rfl
    obtain ⟨supplyReserve, journalFull, others, noticed⟩ := supplyMoved_reasons (s := t) moved
    obtain ⟨entry, dropped⟩ := supplyMoved_entry new t
    obtain ⟨downgrades, only⟩ := supplyMoved_counters new t
    obtain ⟨sales, ports, changes⟩ := supplyMoved_kept (s := t) moved
    have bus : (supplyMoved new t).bus = s.bus := supplyMoved_bus new t
    have inForce : (supplyMoved new t).intervalInForce = n := by
      rw [State.intervalInForce, bus, supplyMoved_supply]
    obtain ⟨same, paced⟩ := settleAt_intervalChanged (old := old) (line := line) (supplyMoved new t)
    rw [bus, inForce] at same paced
    have run : exec (.sample mv line) s = .next (settleAt line (intervalChanged old line (supplyMoved new t))) :=
      exec_sample_of_move up ended moves
    have begun : changesOnly [.supply, .sales, .journal, .counters, .ports] s t :=
      (setSupply_changesOnly _ s).mono (by decide)
    refine ⟨supplyMoved new t, ?_, supplyReserve, journalFull, others, fun changed =>
      ⟨noticed changed .terminal (by decide), noticed changed .service (by decide)⟩, entry, dropped,
      supplyMoved_uploadDue (s := t), fun q => hasNotice_supplyMoved.mpr (.inr rfl), fun high => ?_, fun lowR lowE => ?_,
      only, sales, ports, begun.trans changes, fun still => ?_, fun interval runs => ⟨fun zero timed => ?_,
        fun timed zero => ⟨fun busy => ?_, fun idle => ?_⟩⟩⟩
    · rw [supplyMoved_supply, t_def, sampled]
      rfl
    · rw [downgrades, show downgrade t.supply.state new = _ from down, decide_eq_true high]
      rfl
    · rw [downgrades, show downgrade t.supply.state new = _ from down, decide_eq_false (by omega)]
      rfl
    · rw [run, same still]
    · rw [run, (paced interval runs).1 zero timed]
      rfl
    · rw [run, ((paced interval runs).2 timed zero).1 busy]
      rfl
    · rw [run, ((paced interval runs).2 timed zero).2 idle]
      rfl

end Sys2Proof.Machine
end

section
/-! PROOFS. Panel records and presence (O38, O39), rights and notices (O49), port resets (O50), and the counters'
snapshots (O51). -/

namespace Sys2Proof.Machine

variable {s : State} {p : Port}

/-! ## PANEL_CONFIG (R125, R126) -/

theorem panelConfig_elsewhere (other : p ≠ .service) (f : PanelConfigBody) :
    panelConfig p f s = (s, .refuse .notPermitted) := if_pos other

theorem panelConfigGroup_elsewhere (other : p ≠ .service) (f : PanelGroupBody) :
    panelConfigGroup p f s = (s, .refuse .notPermitted) := if_pos other

theorem panelAt_of_outside {a : Nat} (outside : a = 0 ∨ 8 < a) : panelAt a = none := dif_neg (by omega)

theorem panelAt_succ (i : Fin 8) : panelAt (i.val + 1) = some i := dif_pos (by omega)

theorem panelConfig_of_outside {f : PanelConfigBody} (outside : f.address.toNat = 0 ∨ 8 < f.address.toNat) :
    panelConfig .service f s = (s, .refuse .badRequest) := by
  simp [panelConfig, panelAt_of_outside outside]

/-- From the service port the panel form of a panel stores what it forms, or is refused. -/
theorem panelConfig_of_panel {f : PanelConfigBody} {i : Fin 8} (address : f.address.toNat = i.val + 1) :
    panelConfig .service f s = ((s.panel i).formed f s.compositor.group).elim (s, .refuse .badRequest)
      fun r => (setPanel i r s, .okWith (panelBytes r)) := by
  simp only [panelConfig, address, panelAt_succ, ne_eq, not_true_eq_false, if_false]
  cases (s.panel i).formed f s.compositor.group <;> rfl

/-- A panel record replaced: what of the compositor that leaves. -/
theorem setPanel_spec (i : Fin 8) (x : Panel) (s : State) :
    (setPanel i x s).panel i = x ∧ (∀ j, j ≠ i → (setPanel i x s).panel j = s.panel j) ∧
      (setPanel i x s).compositor = { s.compositor with panels := (setPanel i x s).compositor.panels } ∧
      changesOnly [.compositor] s (setPanel i x s) := by
  refine ⟨by simp [State.panel, setPanel], fun j other => ?_, rfl, changesOnly_iff.mpr (by simp)⟩
  have apart : i.val ≠ j.val := fun e => other (Fin.ext e.symm)
  simp [State.panel, setPanel, apart]

/-- Settles O38: both forms elsewhere, the panel form by the record it forms, and the group form. -/
theorem panelConfigSetsRecord : Obligations.PanelConfigSetsRecord := by
  unfold Obligations.PanelConfigSetsRecord
  refine ⟨fun p s other h => ⟨fun f => ?_, fun f => ?_⟩, fun f s h => ?_, fun f s h => ?_⟩
  · rw [exec_panelConfig_of_admits h, panelConfig_elsewhere other]
  · rw [exec_panelConfigGroup_of_admits h, panelConfigGroup_elsewhere other]
  · intro run refused
    have ran : run = .next (settle (answered .service ReqCode.panelConfig.byte 5 (panelConfig .service f s).2
      (panelConfig .service f s).1)) := exec_panelConfig_of_admits h f
    have refuses (own : panelConfig .service f s = (s, .refuse .badRequest)) : refused := by
      show run = _
      rw [ran, own]
    have unformed (i : Fin 8) (address : f.address.toNat = i.val + 1)
        (none_ : (s.panel i).formed f s.compositor.group = none) : refused := refuses (by
      rw [panelConfig_of_panel address, none_]
      rfl)
    refine ⟨fun bad => ?_, fun i address => ?_⟩
    · by_cases outside : f.address.toNat = 0 ∨ 8 < f.address.toNat
      · exact refuses (panelConfig_of_outside outside)
      · have unknown : flagOf f.configured = none := by grind
        refine unformed ⟨f.address.toNat - 1, by omega⟩ (by simp only; omega) ?_
        rw [Panel.formed, unknown]
    · intro r stores
      have stored {x : Panel} (forms : r.formed f s.compositor.group = some x) : stores x := by
        refine ⟨setPanel i x s, ?_, setPanel_spec i x s⟩
        rw [ran, panelConfig_of_panel address, show (s.panel i).formed f s.compositor.group = _ from forms]
        rfl
      refine ⟨fun flag bare => stored ?_, fun flag set_ => stored ?_, fun flag => ⟨fun bad => unformed i address ?_,
        fun d direction low high => ⟨fun set_ => stored ?_, fun bare => stored ?_⟩⟩⟩
      · simp [Panel.formed, flag, Panel.unconfigured, bare]
      · simp [Panel.formed, flag, Panel.unconfigured, set_]
      · rcases bad with unknown | rows
        · simp [Panel.formed, flag, unknown]
        · have out : ¬ (1 ≤ f.rows.toNat ∧ f.rows.toNat ≤ 4) := by omega
          simp only [Panel.formed, flag]
          split
          · rfl
          · exact if_neg out
      · simp [Panel.formed, flag, direction, low, high, Panel.configuredWith, set_]
      · have pending : s.compositor.group.command = if s.compositor.group = .awake then .wake else .sleep := by
          cases s.compositor.group <;> rfl
        simp [Panel.formed, flag, direction, low, high, Panel.configuredWith, bare, pending]
  · intro u
    have own : panelConfigGroup .service f s =
        (u, .okWith (num1 u.compositor.sleepAfter ++ num1 u.sleepAfterInForce)) := by
      simp only [panelConfigGroup, ne_eq, not_true_eq_false, if_false, clamp_eq (show 1 ≤ 60 by decide)]
      rfl
    rw [exec_panelConfigGroup_of_admits h, own]

/-! ## Presence (R134 to R138) -/

theorem sleepAfterInForce_pos (pos : 1 ≤ s.compositor.sleepAfter) : 1 ≤ s.sleepAfterInForce := by
  unfold State.sleepAfterInForce
  split <;> omega

/-- A presence edge's own change: the level and the idle timer. -/
def presenceTaken (level : Bool) (s : State) : State :=
  startIdle { s with compositor := { s.compositor with occupied := level } }

theorem presenceEdge_of_none {level : Bool} (no : s.compositor.presenceSeen = false ∨ s.compositor.occupied = level) :
    presenceEdge level s = s := if_neg (by rcases no with no | no <;> simp [no])

theorem presenceEdge_of_edge {level : Bool} (seen : s.compositor.presenceSeen = true)
    (edge : s.compositor.occupied ≠ level) : presenceEdge level s =
      if s.compositor.group = .asleep then groupWake (presenceTaken level s) else presenceTaken level s := by
  rw [presenceEdge, if_pos ⟨seen, edge⟩]
  cases group : s.compositor.group <;> simp [presenceTaken, startIdle, group]

/-- What an edge leaves of the compositor. -/
theorem presenceEdge_spec {level : Bool} (seen : s.compositor.presenceSeen = true)
    (edge : s.compositor.occupied ≠ level) :
    (presenceEdge level s).compositor = { s.compositor with
        occupied := level, idle := some (60 * s.sleepAfterInForce), group := .awake
        panels := (presenceEdge level s).compositor.panels } ∧
      ∀ i, (presenceEdge level s).panel i =
        if s.compositor.group = .asleep ∧ (s.panel i).state = .asleep then { s.panel i with pending := .wake }
        else if s.compositor.group = .asleep ∧ (s.panel i).state = .awake then { s.panel i with pending := .none }
        else s.panel i := by
  have taken (i : Fin 8) : (presenceTaken level s).panel i = s.panel i := rfl
  have inForce : State.sleepAfterInForce { s with compositor := { s.compositor with occupied := level } } =
    s.sleepAfterInForce := rfl
  rw [presenceEdge_of_edge seen edge]
  by_cases asleep : s.compositor.group = .asleep
  · rw [if_pos asleep]
    refine ⟨by simp [groupWake, presenceTaken, startIdle, inForce], fun i => ?_⟩
    rw [panel_groupWake, taken, Panel.groupWake_eq]
    simp [asleep]
  · have awake : s.compositor.group = .awake := by
      cases group : s.compositor.group with
      | awake => rfl
      | asleep => exact absurd group asleep
    rw [if_neg asleep]
    refine ⟨by simp [presenceTaken, startIdle, inForce, ← awake], fun i => ?_⟩
    rw [taken]
    simp [asleep]

theorem presenceIdleExpired_of_running (runs : s.compositor.idle ≠ some 0) : presenceIdleExpired s = s := if_neg runs

theorem presenceIdleExpired_of_ended (ended : s.compositor.idle = some 0) : presenceIdleExpired s =
    if s.compositor.group = .awake ∧ s.store.hasHorizon s.clock.minute = false then
      groupSleep { s with compositor := { s.compositor with idle := none } }
    else { s with compositor := { s.compositor with idle := none } } := if_pos ended

/-- Settles O39. -/
theorem presenceWakesAndSleepsGroup : Obligations.PresenceWakesAndSleepsGroup := by
  unfold Obligations.PresenceWakesAndSleepsGroup
  intro s up
  have edge (level : Bool) : exec (.presenceEdge level) s = .next (settle (presenceEdge level s)) :=
    exec_event (i := .presenceEdge level) rfl up
  have expiry {t : State} (up' : t.core = .up) : exec .presenceIdleExpiry t = .next (settle (presenceIdleExpired t)) :=
    exec_event (i := .presenceIdleExpiry) rfl up'
  refine ⟨fun level no => ?_, fun level seen changes => ?_, fun runs => ?_, fun ended => ?_⟩
  · rw [edge, presenceEdge_of_none no]
  · obtain ⟨compositor, panels⟩ := presenceEdge_spec seen changes
    refine ⟨presenceEdge level s, edge level, compositor, panels, fun pos => ?_, presenceEdge_changesOnly level s⟩
    have runs : (presenceEdge level s).compositor.idle ≠ some 0 := by
      have := sleepAfterInForce_pos pos
      rw [compositor]
      simp only [ne_eq, Option.some.injEq]
      omega
    have core : (presenceEdge level s).core = s.core := (presenceEdge_changesOnly level s).2 .core (by decide)
    rw [expiry (core.trans up), presenceIdleExpired_of_running runs]
  · rw [expiry up, presenceIdleExpired_of_running runs]
  · intro horizon
    have test : s.store.hasHorizon s.clock.minute = true ↔ horizon := Store.hasHorizon_iff _ _
    have own := presenceIdleExpired_of_ended ended
    refine ⟨fun stays => ?_, fun awake none_ => ?_⟩
    · have kept : ¬ (s.compositor.group = .awake ∧ s.store.hasHorizon s.clock.minute = false) := by
        rintro ⟨awake, no⟩
        rcases stays with asleep | some_
        · exact absurd (awake.symm.trans asleep) (by decide)
        · exact absurd (no.symm.trans (test.mpr some_)) Bool.false_ne_true
      rw [expiry up, own, if_neg kept]
    · have sleeps : s.store.hasHorizon s.clock.minute = false := Bool.eq_false_iff.mpr fun some_ => none_ (test.mp some_)
      rw [if_pos ⟨awake, sleeps⟩] at own
      refine ⟨_, (expiry up).trans (by rw [own]), rfl, fun i => ?_, changesOnly_iff.mpr (by simp [groupSleep])⟩
      rw [panel_groupSleep, Panel.groupSleep_eq]
      rfl

/-! ## Sets coded in bits (R193, R195) -/

/-- A member's bit decides whether it stands in the coded set. -/
theorem mem_setOfBits {α : Type} {all : List α} (nodup : all.Nodup) {k : α} :
    ∀ {i : Nat}, all[i]? = some k → ∀ n, k ∈ setOfBits all n ↔ n.testBit i = true := by
  induction all with
  | nil => intro i h; simp at h
  | cons x xs ih =>
    obtain ⟨out, nodup'⟩ := List.nodup_cons.mp nodup
    intro i h n
    cases i with
    | zero =>
      obtain rfl : x = k := by simpa using h
      have tail : x ∉ setOfBits xs (n / 2) := fun held => out ((setOfBits_sublist xs _).subset held)
      rw [setOfBits, Nat.testBit_zero, decide_eq_true_iff]
      split <;> simp_all
    | succ i =>
      have inTail : xs[i]? = some k := by simpa using h
      have apart : k ≠ x := fun e => out (e ▸ List.mem_of_getElem? inTail)
      rw [setOfBits, Nat.testBit_succ]
      split <;> simp [apart, ih nodup' inTail]

theorem rightsOf_of_low {b : Byte} (low : b.toNat < 64) : rightsOf b = some (setOfBits RightsClass.all b.toNat) :=
  if_pos low

theorem rightsOf_of_high {b : Byte} (high : 64 ≤ b.toNat) : rightsOf b = none := if_neg (Nat.not_lt.mpr high)

theorem noticesOf_of_low {w : BitVec 16} (low : w.toNat < 8192) :
    noticesOf w = some (setOfBits Notice.all w.toNat) := if_pos low

theorem noticesOf_of_high {w : BitVec 16} (high : 8192 ≤ w.toNat) : noticesOf w = none := if_neg (Nat.not_lt.mpr high)

/-! ## READ_NOTICES and SET_RIGHTS (R194, R196) -/

/-- One port's controller replaced. -/
theorem ports_setPort (p : Port) (c : PortControl) (s : State) :
    (setPort p c s).ports.get p = c ∧ ∀ q, q ≠ p → (setPort p c s).ports.get q = s.ports.get q :=
  ⟨PerPort.get_set_self _ _ _, fun _ other => PerPort.get_set_of_ne _ _ other⟩

theorem setRights_of_bad {f : SetRightsBody} (bad : portOf f.port = none ∨ 64 ≤ f.rights.toNat ∨
      (portOf f.port = some .service ∧ f.rights.toNat.testBit 4 = false)) :
    setRights .service f s = (s, .refuse .badRequest) := by
  simp only [setRights, ne_eq, not_true_eq_false, if_false]
  split
  next q rs port rights =>
    have low : f.rights.toNat < 64 := by
      refine Nat.lt_of_not_le fun high => ?_
      rw [rightsOf_of_high high] at rights
      cases rights
    rw [rightsOf_of_low low] at rights
    obtain rfl := Option.some.inj rights
    obtain ⟨service, bit⟩ : portOf f.port = some .service ∧ f.rights.toNat.testBit 4 = false := by
      rcases bad with none_ | high | service
      · exact absurd (none_.symm.trans port) (by simp)
      · omega
      · exact service
    have without : .config ∉ setOfBits RightsClass.all f.rights.toNat := fun held =>
      absurd (bit.symm.trans ((mem_setOfBits RightsClass.nodup_all (i := 4) rfl _).mp held)) Bool.false_ne_true
    exact if_pos ⟨Option.some.inj (port.symm.trans service), without⟩
  next => rfl

theorem setRights_of_ok {f : SetRightsBody} {q : Port} (port : portOf f.port = some q) (low : f.rights.toNat < 64)
    (config : q = .service → f.rights.toNat.testBit 4 = true) : setRights .service f s =
      (setRightsOf q (setOfBits RightsClass.all f.rights.toNat) s,
        .okWith ((setRightsOf q (setOfBits RightsClass.all f.rights.toNat) s).ports.toList.flatMap
          fun c => rightsBytes c.rights)) := by
  simp only [setRights, ne_eq, not_true_eq_false, if_false, port, rightsOf_of_low low]
  refine if_neg ?_
  rintro ⟨service, without⟩
  exact without ((mem_setOfBits RightsClass.nodup_all (i := 4) rfl _).mpr (config service))

/-- Settles O49. -/
theorem noticesAndRightsSet : Obligations.NoticesAndRightsSet := by
  unfold Obligations.NoticesAndRightsSet
  refine ⟨fun p f s h => ⟨fun high => ?_, fun low => ?_⟩, fun p f s other h => ?_, fun f s h => ⟨fun bad => ?_,
    fun q port low config => ?_⟩⟩
  · have own : readNotices p f s = (s, .refuse .badRequest) := by rw [readNotices, noticesOf_of_high high]
    rw [exec_readNotices_of_admits h, own]
  · obtain ⟨list, list_def⟩ : ∃ list, list = setOfBits Notice.all f.acknowledge.toNat := ⟨_, rfl⟩
    have own : readNotices p f s =
        (setPort p { s.ports.get p with notices := acknowledge list (s.ports.get p).notices } s,
          .okWith (noticeBytes (s.ports.get p).notices)) := by
      rw [readNotices, noticesOf_of_low low, list_def]
    obtain ⟨here, others⟩ :=
      ports_setPort p { s.ports.get p with notices := acknowledge list (s.ports.get p).notices } s
    refine ⟨_, ?_, fun i k named => ?_, others, fun q => ?_, setPort_changesOnly _ _ s⟩
    · rw [exec_readNotices_of_admits h, own]
    · have bit := mem_setOfBits Notice.nodup_all named f.acknowledge.toNat
      rw [← list_def] at bit
      rw [State.hasNotice, here]
      simp [acknowledge, bit, State.hasNotice]
    · by_cases own : q = p
      · subst own
        rw [here]
      · rw [others q own]
  · have own : setRights p f s = (s, .refuse .notPermitted) := if_pos other
    rw [exec_setRights_of_admits h, own]
  · rw [exec_setRights_of_admits h, setRights_of_bad bad]
  · obtain ⟨here, others⟩ := ports_setPort q
      { s.ports.get q with rights := setOfBits RightsClass.all f.rights.toNat } s
    refine ⟨setRightsOf q (setOfBits RightsClass.all f.rights.toNat) s, ?_, fun i c named => ?_, ?_, others,
      setPort_changesOnly _ _ s⟩
    · rw [exec_setRights_of_admits h, setRights_of_ok port low config]
    · rw [setRightsOf, here]
      exact mem_setOfBits RightsClass.nodup_all named _
    · rw [setRightsOf, here]

/-! ## READ_COUNTERS (R182 to R184) -/

/-- Settles O51. -/
theorem readCountersSnapshots : Obligations.ReadCountersSnapshots := by
  unfold Obligations.ReadCountersSnapshots
  intro p f s h first n refused
  have refuses (r : Result) (own : readCounters p f s = (s, .refuse r)) : refused r := by
    show exec _ _ = _
    rw [exec_readCounters_of_admits h, own]
  refine ⟨fun bad => refuses _ ?_, fun low one most reset flag => ?_⟩
  · unfold readCounters
    dsimp only
    split
    · rfl
    next reset flag =>
      refine if_pos ?_
      rcases bad with none_ | bad
      · exact absurd (none_.symm.trans flag) (by simp)
      · omega
  · have ok : ¬ (first = 0 ∨ 24 < first ∨ n = 0 ∨ 24 < n ∨ 24 < first + n - 1) := by omega
    refine ⟨fun set_ terminal => refuses _ ?_, fun may => ?_⟩
    · unfold readCounters
      dsimp only
      rw [flag]
      exact (if_neg ok).trans (if_pos ⟨set_, terminal⟩)
    · have permitted : ¬ (reset = true ∧ p = .terminal) := by rintro ⟨set_, terminal⟩; simp_all
      have own : readCounters p f s = (if reset then zeroCounters first n s else s,
          .okWith (num1 first ++ num1 n ++ flagByte reset ++ (s.counterRun first n).flatMap (num 4))) := by
        unfold readCounters
        dsimp only
        rw [flag]
        exact (if_neg ok).trans (if_neg permitted)
      have changes := readCounters_changesOnly p f s
      rw [own] at changes
      refine ⟨if reset then zeroCounters first n s else s, ?_, fun c => ?_, changes⟩
      · rw [exec_readCounters_of_admits h, own]
        rfl
      · cases reset with
        | false => simp
        | true => simp [counter_zeroCounters]

/-! ## Port resets (R97, R112, R197, R198) -/

/-- The staging a port holds is discarded at its reset, and no other (R198). -/
theorem releaseStaging_store (p : Port) (s : State) :
    (∀ g, s.store.staging = some g → g.holder = p → (releaseStaging p s).store = { s.store with staging := none }) ∧
      ((∀ g, s.store.staging = some g → g.holder ≠ p) → (releaseStaging p s).store = s.store) := by
  refine ⟨fun g staging holder => ?_, fun others => ?_⟩
  · simp [releaseStaging, staging, holder]
  · unfold releaseStaging
    split
    · rfl
    · rw [if_neg (others _ ‹_›)]

/-- The batch a port holds is ended at its reset, with no count, and UPLOAD_DUE follows readiness (R112). -/
theorem releaseBatch_spec (p : Port) (s : State) :
    (∀ b, s.journal.batch = some b → b.holder = p → (releaseBatch p s).journal = s.journal.returned) ∧
      ((∀ b, s.journal.batch = some b → b.holder ≠ p) → (releaseBatch p s).journal = s.journal) ∧
      (∀ q k, (releaseBatch p s).hasNotice q k ↔ s.hasNotice q k ∨
        (q = .link ∧ k = .uploadDue ∧ s.linkReady = false ∧ (releaseBatch p s).linkReady = true)) ∧
      portsKeptButNotices s (releaseBatch p s) := by
  have unready {u : State} (same : u = s) : ∀ q k, u.hasNotice q k ↔ s.hasNotice q k ∨
      (q = .link ∧ k = .uploadDue ∧ s.linkReady = false ∧ u.linkReady = true) := fun q k => by
    rw [same]
    cases s.linkReady <;> simp
  by_cases held : ∃ b, s.journal.batch = some b ∧ b.holder = p
  · obtain ⟨b, batch, holder⟩ := held
    have own : releaseBatch p s = uploadDue s { s with journal := s.journal.returned } := by
      simp [releaseBatch, batch, holder]
    rw [own]
    refine ⟨fun _ _ _ => by simp, fun others => absurd holder (others b batch), fun q k => ?_,
      portsKeptButNotices_uploadDue s _⟩
    rw [hasNotice_uploadDue, linkReady_uploadDue]
    rfl
  · have own : releaseBatch p s = s := by
      unfold releaseBatch
      split
      · rfl
      · exact if_neg fun holder => held ⟨_, ‹_›, holder⟩
    refine ⟨fun b batch holder => absurd ⟨b, batch, holder⟩ held, fun _ => by rw [own], unready own, ?_⟩
    rw [own]
    exact portsKeptButNotices_refl s

/-- A port reset up to the batch it releases: the port, its sales record and its staging. -/
def portCleared (p : Port) (s : State) : State :=
  releaseStaging p (resetSales p (setPort p (s.ports.get p).cleared s))

theorem resetPort_eq (p : Port) (s : State) : resetPort p s = releaseLoad p (releaseBatch p (portCleared p s)) := rfl

@[simp] theorem portCleared_ports (p : Port) (s : State) :
    (portCleared p s).ports = s.ports.set p (s.ports.get p).cleared := by simp [portCleared]

@[simp] theorem portCleared_journal (p : Port) (s : State) : (portCleared p s).journal = s.journal := by
  simp [portCleared]

@[simp] theorem portCleared_scheduler (p : Port) (s : State) : (portCleared p s).scheduler = s.scheduler := by
  simp [portCleared]

@[simp] theorem portCleared_supply (p : Port) (s : State) : (portCleared p s).supply = s.supply := by
  simp [portCleared]

theorem portCleared_sales (p : Port) (s : State) : (portCleared p s).sales = { s.sales with
    ports := s.sales.ports.set p { s.sales.ports.get p with slot := none, mark := .none, lastSale := none } } := by
  simp [portCleared, resetSales, PortSales.cleared]

theorem releaseLoad_supply (p : Port) (s : State) :
    (releaseLoad p s).supply = if p = .terminal then { s.supply with load := none } else s.supply := by
  cases p <;> rfl

/-- What O50 says of a port reset. -/
def PortWasReset (p : Port) (cond : ResetCondition) (s u : State) : Prop :=
  (u.ports.get p).slot = none ∧ (u.ports.get p).overrun = false ∧
    (u.ports.get p).rights = (s.ports.get p).rights ∧ (u.ports.get p).condition = cond ∧
    (∀ k, u.hasNotice p k → p = .link ∧ k = .uploadDue) ∧
    (∀ q, q ≠ p → u.ports.get q = { s.ports.get q with notices := (u.ports.get q).notices }) ∧
    (∀ q k, q ≠ p → (u.hasNotice q k ↔ s.hasNotice q k ∨
      (q = .link ∧ k = .uploadDue ∧ s.linkReady = false ∧ u.linkReady = true))) ∧
    u.sales.ports.get p = { s.sales.ports.get p with slot := none, mark := .none, lastSale := none } ∧
    (∀ q, q ≠ p → u.sales.ports.get q = s.sales.ports.get q) ∧
    u.sales = { s.sales with ports := u.sales.ports } ∧
    (∀ g, s.store.staging = some g → g.holder = p → u.store = { s.store with staging := none }) ∧
    ((∀ g, s.store.staging = some g → g.holder ≠ p) → u.store = s.store) ∧
    (∀ b, s.journal.batch = some b → b.holder = p → u.journal =
      { s.journal with entries := s.journal.entries.map (Entry.as .unsent), batch := none }) ∧
    ((∀ b, s.journal.batch = some b → b.holder ≠ p) → u.journal = s.journal) ∧
    (s.linkReady = false → u.linkReady = true → u.hasNotice .link .uploadDue) ∧
    u.supply = (if p = .terminal then { s.supply with load := none } else s.supply) ∧
    changesOnly [.store, .sales, .journal, .supply, .ports] s u

theorem portWasReset_resetPort (p : Port) (s : State) :
    PortWasReset p (s.ports.get p).condition s (resetPort p s) := by
  obtain ⟨held, others, posted, kept⟩ := releaseBatch_spec p (portCleared p s)
  have ready : (portCleared p s).linkReady = s.linkReady := linkReady_congr (by simp) (by simp)
  have ports : (resetPort p s).ports = (releaseBatch p (portCleared p s)).ports := by cases p <;> rfl
  have journal : (resetPort p s).journal = (releaseBatch p (portCleared p s)).journal := by cases p <;> rfl
  have readyAfter : (resetPort p s).linkReady = (releaseBatch p (portCleared p s)).linkReady :=
    linkReady_congr journal (by cases p <;> rfl)
  have store : (resetPort p s).store = (releaseStaging p s).store := by
    have before : (resetSales p (setPort p (s.ports.get p).cleared s)).store = s.store := by simp [resetSales]
    have after : (resetPort p s).store = (portCleared p s).store := by cases p <;> simp [resetPort_eq, releaseLoad]
    rw [after, portCleared, releaseStaging, releaseStaging, before]
    (repeat' split) <;> simp_all
  have sales : (resetPort p s).sales = (portCleared p s).sales := by cases p <;> simp [resetPort_eq, releaseLoad]
  rw [portCleared_sales] at sales
  have supply : (resetPort p s).supply = if p = .terminal then { s.supply with load := none } else s.supply := by
    rw [resetPort_eq, releaseLoad_supply]
    simp
  have notices (q : Port) (k : Notice) : (resetPort p s).hasNotice q k ↔ (portCleared p s).hasNotice q k ∨
      (q = .link ∧ k = .uploadDue ∧ s.linkReady = false ∧ (resetPort p s).linkReady = true) := by
    rw [readyAfter, ← ready, ← posted q k, State.hasNotice, ports]
    rfl
  have own : (resetPort p s).ports.get p =
      { (s.ports.get p).cleared with notices := ((resetPort p s).ports.get p).notices } := by
    have := kept p
    rw [portCleared_ports, PerPort.get_set_self] at this
    rw [ports]
    exact this
  obtain ⟨discarded, staged⟩ := releaseStaging_store p s
  rw [portCleared_journal] at held others
  refine ⟨by rw [own]; rfl, by rw [own]; rfl, by rw [own]; rfl, by rw [own]; rfl, fun k posted => ?_, fun q other => ?_,
    fun q k other => ?_, ?_, fun q other => ?_, ?_, fun g staging holder => store.trans (discarded g staging holder),
    fun out => store.trans (staged out), fun b batch holder => journal.trans (held b batch holder),
    fun out => journal.trans (others out), fun before after => (notices _ _).mpr (.inr ⟨rfl, rfl, before, after⟩),
    supply, resetPort_changesOnly p s⟩
  · rcases (notices p k).mp posted with cleared | ⟨link, due, -⟩
    · simp [State.hasNotice, PortControl.cleared] at cleared
    · exact ⟨link, due⟩
  · have := kept q
    rw [portCleared_ports, PerPort.get_set_of_ne _ _ other] at this
    rw [ports]
    exact this
  · rw [notices, State.hasNotice, portCleared_ports, PerPort.get_set_of_ne _ _ other]
    rfl
  · rw [sales]
    exact PerPort.get_set_self _ _ _
  · rw [sales]
    exact PerPort.get_set_of_ne _ _ other
  · rw [sales]

/-- The reset line holds the port it has reset (R197). -/
theorem portWasReset_held {u : State} {cond : ResetCondition} (reset : PortWasReset p cond s u) :
    PortWasReset p .held s (setCondition p .held u) := by
  obtain ⟨slot, overrun, rights, -, posted, kept, notices, record, records, sales, discarded, staged, held, others, due,
    supply, changes⟩ := reset
  obtain ⟨here, away⟩ := ports_setPort p { u.ports.get p with condition := .held } u
  have same (q : Port) (k : Notice) : (setCondition p .held u).hasNotice q k ↔ u.hasNotice q k := by
    by_cases own : q = p
    · subst own
      rw [State.hasNotice, setCondition, here]
      rfl
    · rw [State.hasNotice, setCondition, away q own]
      rfl
  have ready : (setCondition p .held u).linkReady = u.linkReady := rfl
  refine ⟨?_, ?_, ?_, ?_, fun k h => posted k ((same p k).mp h), fun q other => ?_, fun q k other => ?_, record, records,
    sales, discarded, staged, held, others, fun before after => (same _ _).mpr (due before (ready ▸ after)), supply,
    changes.trans ((setPort_changesOnly _ _ u).mono (by decide))⟩
  · rw [setCondition, here]; exact slot
  · rw [setCondition, here]; exact overrun
  · rw [setCondition, here]; exact rights
  · rw [setCondition, here]
  · rw [setCondition, away q other]
    exact kept q other
  · rw [same, ready]
    exact notices q k other

theorem portReset_of_bad {f : PortResetBody} (bad : portOf f.port = none ∨ portOf f.port = some .service) :
    portReset .service f s = (s, .refuse .badRequest) := by
  rcases bad with bad | bad <;> simp [portReset, bad]

theorem portReset_of_port {f : PortResetBody} {q : Port} (port : portOf f.port = some q) (other : q ≠ .service) :
    portReset .service f s = (resetPort q s, .done) := by
  cases q with
  | service => exact absurd rfl other
  | terminal => simp [portReset, port]
  | link => simp [portReset, port]

/-- Settles O50: a reset by request and by the line, both by `portWasReset_resetPort`. -/
theorem portResetReleasesAll : Obligations.PortResetReleasesAll := by
  unfold Obligations.PortResetReleasesAll
  intro reset
  refine ⟨fun p f s h => ⟨fun other => ?_, fun service => ⟨fun bad => ?_, fun q port other => ?_⟩⟩, fun p s up => ?_⟩
  · have own : portReset p f s = (s, .refuse .notPermitted) := if_pos other
    rw [exec_portReset_of_admits h, own]
  · subst service
    rw [exec_portReset_of_admits h, portReset_of_bad bad]
  · subst service
    refine ⟨resetPort q s, ?_, portWasReset_resetPort q s⟩
    rw [exec_portReset_of_admits h, portReset_of_port port other]
  · have active : exec (.portResetLineActive p) s = .next (settle (resetLineActive p s)) :=
      exec_event (i := .portResetLineActive p) rfl up
    have inactive : exec (.portResetLineInactive p) s = .next (settle (resetLineInactive p s)) :=
      exec_event (i := .portResetLineInactive p) rfl up
    refine ⟨fun unseen => ⟨?_, ?_⟩, fun seen => ⟨fun held => ?_, fun runs => ?_, ?_⟩⟩
    · rw [active, resetLineActive, if_neg (by simp [unseen])]
    · rw [inactive, resetLineInactive, if_neg (by simp [unseen])]
    · rw [active, resetLineActive, if_neg (by simp [held])]
    · refine ⟨setCondition p .held (resetPort p s), ?_, portWasReset_held (portWasReset_resetPort p s)⟩
      rw [active, resetLineActive, if_pos ⟨seen, runs⟩]
    · rw [inactive, resetLineInactive, if_pos seen]
      rfl

end Sys2Proof.Machine
end

section
/-! PROOFS. The display bus controller's requests and starts: START and STOP (O40), RECOVER, FRAME_COUNT and
AUTO_RECOVERY (O41), PACING (O42), frame starts (O43), stuck lines and recoveries (O46). -/

namespace Sys2Proof.Machine

variable {s t u : State} {p : Port}

/-! ## What the display's own steps keep -/

/-- The settings that the interval in force rests on are kept, with each port but for its notices. -/
structure FrameKept (s t : State) : Prop where
  interval : t.bus.interval = s.bus.interval
  supply : t.supply = s.supply
  sales : t.sales = s.sales
  ports : portsKeptButNotices s t

theorem FrameKept.refl (s : State) : FrameKept s s := ⟨rfl, rfl, rfl, portsKeptButNotices_refl s⟩

theorem FrameKept.trans (a : FrameKept s t) (b : FrameKept t u) : FrameKept s u :=
  ⟨b.interval.trans a.interval, b.supply.trans a.supply, b.sales.trans a.sales, a.ports.trans b.ports⟩

theorem FrameKept.intervalInForce (h : FrameKept s t) : t.intervalInForce = s.intervalInForce := by
  simp only [State.intervalInForce, h.interval, h.supply]

theorem FrameKept.setBus {b : DisplayBus} (h : FrameKept s t) (interval : b.interval = t.bus.interval) :
    FrameKept s (setBus b t) := ⟨interval.trans h.interval, h.supply, h.sales, h.ports⟩

theorem FrameKept.post (h : FrameKept s t) (k : Notice) : FrameKept s (post k t) :=
  ⟨h.interval, h.supply, h.sales, h.ports.trans (portsKeptButNotices_post k t)⟩

theorem FrameKept.countBy (h : FrameKept s t) (c : Counter) (n : Nat) : FrameKept s (countBy c n t) :=
  ⟨h.interval, h.supply, h.sales, h.ports⟩

theorem FrameKept.stopDisplay (h : FrameKept s t) : FrameKept s (stopDisplay t) := h.setBus rfl

theorem FrameKept.enterIdle (h : FrameKept s t) : FrameKept s (enterIdle t) := h.setBus rfl

theorem FrameKept.enterFault (h : FrameKept s t) (c : FaultCause) : FrameKept s (enterFault c t) :=
  (h.setBus (by rfl)).post .panelBusFault

theorem FrameKept.completeFrame (h : FrameKept s t) : FrameKept s (completeFrame t) := by
  have counted := h.countBy .framesSent 1
  unfold Machine.completeFrame
  dsimp only
  split
  · exact counted.enterIdle
  · split
    · exact ((FrameKept.setBus counted (by rfl)).stopDisplay).post .displayStopped
    · exact (FrameKept.setBus counted (by rfl)).enterIdle

theorem FrameKept.stuckData (h : FrameKept s t) : FrameKept s (stuckData t) := by
  unfold Machine.stuckData
  split
  · exact (h.setBus (by rfl)).countBy .busRecoveries 1
  · exact h.enterFault _

theorem FrameKept.startNext (h : FrameKept s t) (line : DataLine) : FrameKept s (startNext line t) := by
  unfold Machine.startNext
  dsimp only
  split
  · exact h.completeFrame
  · split
    · exact h.setBus rfl
    · exact (h.setBus (by rfl)).stuckData

theorem FrameKept.beginFrame (h : FrameKept s t) (line : DataLine) : FrameKept s (beginFrame line t) :=
  FrameKept.startNext (t := buildFrame t) ⟨h.interval, h.supply, h.sales, h.ports⟩ line

theorem FrameKept.takeDue {line : DataLine} : ∀ {fuel : Nat} {t : State}, FrameKept s t →
    FrameKept s (takeDue line fuel t)
  | 0, _, h => h
  | fuel + 1, t, h => by
    unfold Machine.takeDue
    split
    · exact FrameKept.takeDue (h.beginFrame line)
    · exact h

theorem FrameKept.emptyFrames (h : FrameKept s t) (line : DataLine) : FrameKept s (emptyFrames line t) := by
  have begun := h.beginFrame line
  unfold Machine.emptyFrames
  generalize Machine.beginFrame line t = v at begun
  exact ⟨begun.interval, begun.supply, begun.sales, begun.ports⟩

theorem FrameKept.settleAt (h : FrameKept s t) (line : DataLine) : FrameKept s (settleAt line t) := by
  have due : FrameKept s (Machine.takeDue line t.dueFrames t) := h.takeDue
  rw [Machine.settleAt]
  split
  · rw [framesRun]
    generalize Machine.takeDue line t.dueFrames t = v at due
    split
    · exact h.emptyFrames line
    · exact due
  · exact h

/-! ## START and PACING hear their own frame first (R73, R189) -/

theorem hear_of_heard {n : Nat} (data : (t.ports.get p).dataOut = List.replicate n filler)
    (terminal : p = .terminal → t.sales.silence = some 300 ∧ t.sales.silent = false) : hear p n t = t := by
  have ports : t.ports.set p { t.ports.get p with dataOut := List.replicate n filler } = t.ports := by
    rw [← data]
    exact PerPort.set_get _ _
  rw [hear_eq, ports]
  by_cases own : p = .terminal
  · obtain ⟨silence, silent⟩ := terminal own
    rw [if_pos own, ← silence, ← silent]
  · rw [if_neg own]

/-- A frame heard stays heard through what the display does after it. -/
theorem hear_of_frameKept {n : Nat} {b : DisplayBus} (kept : FrameKept (setBus b (hear p n s)) t) :
    hear p n t = t := by
  refine hear_of_heard ?_ fun terminal => ?_
  · rw [kept.ports p, setBus_ports, hear_eq]
    simp
  · rw [kept.sales]
    subst terminal
    exact ⟨rfl, rfl⟩

/-- A DISPLAY_CONTROL request whose owner answers with the summary of what it leaves. -/
theorem request_displayAnswer {body : List Byte} {owner : Owner} {r : Result} (h : s.admits p .displayControl)
    (fit : ReqCode.displayControl.fits body = true)
    (own : owner (hear p (body.length + 2) s) = displayAnswer r (hear p (body.length + 2) u)) :
    request p .displayControl body owner s = answered p ReqCode.displayControl.byte body.length
      { result := r, body := u.displaySummary } u :=
  request_answered h fit (by rw [own]; simp [displayAnswer])

theorem exec_displayStart_of_answer {line : DataLine} (h : s.admits p .displayControl)
    (own : displayStart line (hear p 6 s) = displayAnswer .ok (hear p 6 u)) :
    exec (.displayStart p line) s = .next (settleAt line
      (answered p ReqCode.displayControl.byte 4 { result := .ok, body := u.displaySummary } u)) := by
  rw [exec_eq]
  exact congrArg (fun t => Host.Outcome.next (settleAt line t))
    (request_displayAnswer (body := writeDisplayStart) h rfl own)

theorem exec_displayPacing_of_answer {f : DisplayPacingBody} {line : DataLine} {r : Result}
    (h : s.admits p .displayControl)
    (own : displayPacing f line (hear p 6 s) = displayAnswer r (hear p 6 u)) :
    exec (.displayPacing p f line) s = .next (settleAt line
      (answered p ReqCode.displayControl.byte 4 { result := r, body := u.displaySummary } u)) := by
  rw [exec_eq]
  exact congrArg (fun t => Host.Outcome.next (settleAt line t))
    (request_displayAnswer (body := writeDisplayPacing f) h rfl own)

/-! ## START and STOP (R163, R164) -/

theorem length_displaySummary (s : State) : s.displaySummary.length = 10 := by
  simp [State.displaySummary]

/-- The controller that START leaves for its frames to begin. -/
def DisplayBus.started (b : DisplayBus) : DisplayBus :=
  { b with
    state := .idle, runMark := true, remaining := loadRemaining b.countSetting
    firstEdge := true }

theorem intervalInForce_started (s : State) :
    (setBus s.bus.started (hear p 6 s)).intervalInForce = s.intervalInForce := by
  simp [State.intervalInForce, DisplayBus.started]

theorem displayStart_of_stopped {line : DataLine} (stopped : s.bus.state = .stopped) :
    displayStart line s = displayAnswer .ok (settleAt line (startFrames line (setBus s.bus.started s))) := by
  rw [displayStart, stopped]
  rfl

theorem displayStop_of_running (running : s.bus.state = .running) : displayStop s = displayAnswer .ok
    (if s.inProgress.isSome then setBus { s.bus with stopMark := true } s else stopDisplay s) := by
  rw [displayStop, running]

/-- Settles O40: START by the controller's state, with its own frame heard, and STOP. -/
theorem startAndStopDisplay : Obligations.StartAndStopDisplay := by
  unfold Obligations.StartAndStopDisplay
  refine ⟨length_displaySummary, fun p line s h => ?_, fun p s h => ?_⟩
  · intro gives started
    have answers (u : State) (own : displayStart line (hear p 6 s) = displayAnswer .ok (hear p 6 u)) : gives u :=
      exec_displayStart_of_answer h own
    have state (x : BusState) (e : s.bus.state = x) : (hear p 6 s).bus.state = x := by rw [hear_bus, e]
    refine ⟨fun rests => answers s ?_, fun runs => answers _ ?_, fun stopped trigger => answers _ ?_,
      fun stopped paced zero => answers _ ?_, fun stopped paced timed => answers _ ?_⟩
    · rcases rests with e | e <;> rw [displayStart, state _ e]
    · have own : displayStart line (hear p 6 s) =
          displayAnswer .ok (setBus { (hear p 6 s).bus with stopMark := false } (hear p 6 s)) := by
        rcases runs with e | ⟨k, e⟩ <;> rw [displayStart, state _ e]
      rw [own, hear_bus, hear_setBus]
      rfl
    · have e := displayStart_of_stopped (line := line) (state _ stopped)
      have same : startFrames line (setBus (hear p 6 s).bus.started (hear p 6 s)) =
          hear p 6 (setBus started s) := by
        rw [hear_bus, startFrames, show (setBus s.bus.started (hear p 6 s)).bus.pacing = _ from trigger]
        exact hear_setBus p 6 s started
      have rests : (hear p 6 (setBus started s)).restless = false := by
        have : (hear p 6 (setBus started s)).backToBack = false := by simp [started, trigger, State.backToBack]
        simp [State.restless, State.frameDue, this]
      rw [e, same, settleAt_of_rest rests]
      rfl
    · have e := displayStart_of_stopped (line := line) (state _ stopped)
      have same : startFrames line (setBus (hear p 6 s).bus.started (hear p 6 s)) =
          beginFrame line { hear p 6 s with bus := started } := by
        rw [hear_bus, startFrames, show (setBus s.bus.started (hear p 6 s)).bus.pacing = _ from paced]
        exact if_pos ((intervalInForce_started s).trans zero)
      have kept := ((FrameKept.refl (setBus started (hear p 6 s))).beginFrame line).settleAt line
      rw [e, same]
      exact congrArg (displayAnswer .ok) (hear_of_frameKept kept).symm
    · have e := displayStart_of_stopped (line := line) (state _ stopped)
      let v := beginFrame line { hear p 6 s with bus := { started with frameTimer := some s.intervalInForce } }
      have inForce := intervalInForce_started (p := p) s
      have same : startFrames line (setBus (hear p 6 s).bus.started (hear p 6 s)) = v := by
        rw [hear_bus, startFrames, show (setBus s.bus.started (hear p 6 s)).bus.pacing = _ from paced]
        refine (if_neg (mt inForce.symm.trans timed)).trans ?_
        rw [inForce]
        rfl
      have kept := (FrameKept.refl
        (setBus { started with frameTimer := some s.intervalInForce } (hear p 6 s))).beginFrame line
      have rests : v.restless = false :=
        not_restless_of_timed (mt (kept.intervalInForce.trans inForce).symm.trans timed)
      rw [e, same, settleAt_of_rest rests]
      exact congrArg (displayAnswer .ok) (hear_of_frameKept kept).symm
  · intro gives stopped
    have answers (u : State) (own : displayStop s = displayAnswer .ok u) : gives u := by
      show exec _ _ = _
      rw [exec_displayStop_of_admits h, own]
      rfl
    refine ⟨fun e => answers s (by rw [displayStop, e]), fun e => answers stopped ?_, fun e => answers _ ?_⟩
    · rcases e with e | e | ⟨e, out⟩
      · rw [displayStop, e]
        rfl
      · rw [displayStop, e]
        rfl
      · rw [displayStop_of_running e, if_neg (by simp [out])]
        rfl
    · rcases e with ⟨e, progress⟩ | ⟨k, e⟩
      · rw [displayStop_of_running e, if_pos progress]
        rfl
      · rw [displayStop, e]
        rfl

/-! ## RECOVER, FRAME_COUNT and AUTO_RECOVERY (R156, R161) -/

/-- Settles O41. -/
theorem recoverCountAndAutoRecovery : Obligations.RecoverCountAndAutoRecovery := by
  unfold Obligations.RecoverCountAndAutoRecovery
  intro p s h answer
  have recovers {line : ClockLine} {r : Result} {u : State} (own : displayRecover p line s = displayAnswer r u) :
      exec (.displayRecover p line) s = answer r u := by
    rw [exec_displayRecover_of_admits h, own]
    rfl
  have counts {f : FrameCountBody} {r : Result} {u : State} (own : displayFrameCount p f s = displayAnswer r u) :
      exec (.displayFrameCount p f) s = answer r u := by
    rw [exec_displayFrameCount_of_admits h, own]
    rfl
  have autos {f : AutoRecoveryBody} {r : Result} {u : State}
      (own : displayAutoRecovery (.fields f) s = displayAnswer r u) :
      exec (.displayAutoRecovery p (.fields f)) s = answer r u := by
    rw [exec_displayAutoRecovery_of_admits h, own]
    rfl
  refine ⟨fun other => ⟨fun line => recovers (if_pos other), fun f => counts (if_pos other)⟩, fun service =>
    ⟨fun sound line => recovers ?_, fun fault => ⟨recovers ?_, ?_⟩, fun f => counts ?_⟩,
    fun f => ⟨fun unknown => autos ?_, fun on flag => autos ?_⟩⟩
  · unfold displayRecover
    rw [if_neg (not_not_intro service), if_neg sound]
  · unfold displayRecover
    rw [if_neg (not_not_intro service), if_pos fault]
  · refine ⟨count .busRecoveries (setBus { s.bus with state := .recovering .manual } s), recovers ?_, rfl,
      counter_countBy_self _ _ _, fun c out => counter_countBy_of_ne _ _ (by simpa using out),
      changesOnly_iff.mpr (by simp)⟩
    unfold displayRecover
    rw [if_neg (not_not_intro service), if_pos fault]
  · rw [displayFrameCount, if_neg (not_not_intro service)]
    rfl
  · rw [displayAutoRecovery, unknown]
  · rw [displayAutoRecovery, flag]
    rfl

end Sys2Proof.Machine
end

section
/-! PROOFS. The display bus controller: PACING (O42), frame starts (O43), stuck lines and recoveries (O46). -/

namespace Sys2Proof.Machine

variable {s t u : State} {p : Port}

/-! ## PACING (R147, R148) -/

/-- The settings that an accepted PACING stores. -/
def DisplayBus.paced (b : DisplayBus) (pc : Pacing) (po : Polarity) (f : DisplayPacingBody) : DisplayBus :=
  { b with pacing := pc, polarity := po, interval := min f.interval.toNat 60 }

section Paced

variable {f : DisplayPacingBody} {line : DataLine} {pc : Pacing} {po : Polarity}

theorem displayPacing_of_bad (bad : pacingOf f.pacing = none ∨ polarityOf f.polarity = none) :
    displayPacing f line s = displayAnswer .badRequest s := by
  unfold displayPacing
  rcases bad with bad | bad
  · rw [bad]
  · rw [bad]
    cases pacingOf f.pacing <;> rfl

variable (pacing : pacingOf f.pacing = some pc) (polarity : polarityOf f.polarity = some po)

include pacing polarity

theorem displayPacing_trigger (change : pc = .trigger) (was : s.bus.pacing = .trigger) :
    displayPacing f line s = displayAnswer .ok (setBus (s.bus.paced pc po f) s) := by
  subst change
  rw [displayPacing, pacing, polarity, was]
  rfl

theorem displayPacing_to_trigger (change : pc = .trigger) (was : s.bus.pacing = .interval) :
    displayPacing f line s = displayAnswer .ok
      (setBus { s.bus.paced pc po f with frameTimer := none, startDue := false } s) := by
  subst change
  rw [displayPacing, pacing, polarity, was]
  rfl

theorem displayPacing_to_interval (change : pc = .interval) (was : s.bus.pacing = .trigger) :
    displayPacing f line s = displayAnswer .ok
      (settleAt line (intervalPacingTaken line (setBus (s.bus.paced pc po f) s))) := by
  subst change
  rw [displayPacing, pacing, polarity, was]
  rfl

theorem displayPacing_interval (change : pc = .interval) (was : s.bus.pacing = .interval) :
    displayPacing f line s = displayAnswer .ok
      (settleAt line (intervalChanged s.intervalInForce line (setBus (s.bus.paced pc po f) s))) := by
  subst change
  rw [displayPacing, pacing, polarity, was]
  rfl

end Paced

theorem intervalPacingTaken_of_stopped {line : DataLine} (stopped : s.bus.state = .stopped) :
    intervalPacingTaken line s = s := if_pos stopped

theorem intervalPacingTaken_of_timed {line : DataLine} (runs : s.bus.state ≠ .stopped) (timed : s.intervalInForce ≠ 0) :
    intervalPacingTaken line s = setBus { s.bus with frameTimer := some s.intervalInForce } s :=
  (if_neg runs).trans (if_neg timed)

theorem intervalPacingTaken_of_idle {line : DataLine} (idle : s.bus.state = .idle) (zero : s.intervalInForce = 0) :
    intervalPacingTaken line s = beginFrame line s := by
  rw [intervalPacingTaken, if_neg (by rw [idle]; decide), if_pos zero, if_pos idle]

theorem intervalPacingTaken_of_busy {line : DataLine} (runs : s.bus.state ≠ .stopped) (busy : s.bus.state ≠ .idle)
    (zero : s.intervalInForce = 0) : intervalPacingTaken line s = s := by
  rw [intervalPacingTaken, if_neg runs, if_pos zero, if_neg busy]

/-- The interval in force after a PACING, its own frame heard or not. -/
theorem intervalInForce_paced (pc : Pacing) (po : Polarity) (f : DisplayPacingBody) (s : State) :
    (setBus (s.bus.paced pc po f) (hear p 6 s)).intervalInForce = intervalFor (min f.interval.toNat 60) s.supply.state := by
  simp [State.intervalInForce, DisplayBus.paced]

/-- Settles O42: the four changes of pacing, each by the controller's state and the interval in force. -/
theorem pacingHandlesTimer : Obligations.PacingHandlesTimer := by
  unfold Obligations.PacingHandlesTimer
  intro p f line s h gives
  have answers {r : Result} {u : State} (own : displayPacing f line (hear p 6 s) = displayAnswer r (hear p 6 u)) :
      gives r u := exec_displayPacing_of_answer h own
  refine ⟨fun bad => answers (displayPacing_of_bad bad), fun pc po pacing polarity => ?_⟩
  intro b old new
  have bus : (hear p 6 s).bus = s.bus := by simp
  have stored : (hear p 6 s).bus.paced pc po f = b := by rw [bus]; rfl
  have inForce : (setBus b (hear p 6 s)).intervalInForce = new := intervalInForce_paced pc po f s
  have before : (hear p 6 s).intervalInForce = old := by simp [old]
  have was {x : Pacing} (e : s.bus.pacing = x) : (hear p 6 s).bus.pacing = x := by rw [bus, e]
  -- The two changes to INTERVAL pacing, with what the display then does known.
  have taken {v u : State} (change : pc = .interval) (trigger : s.bus.pacing = .trigger)
      (own : intervalPacingTaken line (setBus b (hear p 6 s)) = v) (same : settleAt line v = hear p 6 u) :
      gives .ok u :=
    answers (by rw [displayPacing_to_interval pacing polarity change (was trigger), stored, own, same])
  have changed {v u : State} (change : pc = .interval) (interval : s.bus.pacing = .interval)
      (own : intervalChanged old line (setBus b (hear p 6 s)) = v) (same : settleAt line v = hear p 6 u) :
      gives .ok u :=
    answers (by rw [displayPacing_interval pacing polarity change (was interval), stored, before, own, same])
  -- Nothing begins: the change is one of the controller's fields alone.
  have still (x : DisplayBus) (rests : State.restless (setBus x (hear p 6 s)) = false) :
      settleAt line (setBus x (hear p 6 s)) = hear p 6 { s with bus := x } :=
    (settleAt_of_rest rests line).trans (hear_setBus p 6 s x)
  -- A frame begins with the request's own frame heard.
  have heard (x : DisplayBus) : settleAt line (beginFrame line (setBus x (hear p 6 s))) =
      hear p 6 (settleAt line (beginFrame line { hear p 6 s with bus := x })) :=
    (hear_of_frameKept (((FrameKept.refl (setBus x (hear p 6 s))).beginFrame line).settleAt line)).symm
  have ran : settleAt line (setBus b (hear p 6 s)) = hear p 6 (settleAt line { hear p 6 s with bus := b }) :=
    (hear_of_frameKept ((FrameKept.refl (setBus b (hear p 6 s))).settleAt line)).symm
  have busy {x : DisplayBus} (other : x.state ≠ .idle) : State.restless (setBus x (hear p 6 s)) = false :=
    not_restless_of_not_idle other
  have timed {x : DisplayBus} (same : x.interval = b.interval) (n : new ≠ 0) :
      State.restless (setBus x (hear p 6 s)) = false := by
    have e : (setBus x (hear p 6 s)).intervalInForce = new := by
      rw [← inForce]
      simp only [State.intervalInForce, setBus_bus, setBus_supply, same]
    exact not_restless_of_timed (mt e.symm.trans n)
  refine ⟨fun trigger was' => answers ?_, fun trigger was' => answers ?_, fun interval stopped => ?_,
    fun interval runs n trigger => ?_, fun interval runs n same zero => ?_, fun interval runs same zeros => ?_,
    fun interval idle zero trigger => ?_, fun interval idle zero same nonzero => ?_,
    fun interval busy' runs zero => ⟨fun trigger => ?_, fun same nonzero => ?_⟩⟩
  · rw [displayPacing_trigger pacing polarity trigger (was was'), stored, hear_setBus]
    rfl
  · rw [displayPacing_to_trigger pacing polarity trigger (was was'), stored, hear_setBus]
    rfl
  · have rests := still b (busy (mt stopped.symm.trans (by decide)))
    cases now : s.bus.pacing with
    | trigger => exact taken interval now (intervalPacingTaken_of_stopped stopped) rests
    | interval => exact changed interval now (intervalChanged_of_same (.inr (.inl stopped))) rests
  · have own := intervalPacingTaken_of_timed (line := line) (s := setBus b (hear p 6 s)) runs (mt inForce.symm.trans n)
    rw [inForce] at own
    exact taken interval trigger own (still _ (timed rfl n))
  · have own := intervalChanged_of_start (line := line) (s := setBus b (hear p 6 s)) interval runs zero
      (mt inForce.symm.trans n)
    rw [inForce] at own
    exact changed interval same own (still _ (timed rfl n))
  · exact changed interval same (intervalChanged_of_same (.inr (.inr (by rw [inForce]; exact zeros.symm)))) ran
  · exact taken interval trigger (intervalPacingTaken_of_idle idle (inForce.trans zero)) (heard b)
  · have own := intervalChanged_of_stop (line := line) (s := setBus b (hear p 6 s)) interval
      (mt idle.symm.trans (by decide)) nonzero (inForce.trans zero)
    exact changed interval same (own.trans (if_pos idle)) (heard _)
  · exact taken interval trigger (intervalPacingTaken_of_busy runs busy' (inForce.trans zero)) (still b (busy busy'))
  · have own := intervalChanged_of_stop (line := line) (s := setBus b (hear p 6 s)) interval runs nonzero
      (inForce.trans zero)
    exact changed interval same (own.trans (if_neg busy')) (still _ (busy busy'))

/-! ## Frame starts (R149 to R151) -/

theorem overrun_spec (s : State) :
    (overrun s).bus = s.bus ∧ (overrun s).counter .frameOverruns = s.counterPlus .frameOverruns 1 ∧
      countsOnly [.frameOverruns] s (overrun s) ∧
      (∀ p k, (overrun s).hasNotice p k ↔ s.hasNotice p k ∨ (p = .service ∧ k = .displayOverrun)) ∧
      portsKeptButNotices s (overrun s) ∧ changesOnly [.bus, .counters, .ports] s (overrun s) := by
  refine ⟨rfl, counter_countBy_self _ _ s, fun c out => counter_countBy_of_ne _ s (by simpa using out), fun p k => ?_,
    portsKeptButNotices_post _ (count .frameOverruns s), changesOnly_iff.mpr (by simp [overrun])⟩
  have service : p ∈ Notice.recipients .displayOverrun ↔ p = .service := by cases p <;> decide
  exact hasNotice_post.trans (by rw [service]; rfl)

/-- What O43 says of a frame start raised in `v`, which differs from `s` in the controller alone. -/
theorem frameStart_spec (line : DataLine) {b : DisplayBus} :
    let v : State := { s with bus := b }
    (v.bus.state = .idle → frameStart line v = beginFrame line v) ∧
      (v.bus.state = .running ∨ v.bus.state = .recovering .auto →
        (frameStart line v).bus = v.bus ∧
          (frameStart line v).counter .frameOverruns = s.counterPlus .frameOverruns 1 ∧
          countsOnly [.frameOverruns] s (frameStart line v) ∧
          (∀ p k, (frameStart line v).hasNotice p k ↔ s.hasNotice p k ∨ (p = .service ∧ k = .displayOverrun)) ∧
          portsKeptButNotices s (frameStart line v) ∧ changesOnly [.bus, .counters, .ports] s (frameStart line v)) ∧
      (v.bus.state = .recovering .manual ∨ v.bus.state = .fault ∨ v.bus.state = .stopped → frameStart line v = v) := by
  intro v
  refine ⟨fun idle => by rw [frameStart, idle], fun runs => ?_, fun rests => ?_⟩
  · have own : frameStart line v = overrun v := by rcases runs with e | e <;> rw [frameStart, e]
    obtain ⟨bus, counted, only, posted, ports, changes⟩ := overrun_spec v
    have begun : changesOnly [.bus, .counters, .ports] s v := (setBus_changesOnly b s).mono (by decide)
    rw [own]
    exact ⟨bus, counted, only, posted, ports, begun.trans changes⟩
  · rcases rests with e | e | e <;> rw [frameStart, e]

theorem Polarity.level_iff (po : Polarity) (high : Bool) : high = po.level ↔ (high = true ↔ po = .rising) := by
  cases po <;> cases high <;> decide

theorem gateOpen_iff : s.gateOpen = true ↔ s.bus.firstEdge = true ∨ s.supply.state = .normal ∨
    ∀ n, s.bus.sinceFrame = some n → s.intervalInForce ≤ n := by
  unfold State.gateOpen
  cases s.bus.sinceFrame <;> simp [or_assoc]

/-- An accepted change of the trigger level: the edge named, through the gate, raises a start (R147, R150). -/
theorem triggerEdge_of_change {high : Bool} {line : DataLine} (seen : s.bus.triggerSeen = true)
    (changes : s.bus.triggerHigh ≠ high) : triggerEdge high line s =
      if s.bus.pacing = .trigger ∧ high = s.bus.polarity.level then
        if (setBus { s.bus with triggerHigh := high } s).gateOpen then
          frameStart line (setBus { s.bus with triggerHigh := high, firstEdge := false } s)
        else setBus { s.bus with triggerHigh := high, firstEdge := false } s
      else setBus { s.bus with triggerHigh := high } s := by
  rw [triggerEdge, if_pos ⟨seen, changes⟩]
  rfl

/-- Settles O43: the expiries and the trigger edge as what raises a start, and the start by `frameStart_spec`. -/
theorem frameStartsActByState : Obligations.FrameStartsActByState := by
  unfold Obligations.FrameStartsActByState
  intro s up acts
  have raises {i : Instr} {line : DataLine} {b : DisplayBus}
      (ran : exec i s = .next (settleAt line (frameStart line { s with bus := b }))) :
      acts i line { s with bus := b } := by
    obtain ⟨idle, runs, rests⟩ := frameStart_spec line (s := s) (b := b)
    exact ⟨fun e => by rw [ran, idle e], fun e => ⟨_, ran, runs e⟩, fun e => by rw [ran, rests e]⟩
  have expiry (line : DataLine) : exec (.frameTimerExpiry line) s = .next (settleAt line (frameTimerExpired line s)) :=
    exec_event (i := .frameTimerExpiry line) rfl up
  have edge (high : Bool) (line : DataLine) :
      exec (.triggerEdge high line) s = .next (settleAt line (triggerEdge high line s)) :=
    exec_event (i := .triggerEdge high line) rfl up
  refine ⟨fun line none_ => ?_, fun line ended => raises ?_, fun high line no => ?_,
    fun high line seen changes => ?_, fun i ended => ?_⟩
  · rw [expiry, frameTimerExpired, if_neg (by simp [none_])]
  · rw [expiry, frameTimerExpired, if_pos ended]
    rfl
  · rw [edge, triggerEdge, if_neg (by rcases no with no | no <;> simp [no])]
  · intro named gate
    have level : named ↔ s.bus.pacing = .trigger ∧ high = s.bus.polarity.level :=
      and_congr_right fun _ => (Polarity.level_iff _ high).symm
    have through : (setBus { s.bus with triggerHigh := high } s).gateOpen = true ↔ gate := gateOpen_iff
    have taken := triggerEdge_of_change (line := line) seen changes
    refine ⟨fun other => ?_, fun own shut => ?_, fun own opens => raises ?_⟩
    · rw [edge, taken, if_neg (other ∘ level.mpr)]
      rfl
    · rw [edge, taken, if_pos (level.mp own), if_neg (shut ∘ through.mp)]
      rfl
    · rw [edge, taken, if_pos (level.mp own), if_pos (through.mpr opens)]
      rfl
  · refine ⟨setBus { s.bus with probes := s.bus.probes.set i.val none } s, ?_, by simp, fun j other => ?_, rfl,
      setBus_changesOnly _ s⟩
    · rw [exec_event (i := .probeTimerExpiry i) rfl up, probeTimerExpired, if_pos ended]
      rfl
    · have apart : i.val ≠ j.val := fun e => other (Fin.ext e.symm)
      simp [apart]

/-! ## Stuck lines and the ends of recoveries (R158 to R161) -/

theorem enterFault_spec (c : FaultCause) (s : State) :
    (enterFault c s).bus = { s.bus with
        state := .fault, cause := some c, stopMark := false, list := [], position := 0, startDue := false } ∧
      (∀ p k, (enterFault c s).hasNotice p k ↔ s.hasNotice p k ∨ (p ≠ .terminal ∧ k = .panelBusFault)) ∧
      portsKeptButNotices s (enterFault c s) ∧ changesOnly [.bus, .ports] s (enterFault c s) := by
  refine ⟨rfl, fun p k => ?_, portsKeptButNotices_post .panelBusFault (setBus _ s), enterFault_changesOnly c s⟩
  have told : p ∈ Notice.recipients .panelBusFault ↔ p ≠ .terminal := by cases p <;> decide
  exact hasNotice_post.trans (by rw [told]; rfl)

theorem recoveryEndedAuto_elsewhere {r : RecoveryResult} {line : DataLine} (other : s.bus.state ≠ .recovering .auto) :
    recoveryEndedAuto r line s = s := if_neg other

theorem recoveryEndedManual_elsewhere {r : RecoveryResult} (other : s.bus.state ≠ .recovering .manual) :
    recoveryEndedManual r s = s := if_neg other

/-- Settles O46: FAULT by `enterFault_spec`, a resumed frame by `frameGoesOn_startNext`. -/
theorem stuckClockAndRecoveryEnds : Obligations.StuckClockAndRecoveryEnds := by
  unfold Obligations.StuckClockAndRecoveryEnds
  intro s up faulted stopped
  have faults {i : Instr} {c : FaultCause} (ran : exec i s = .next (enterFault c s)) : faulted i c :=
    ⟨enterFault c s, ran, enterFault_spec c s⟩
  have resting {t : State} (busy : t.bus.state ≠ .idle) (line : DataLine) : settleAt line t = t :=
    settleAt_of_rest (not_restless_of_not_idle busy) line
  have stuck : exec .stuckClock s = .next (settle (stuckClock s)) := exec_event (i := .stuckClock) rfl up
  have auto (r : RecoveryResult) (line : DataLine) :
      exec (.recoveryEndAuto r line) s = .next (settleAt line (recoveryEndedAuto r line s)) :=
    exec_event (i := .recoveryEndAuto r line) rfl up
  have manual (r : RecoveryResult) (line : DataLine) :
      exec (.recoveryEndManual r line) s = .next (settleAt line (recoveryEndedManual r s)) :=
    exec_event (i := .recoveryEndManual r line) rfl up
  have faultRests (c : FaultCause) : (enterFault c s).bus.state ≠ .idle := fun e => nomatch e
  have stopRests : stopped.bus.state ≠ .idle := fun e => nomatch e
  refine ⟨fun runs => faults ?_, fun rests => ?_, fun line => ⟨fun other r => ?_, fun other r => ?_, fun recovers =>
    ⟨faults ?_, fun mark => ?_, fun mark => ?_⟩, fun recovers => ⟨faults ?_, fun mark => ?_, fun mark => ?_⟩⟩⟩
  · have own : stuckClock s = enterFault .stuckClock s := by
      rcases runs with e | ⟨k, e⟩ <;> rw [stuckClock, e]
    rw [stuck, own, settle_of_rest (not_restless_of_not_idle (faultRests _))]
  · have own : stuckClock s = s := by rcases rests with e | e | e <;> rw [stuckClock, e]
    rw [stuck, own]
  · rw [auto, recoveryEndedAuto_elsewhere other]
  · rw [manual, recoveryEndedManual_elsewhere other]
  · rw [auto, recoveryEndedAuto, if_pos recovers]
    exact congrArg Host.Outcome.next (resting (faultRests _) line)
  · rw [auto, recoveryEndedAuto, if_pos recovers]
    refine congrArg Host.Outcome.next ((congrArg (settleAt line) (if_pos mark)).trans ?_)
    exact resting stopRests line
  · refine ⟨startNext line s, ?_, frameGoesOn_startNext line s s.bus.position, startNext_changesOnly line s⟩
    rw [auto, recoveryEndedAuto, if_pos recovers]
    exact congrArg (fun t => Host.Outcome.next (settleAt line t)) (if_neg (by simp [mark]))
  · rw [manual, recoveryEndedManual, if_pos recovers]
    exact congrArg Host.Outcome.next (resting (faultRests _) line)
  · rw [manual, recoveryEndedManual, if_pos recovers]
    refine congrArg Host.Outcome.next ((congrArg (settleAt line) (if_pos mark)).trans ?_)
    exact resting stopRests line
  · rw [manual, recoveryEndedManual, if_pos recovers]
    exact congrArg (fun t => Host.Outcome.next (settleAt line t)) (if_neg (by simp [mark]))

end Sys2Proof.Machine
end

section
/-! PROOFS. A transaction over: its report to the panel's record, and how the frame goes on (O45). -/

namespace Sys2Proof.Machine

variable {s t u : State}

/-! ## What a report does (R139 to R141) -/

/-- A panel's record after a transaction done, by its kind (R139, R141). -/
def Panel.doneWith (r : Panel) (kind : TransactionKind) (st : PanelStatus) (g : GroupState) : Panel :=
  match kind with
  | .sleep => r.slept g
  | .wake => r.woken g
  | .writeRows _ _ => { r with misses := 0 }
  | .readStatus => r.statusRead st g

theorem reportOutcome_of_unconfigured {x : Transaction} (bare : (s.panel x.panel).state = .unconfigured)
    (o : OutcomeReport) : reportOutcome x o s = s := if_pos bare

theorem reportOutcome_disturbed (x : Transaction) (s : State) : reportOutcome x .disturbed s = s := by
  unfold reportOutcome
  dsimp only
  split <;> rfl

theorem reportOutcome_noAck {x : Transaction} (set_ : (s.panel x.panel).state ≠ .unconfigured) :
    reportOutcome x .noAck s = count .panelMisses (setPanel x.panel (s.panel x.panel).missed s) := if_neg set_

/-- Whether a transaction done notices PANEL_FAULT (R141). -/
def State.faultNoticed (s : State) (x : Transaction) (st : PanelStatus) : Bool :=
  decide (x.kind = .readStatus) && (s.panel x.panel).newFault st

theorem reportOutcome_done {x : Transaction} (set_ : (s.panel x.panel).state ≠ .unconfigured) (st : PanelStatus) :
    reportOutcome x (.done st) s =
      if s.faultNoticed x st then
        post .panelFault (setPanel x.panel ((s.panel x.panel).doneWith x.kind st s.compositor.group) s)
      else setPanel x.panel ((s.panel x.panel).doneWith x.kind st s.compositor.group) s := by
  rw [reportOutcome, if_neg set_]
  cases kind : x.kind <;> simp [Panel.doneWith, State.faultNoticed, kind]

/-- The status that two bytes code (R144, R206). -/
theorem decodeStatus_eq (st ck : Byte) : decodeStatus st ck =
    if ck = ~~~st ∧ st = 0x00 then .ok else if ck = ~~~st ∧ st = 0x01 then .lampFault else .other := by
  unfold decodeStatus
  by_cases whole : ck = ~~~st
  · simp only [whole, true_and, if_true]
  · simp [whole]

theorem Panel.slept_eq (r : Panel) (g : GroupState) :
    r.slept g = { r with misses := 0, state := .asleep, pending := if g = .asleep then .none else .wake } := by
  cases g <;> rfl

theorem Panel.woken_eq (r : Panel) (g : GroupState) :
    r.woken g = { r with misses := 0, state := .awake, pending := if g = .asleep then .sleep else .none } := by
  cases g <;> rfl

theorem Panel.statusRead_of_present {r : Panel} (present : r.state ≠ .absent) (st : PanelStatus) (g : GroupState) :
    r.statusRead st g = { r with misses := 0, lastStatus := st } := by
  unfold Panel.statusRead
  cases state : r.state with
  | absent => exact absurd state present
  | _ => rfl

theorem Panel.statusRead_of_absent {r : Panel} (absent : r.state = .absent) (st : PanelStatus) (g : GroupState) :
    r.statusRead st g = { r with
      misses := 0, lastStatus := st, state := .awake, pending := if g = .asleep then .sleep else .none } := by
  unfold Panel.statusRead
  rw [absent]
  cases g <;> rfl

theorem Panel.missed_eq (r : Panel) : (r.misses ≤ 1 → r.missed = { r with misses := r.misses + 1 }) ∧
    (2 ≤ r.misses → r.missed = { r with misses := 3, state := .absent, pending := .none }) :=
  ⟨fun few => if_neg (by omega), fun many => if_pos (by omega)⟩

/-! ## How the frame goes on (R154, R164) -/

/-- What follows a finished transaction. -/
theorem afterTransaction_spec (line : DataLine) (v : State) :
    (v.bus.stopMark = true → afterTransaction line v = { v with bus :=
      { v.bus with
        state := .stopped, cause := none, runMark := false, stopMark := false, frameTimer := none
        list := [], position := 0, startDue := false } }) ∧
    (v.bus.stopMark = false → frameGoesOn line v (afterTransaction line v) (v.bus.position + 1)) ∧
    changesOnly [.bus, .counters, .ports] v (afterTransaction line v) := by
  refine ⟨fun mark => if_pos mark, fun mark => ?_, afterTransaction_changesOnly line v⟩
  rw [afterTransaction, if_neg (by simp [mark])]
  exact frameGoesOn_startNext line v (v.bus.position + 1)

/-- A transaction done (R139, R141): the record, its notice, and what stays. -/
theorem reportOutcome_done_spec (x : Transaction) (st : PanelStatus) (s : State) :
    let v := reportOutcome x (.done st) s
    let r := s.panel x.panel
    v.panel x.panel = (if r.state = .unconfigured then r else r.doneWith x.kind st s.compositor.group) ∧
      postsOnly (fun p k => p = .service ∧ k = .panelFault ∧ x.kind = .readStatus ∧ r.state ≠ .unconfigured ∧
        st ≠ .ok ∧ st ≠ r.lastStatus) s v ∧
      (∀ i, i ≠ x.panel → v.panel i = s.panel i) ∧
      v.compositor = { s.compositor with panels := v.compositor.panels } ∧ changesOnly [.compositor, .ports] s v := by
  intro v r
  by_cases bare : r.state = .unconfigured
  · have own : v = s := reportOutcome_of_unconfigured bare _
    rw [own, if_pos bare]
    exact ⟨rfl, postsOnly_refl rfl fun p k h => h.2.2.2.1 bare, fun _ _ => rfl, rfl, changesOnly_refl _ s⟩
  · obtain ⟨here, others, rest, changes⟩ := setPanel_spec x.panel (r.doneWith x.kind st s.compositor.group) s
    have own : v = if s.faultNoticed x st then _ else _ := reportOutcome_done bare st
    have fault : s.faultNoticed x st = true ↔ x.kind = .readStatus ∧ st ≠ .ok ∧ st ≠ r.lastStatus := by
      simp [State.faultNoticed, Panel.newFault, r]
    have changes' := changes.mono (m := [.compositor, .ports]) (by decide)
    rw [if_neg bare]
    by_cases noticed : s.faultNoticed x st = true
    · rw [if_pos noticed] at own
      rw [own]
      refine ⟨here, ⟨fun p k => ?_, portsKeptButNotices_post .panelFault (setPanel _ _ s)⟩, others, rest,
        changes'.trans ((post_changesOnly _ _).mono (by decide))⟩
      have service : p ∈ Notice.recipients .panelFault ↔ p = .service := by cases p <;> decide
      rw [hasNotice_post, service]
      exact or_congr Iff.rfl ⟨fun ⟨own, kind⟩ => ⟨own, kind, (fault.mp noticed).1, bare, (fault.mp noticed).2⟩,
        fun ⟨own, kind, _⟩ => ⟨own, kind⟩⟩
    · rw [if_neg noticed] at own
      rw [own]
      exact ⟨here, postsOnly_refl rfl fun p k ⟨_, _, kind, _, differs⟩ => noticed (fault.mpr ⟨kind, differs⟩), others,
        rest, changes'⟩

/-- Settles O45: each outcome by its report and `afterTransaction_spec`. -/
theorem transactionEndsAndFrameGoesOn : Obligations.TransactionEndsAndFrameGoesOn := by
  unfold Obligations.TransactionEndsAndFrameGoesOn
  intro s up
  have ends (e : TransactionEnd) (line : DataLine) :
      exec (.transactionEnd e line) s = .next (settleAt line (transactionEnded e line s)) :=
    exec_event (i := .transactionEnd e line) rfl up
  have disturbs (line : DataLine) : exec (.busDisturbed line) s = .next (settleAt line (busDisturbed line s)) :=
    exec_event (i := .busDisturbed line) rfl up
  refine ⟨fun none_ e line => ⟨?_, ?_⟩, fun x progress => ?_⟩
  · rw [ends, transactionEnded, none_]
  · rw [disturbs, busDisturbed, none_]
  intro r asleep goesOn
  refine ⟨fun st ck line => ?_, fun line => ?_, fun line => ⟨afterTransaction line s, ?_, afterTransaction_spec line s⟩⟩
  · obtain ⟨v, v_def⟩ : ∃ v, v = reportOutcome x (.done (decodeStatus st ck)) s := ⟨_, rfl⟩
    have reported := reportOutcome_done_spec x (decodeStatus st ck) s
    rw [← v_def] at reported
    obtain ⟨record, posted, others, rest, changes⟩ := reported
    refine ⟨v, afterTransaction line v, ?_, ⟨?_, fun set_ => ?_, ?_⟩, others, rest, changes, afterTransaction_spec line v⟩
    · rw [ends, transactionEnded, progress, v_def]
    · exact fun bare => record.trans (if_pos bare)
    · replace record := record.trans (if_neg set_)
      refine ⟨fun kind => ?_, fun kind => ?_, fun b rows kind => ?_, fun kind => ⟨fun present => ?_, fun absent => ?_⟩⟩ <;>
        rw [kind] at record
      · exact record.trans (Panel.slept_eq r _)
      · exact record.trans (Panel.woken_eq r _)
      · exact record
      · rw [← decodeStatus_eq]
        exact record.trans (Panel.statusRead_of_present present _ _)
      · rw [← decodeStatus_eq]
        exact record.trans (Panel.statusRead_of_absent absent _ _)
    · rw [← decodeStatus_eq]
      exact posted
  · obtain ⟨v, v_def⟩ : ∃ v, v = restartProbe x.panel (reportOutcome x .noAck s) := ⟨_, rfl⟩
    have probes (w : State) (same : w.bus = s.bus) : (∀ i : Fin 8, (restartProbe x.panel w).bus.probes[i] =
          if i = x.panel then some 60 else s.bus.probes[i]) ∧
        (restartProbe x.panel w).bus = { s.bus with probes := (restartProbe x.panel w).bus.probes } := by
      refine ⟨fun i => ?_, by simp only [restartProbe, setBus_bus, same]⟩
      simp only [restartProbe, setBus_bus, same]
      by_cases own : i = x.panel
      · subst own
        simp
      · have apart : x.panel.val ≠ i.val := fun e => own (Fin.ext e.symm)
        simp [own, apart]
    have ran : exec (.transactionEnd .noAck line) s = .next (settleAt line (afterTransaction line v)) := by
      rw [ends, transactionEnded, progress, v_def]
    have started (w : State) : changesOnly [.compositor, .bus, .counters] w (restartProbe x.panel w) :=
      (setBus_changesOnly _ w).mono (by decide)
    by_cases bare : r.state = .unconfigured
    · have own : v = restartProbe x.panel s := by rw [v_def, reportOutcome_of_unconfigured bare]
      obtain ⟨timers, bus⟩ := probes s rfl
      refine ⟨v, _, ran, fun _ => ?_, fun set_ => absurd bare set_, fun i _ => ?_, ?_, fun i => ?_, ?_, ?_,
        afterTransaction_spec line v⟩ <;> rw [own]
      · exact ⟨rfl, rfl⟩
      · rfl
      · rfl
      · exact timers i
      · exact bus
      · exact started s
    · have own : v = restartProbe x.panel (count .panelMisses (setPanel x.panel r.missed s)) := by
        rw [v_def, reportOutcome_noAck bare]
      obtain ⟨here, others, rest, changes⟩ := setPanel_spec x.panel r.missed s
      obtain ⟨timers, bus⟩ := probes (count .panelMisses (setPanel x.panel r.missed s)) rfl
      refine ⟨v, _, ran, fun unset => absurd unset bare, fun _ => ⟨?_, fun c out => ?_, fun few => ?_, fun many => ?_⟩,
        fun i other => ?_, ?_, fun i => ?_, ?_, ?_, afterTransaction_spec line v⟩ <;> rw [own]
      · exact counter_countBy_self _ _ (setPanel x.panel r.missed s)
      · exact counter_countBy_of_ne _ (setPanel x.panel r.missed s) (by simpa using out)
      · exact here.trans (r.missed_eq.1 few)
      · exact here.trans (r.missed_eq.2 many)
      · exact others i other
      · exact rest
      · exact timers i
      · exact bus
      · exact ((changes.mono (by decide)).trans ((count_changesOnly _ _).mono (by decide))).trans (started _)
  · rw [disturbs, busDisturbed, progress]
    exact congrArg (fun w => Host.Outcome.next (settleAt line (afterTransaction line w))) (reportOutcome_disturbed x s)

end Sys2Proof.Machine
end

section
/-! PROOFS. What a frame shows: the message in force, the order of the calls, the rows, and the transaction list
(R127 to R133, R152). -/

namespace Sys2Proof.Machine

variable {s : State}

/-! ## The message in force (R130) -/

theorem messageNow_eq (s : State) : s.messageNow =
    if s.clock.valid = false then some .timeUnknown
    else if s.store.today = none then some .noTimetable
    else if s.sales.reasons ≠ [] ∨ s.sales.silent = true then some .salesClosed
    else if s.store.displayable = [] then some .noMoreTrains
    else none := by
  have closed : (s.sales.isOpen = false) = (s.sales.reasons ≠ []) := by simp [Sales.isOpen]
  simp only [State.messageNow, closed, Option.isNone_iff_eq_none, List.isEmpty_iff]

/-! ## The order of calls (R128) -/

/-- The order of `displayBefore` as a relation. -/
def showsBefore (now : Nat) (a b : Call) : Prop := displayBefore now a b = true

theorem showsBefore_iff {now : Nat} {a b : Call} : showsBefore now a b ↔
    a.displayKey now < b.displayKey now ∨ (a.displayKey now = b.displayKey now ∧
      (a.scheduled < b.scheduled ∨ (a.scheduled = b.scheduled ∧ a.service ≤ b.service))) :=
  decide_eq_true_iff

theorem insertCall_perm (now : Nat) (c : Call) (l : List Call) : (insertCall now c l).Perm (c :: l) := by
  induction l with
  | nil => exact List.Perm.refl _
  | cons d ds ih =>
    unfold insertCall
    split
    · exact List.Perm.refl _
    · exact (ih.cons d).trans (List.Perm.swap c d ds)

theorem displayOrder_perm (now : Nat) (l : List Call) : (displayOrder now l).Perm l := by
  induction l with
  | nil => exact List.Perm.refl _
  | cons c cs ih => exact (insertCall_perm now c _).trans (ih.cons c)

/-- A call put into its place keeps a list in order. -/
theorem insertCall_ordered {now : Nat} (c : Call) {l : List Call} (order : l.Pairwise (showsBefore now)) :
    (insertCall now c l).Pairwise (showsBefore now) := by
  induction l with
  | nil => exact List.pairwise_singleton _ _
  | cons d ds ih =>
    obtain ⟨first, rest⟩ := List.pairwise_cons.mp order
    unfold insertCall
    split
    next before =>
      refine List.pairwise_cons.mpr ⟨fun e held => ?_, order⟩
      rcases List.mem_cons.mp held with rfl | held
      · exact before
      · have a := showsBefore_iff.mp before
        have b := showsBefore_iff.mp (first e held)
        exact showsBefore_iff.mpr (by omega)
    next after =>
      have a : ¬ showsBefore now c d := after
      rw [showsBefore_iff] at a
      refine List.pairwise_cons.mpr ⟨fun e held => ?_, ih rest⟩
      rcases List.mem_cons.mp ((insertCall_perm now c ds).mem_iff.mp held) with rfl | held
      · exact showsBefore_iff.mpr (by omega)
      · exact first e held

theorem displayOrder_ordered (now : Nat) (l : List Call) : (displayOrder now l).Pairwise (showsBefore now) := by
  induction l with
  | nil => exact List.Pairwise.nil
  | cons c cs ih => exact insertCall_ordered c ih

theorem admits_eq (d : PanelDirections) (c : Direction) :
    d.admits c = decide (d = .both ∨ (d = .up ∧ c = .up) ∨ (d = .down ∧ c = .down)) := by
  cases d <;> cases c <;> decide

/-! ## The rows of a panel (R131) -/

theorem padRows_eq {k n : Nat} (le : k ≤ n) (rows : List Row) :
    padRows k rows = (rows ++ List.replicate n Row.blank).take k := by
  rw [padRows, List.take_append, List.take_replicate, Nat.min_eq_left (by omega)]

theorem length_padRows (k : Nat) (rows : List Row) : (padRows k rows).length = k := by
  simp only [padRows, List.length_append, List.length_take, List.length_replicate]
  omega

/-- How the rows fill, by the number of rows and the message (R131). -/
theorem fillRows_spec (n : Nat) (rows : List Row) (message : Option Message) :
    (2 ≤ n → ∀ m, message = some m →
      fillRows n rows message = (rows ++ List.replicate n Row.blank).take (n - 1) ++ [Row.message m]) ∧
    (2 ≤ n → message = none → fillRows n rows message = (rows ++ List.replicate n Row.blank).take n) ∧
    (n ≤ 1 → ∀ c, rows.head? = some c → fillRows n rows message = [c]) ∧
    (n ≤ 1 → rows = [] → ∀ m, message = some m → fillRows n rows message = [Row.message m]) ∧
    (n ≤ 1 → rows = [] → message = none → fillRows n rows message = [Row.blank]) := by
  refine ⟨fun many m e => ?_, fun many e => ?_, fun one c e => ?_, fun one e m em => ?_, fun one e em => ?_⟩
  · subst e
    exact (if_pos many).trans (congrArg (· ++ [Row.message m]) (padRows_eq (by omega) rows))
  · subst e
    exact (if_pos many).trans (padRows_eq (Nat.le_refl _) rows)
  · cases rows with
    | nil => simp at e
    | cons d ds =>
      obtain rfl : d = c := by simpa using e
      exact if_neg (by omega)
  · subst e em
    exact if_neg (by omega)
  · subst e em
    exact if_neg (by omega)

theorem length_fillRows (n : Nat) (rows : List Row) (message : Option Message) :
    (fillRows n rows message).length = max 1 n := by
  unfold fillRows
  split
  next many =>
    cases message <;> simp only [length_padRows, List.length_append, List.length_singleton] <;> omega
  next few => split <;> simp only [List.length_singleton] <;> omega

/-! ## The panels given rows (R127) -/

/-- The first of an ascending list that meets a test. -/
theorem mem_take_one_filter {n : Nat} {p : Fin n → Bool} {l : List (Fin n)} (rising : l.Pairwise (· < ·)) {i : Fin n} :
    i ∈ (l.filter p).take 1 ↔ i ∈ l ∧ p i = true ∧ ∀ j ∈ l, j < i → p j = false := by
  induction l with
  | nil => simp
  | cons x xs ih =>
    obtain ⟨first, rest⟩ := List.pairwise_cons.mp rising
    cases px : p x with
    | true =>
      rw [List.filter_cons_of_pos px]
      simp only [List.take_succ_cons, List.take_zero, List.mem_singleton]
      constructor
      · rintro rfl
        refine ⟨List.mem_cons_self .., px, fun j held below => ?_⟩
        rcases List.mem_cons.mp held with rfl | held
        · exact absurd below (Nat.lt_irrefl _)
        · exact absurd (Nat.lt_trans below (first j held)) (Nat.lt_irrefl _)
      · rintro ⟨held, -, none_⟩
        rcases List.mem_cons.mp held with rfl | held
        · rfl
        · exact absurd (px.symm.trans (none_ x (List.mem_cons_self ..) (first i held))) (by decide)
    | false =>
      rw [List.filter_cons_of_neg (by simp [px]), ih rest]
      constructor
      · rintro ⟨held, pi, none_⟩
        refine ⟨List.mem_cons_of_mem _ held, pi, fun j h below => ?_⟩
        rcases List.mem_cons.mp h with rfl | h
        · exact px
        · exact none_ j h below
      · rintro ⟨held, pi, none_⟩
        refine ⟨?_, pi, fun j h below => none_ j (List.mem_cons_of_mem _ h) below⟩
        rcases List.mem_cons.mp held with rfl | held
        · exact absurd (px.symm.trans pi) (by decide)
        · exact held

theorem mem_allPanels (i : Fin 8) : i ∈ allPanels := by revert i; decide

theorem allPanels_rising : allPanels.Pairwise (· < ·) := by decide

/-- A panel is given rows when it is entitled and, in RESERVE, no lower-addressed one is (R127). -/
theorem mem_rowPanels {i : Fin 8} : i ∈ s.rowPanels ↔ (s.panel i).entitled = true ∧
    (s.supply.state ≠ .reserve ∨ ∀ j, j < i → (s.panel j).entitled = false) := by
  unfold State.rowPanels
  dsimp only
  split
  next reserve =>
    rw [mem_take_one_filter allPanels_rising]
    simp [mem_allPanels, reserve]
  next other => simp [mem_allPanels, other]

/-! ## The list of a frame (R152) -/

section FrameList

variable {routine : Bool} {i : Fin 8} {x : Transaction}

/-- The transactions of one panel, in their order. -/
theorem panelTransactions_eq (s : State) (routine : Bool) (i : Fin 8) : s.panelTransactions routine i =
    if (s.panel i).configured then
      (if (s.panel i).pending = .sleep then [⟨i, .sleep⟩]
       else if (s.panel i).pending = .wake then [⟨i, .wake⟩] else []) ++
      (if i ∈ s.rowPanels then [⟨i, .writeRows (min (s.panel i).brightness (brightnessCap s.supply.state))
        (s.rowsFor (s.panel i))⟩] else []) ++
      (if routine = true ∧ ((s.panel i).state = .awake ∨ (s.panel i).state = .asleep) then [⟨i, .readStatus⟩] else []) ++
      (if s.placesProbe i then [⟨i, .readStatus⟩] else [])
    else [] := by
  unfold State.panelTransactions State.rowSet
  dsimp only
  split
  · congr 3
    · cases (s.panel i).pending <;> rfl
    · split <;> simp_all
  · rfl

/-- What a transaction of a panel's part of the list says of the panel. -/
theorem mem_panelTransactions (h : x ∈ s.panelTransactions routine i) :
    x.panel = i ∧ (s.panel i).configured = true ∧ ∀ b rows, x.kind = .writeRows b rows →
      i ∈ s.rowPanels ∧ b = min (s.panel i).brightness (brightnessCap s.supply.state) ∧ rows = s.rowsFor (s.panel i) := by
  rw [panelTransactions_eq] at h
  split at h
  next set_ =>
    simp only [List.mem_append] at h
    rcases h with ((h | h) | h) | h
    · split at h
      · obtain rfl := List.mem_singleton.mp h
        exact ⟨rfl, set_, fun _ _ e => nomatch e⟩
      · split at h
        · obtain rfl := List.mem_singleton.mp h
          exact ⟨rfl, set_, fun _ _ e => nomatch e⟩
        · cases h
    · split at h
      · obtain rfl := List.mem_singleton.mp h
        refine ⟨rfl, set_, fun b rows e => ?_⟩
        obtain ⟨rfl, rfl⟩ := TransactionKind.writeRows.inj e
        exact ⟨‹_›, rfl, rfl⟩
      · cases h
    · split at h
      · obtain rfl := List.mem_singleton.mp h
        exact ⟨rfl, set_, fun _ _ e => nomatch e⟩
      · cases h
    · split at h
      · obtain rfl := List.mem_singleton.mp h
        exact ⟨rfl, set_, fun _ _ e => nomatch e⟩
      · cases h
  · cases h

/-- A panel has at most three transactions in a frame: a routine status read and a probe exclude each other. -/
theorem length_panelTransactions (s : State) (routine : Bool) (i : Fin 8) :
    (s.panelTransactions routine i).length ≤ 3 := by
  have apart : s.placesProbe i = true → ¬ (routine = true ∧ ((s.panel i).state = .awake ∨ (s.panel i).state = .asleep)) := by
    simp only [State.placesProbe, Bool.and_eq_true, decide_eq_true_eq]
    rintro ⟨⟨-, absent⟩, -⟩ ⟨-, present⟩
    rw [absent] at present
    exact present.elim (fun e => nomatch e) (fun e => nomatch e)
  have one {P : Prop} [Decidable P] (y : Transaction) : (if P then [y] else []).length ≤ 1 := by split <;> simp
  have command : (if (s.panel i).pending = .sleep then [(⟨i, .sleep⟩ : Transaction)]
      else if (s.panel i).pending = .wake then [⟨i, .wake⟩] else []).length ≤ 1 := by
    split
    · simp
    · exact one _
  rw [panelTransactions_eq]
  split
  · simp only [List.length_append]
    have rows := one (P := i ∈ s.rowPanels) ⟨i, .writeRows (min (s.panel i).brightness (brightnessCap s.supply.state))
      (s.rowsFor (s.panel i))⟩
    by_cases probe : s.placesProbe i = true
    · rw [if_pos probe, if_neg (apart probe)]
      simp only [List.length_nil, List.length_singleton]
      omega
    · rw [if_neg probe]
      have read := one (P := routine = true ∧ ((s.panel i).state = .awake ∨ (s.panel i).state = .asleep))
        ⟨i, .readStatus⟩
      simp only [List.length_nil]
      omega
  · simp

theorem mem_buildList : x ∈ s.buildList routine ↔ x ∈ s.panelTransactions routine x.panel := by
  refine ⟨fun h => ?_, fun h => List.mem_flatMap.mpr ⟨x.panel, mem_allPanels _, h⟩⟩
  obtain ⟨i, -, held⟩ := List.mem_flatMap.mp h
  obtain rfl := (mem_panelTransactions held).1
  exact held

theorem length_buildList (s : State) (routine : Bool) : (s.buildList routine).length ≤ 24 := by
  have parts := length_panelTransactions s routine
  simp only [State.buildList, allPanels, List.flatMap_cons, List.flatMap_nil, List.length_append, List.length_nil]
  have := parts 0; have := parts 1; have := parts 2; have := parts 3
  have := parts 4; have := parts 5; have := parts 6; have := parts 7
  omega

/-- The list stands in address order. -/
theorem buildList_rising (s : State) (routine : Bool) :
    (s.buildList routine).Pairwise (fun a b => a.panel ≤ b.panel) := by
  refine List.pairwise_flatMap.mpr ⟨fun i _ => ?_, allPanels_rising.imp fun below a ha b hb => ?_⟩
  · refine List.pairwise_of_forall_mem_list fun a ha b hb => ?_
    exact Nat.le_of_eq (congrArg Fin.val ((mem_panelTransactions ha).1.trans (mem_panelTransactions hb).1.symm))
  · rw [(mem_panelTransactions ha).1, (mem_panelTransactions hb).1]
    exact Nat.le_of_lt below

theorem allPanels_nodup : allPanels.Nodup := by decide

/-- Of a list whose members each come once, one member alone gives its part. -/
theorem flatMap_only {α β : Type} [DecidableEq α] {l : List α} (once : l.Nodup) {i : α} (held : i ∈ l) (part : List β) :
    (l.flatMap fun j => if j = i then part else []) = part := by
  induction l with
  | nil => cases held
  | cons j js ih =>
    obtain ⟨first, rest⟩ := List.nodup_cons.mp once
    rw [List.flatMap_cons]
    rcases List.mem_cons.mp held with rfl | held
    · have others : (js.flatMap fun j => if j = i then part else []) = [] :=
        List.flatMap_eq_nil_iff.mpr fun j hj => if_neg fun e => first (by rwa [e] at hj)
      rw [if_pos rfl, others, List.append_nil]
    · have other : j ≠ i := fun e => first (e ▸ held)
      rw [if_neg other, ih rest held, List.nil_append]

/-- A panel's transactions in the list are its own part. -/
theorem filter_buildList (s : State) (routine : Bool) (i : Fin 8) :
    (s.buildList routine).filter (fun t => decide (t.panel = i)) = s.panelTransactions routine i := by
  have part (j : Fin 8) : (s.panelTransactions routine j).filter (fun t => decide (t.panel = i)) =
      if j = i then s.panelTransactions routine i else [] := by
    split
    next own =>
      subst own
      exact List.filter_eq_self.mpr fun t ht => decide_eq_true (mem_panelTransactions ht).1
    next other =>
      exact List.filter_eq_nil_iff.mpr fun t ht => by simp [(mem_panelTransactions ht).1, other]
  rw [State.buildList, List.filter_flatMap]
  simp only [part]
  exact flatMap_only allPanels_nodup (mem_allPanels i) _

end FrameList

end Sys2Proof.Machine
end

section
/-! PROOFS. A frame that begins, and frames that run back to back (R149, R152 to R157). -/

namespace Sys2Proof.Machine

variable {s t u : State} {line : DataLine}

/-! ## A frame that begins -/

/-- A completion speaks of no controller state before it. -/
theorem frameCompletes_of_state {x : BusState} (h : frameCompletes (setBus { s.bus with state := x } s) u) :
    frameCompletes s u := by
  obtain ⟨endless, counted, sent, others, posted, changed⟩ := h
  exact ⟨endless, counted, sent, others, posted, ((setBus_changesOnly _ s).mono (by decide)).trans changed⟩

/-- A line test speaks of no controller state before it. -/
theorem lineTested_of_state {x : BusState} (h : lineTested line (setBus { s.bus with state := x } s) u) :
    lineTested line s u := by
  obtain ⟨released, first, again⟩ := h
  refine ⟨released, fun low on fresh => ?_, fun low off => ?_⟩
  · obtain ⟨bus, recovered, others, changed⟩ := first low on fresh
    exact ⟨bus, recovered, others, ((setBus_changesOnly _ s).mono (by decide)).trans changed⟩
  · obtain ⟨bus, posted, changed⟩ := again low off
    exact ⟨bus, posted, ((setBus_changesOnly _ s).mono (by decide)).trans changed⟩

theorem beginFrame_of_empty (h : s.buildList s.routineFrame = []) (line : DataLine) :
    beginFrame line s = completeFrame (buildFrame s) := by
  have empty : (buildFrame s).bus.list = [] := h
  unfold beginFrame startNext
  dsimp only
  rw [empty]
  exact if_pos (Nat.zero_le _)

/-- A WRITE_ROWS of a list goes to an entitled panel. -/
theorem entitled_of_writeRows {routine : Bool} {x : Transaction} {b : Nat} {rows : List Row}
    (held : x ∈ s.buildList routine) (kind : x.kind = .writeRows b rows) : (s.panel x.panel).entitled = true :=
  (mem_rowPanels.mp ((mem_panelTransactions (mem_buildList.mp held)).2.2 b rows kind).1).1

theorem lineTested_beginFrame (h : s.buildList s.routineFrame ≠ []) (line : DataLine) :
    lineTested line (buildFrame s) (beginFrame line s) := by
  obtain ⟨x, xs, list⟩ := List.exists_cons_of_ne_nil h
  have first : (buildFrame s).bus.list[0]? = some x := by
    show (s.buildList s.routineFrame)[0]? = some x
    rw [list]
    rfl
  have keeps : ¬ (buildFrame s).passesOver x := by
    rintro ⟨⟨b, rows, kind⟩, off⟩
    have held : x ∈ s.buildList s.routineFrame := by rw [list]; exact List.mem_cons_self ..
    exact absurd ((entitled_of_writeRows held kind).symm.trans off) (by decide)
  exact (frameGoesOn_startNext line (buildFrame s) 0 0 fun j lt => absurd lt (Nat.not_lt_zero j)).2 x first keeps

/-! ## Frames back to back -/

theorem frameDue_iff : s.frameDue = true ↔ s.bus.startDue = true ∧ s.bus.state = .idle ∧ s.backToBack = true := by
  simp [State.frameDue, and_assoc]

theorem not_idle_of_lineTested (h : lineTested line s u) : u.bus.state ≠ .idle := by
  obtain ⟨released, first, again⟩ := h
  cases line with
  | released => rw [released rfl]; simp
  | low =>
    by_cases fresh : s.bus.autoRecovery = true ∧ s.bus.tried = false
    · rw [(first rfl fresh.1 fresh.2).1]; simp
    · rw [(again rfl (by cases on : s.bus.autoRecovery <;> simp_all)).1]; simp

/-- After a frame whose list holds a transaction no other frame is due. -/
theorem list_empty_of_frameDue (h : (beginFrame line s).frameDue = true) : s.buildList s.routineFrame = [] := by
  refine Decidable.byContradiction fun held => ?_
  exact not_idle_of_lineTested (lineTested_beginFrame held line) (frameDue_iff.mp h).2.1

/-- With none of its transactions placed, a frame leaves every probe timer as it was. -/
theorem probes_of_empty {routine : Bool} (h : s.buildList routine = []) :
    Vector.ofFn (fun i => if s.placesProbe i then some 60 else s.bus.probes[i]) = s.bus.probes := by
  have places (i : Fin 8) : s.placesProbe i = false := by
    refine Bool.eq_false_iff.mpr fun probe => ?_
    have set_ : (s.panel i).configured = true := by
      simp only [State.placesProbe, Bool.and_eq_true] at probe
      exact probe.1.1
    have held : (⟨i, .readStatus⟩ : Transaction) ∈ s.panelTransactions routine i := by
      rw [panelTransactions_eq, if_pos set_, if_pos probe]
      simp
    exact absurd (mem_buildList.mpr held) (by simp [h])
  refine Vector.ext fun i lt => ?_
  rw [Vector.getElem_ofFn, if_neg (by simp [places])]
  rfl

/-- What a list is built from. -/
theorem buildList_congr (panels : t.compositor.panels = s.compositor.panels) (clock : t.clock = s.clock)
    (store : t.store = s.store) (sales : t.sales = s.sales) (supply : t.supply = s.supply)
    (probes : t.bus.probes = s.bus.probes) (routine : Bool) : t.buildList routine = s.buildList routine := by
  have panel (i : Fin 8) : t.panel i = s.panel i := by simp only [State.panel, panels]
  have rows (r : Panel) : t.rowsFor r = s.rowsFor r := by
    simp only [State.rowsFor, State.messageNow, clock, store, sales]
  have given : t.rowPanels = s.rowPanels := by simp only [State.rowPanels, panel, supply]
  have probe (i : Fin 8) : t.placesProbe i = s.placesProbe i := by simp only [State.placesProbe, panel, probes]
  refine congrArg (allPanels.flatMap ·) (funext fun i => ?_)
  rw [panelTransactions_eq, panelTransactions_eq, panel, given, rows, probe, supply]

/-- A state in an endless run of frames back to back, with the next start due. -/
structure EndlessDue (s : State) : Prop where
  due : s.frameDue = true
  endless : s.bus.remaining = none

/-- The frame of a list that is empty, in an endless run: it completes, and the next start is due. -/
theorem endless_frame (h : EndlessDue s) (empty : s.buildList s.routineFrame = []) (line : DataLine) :
    beginFrame line s =
      { s with
        compositor := { s.compositor with message := s.messageNow }
        counters := (count .framesSent s).counters
        bus :=
          { s.bus with
            cause := none, cycle := if s.routineFrame then 0 else s.bus.cycle + 1, tried := false
            list := [], position := 0, sinceFrame := some 0 } } := by
  obtain ⟨start, idle, back⟩ := frameDue_iff.mp h.due
  have ends : completeFrame (buildFrame s) = enterIdle (count .framesSent (buildFrame s)) := by
    have r : (buildFrame s).bus.remaining = none := h.endless
    simp only [completeFrame, count_bus, r]
  rw [beginFrame_of_empty empty, ends]
  have next : (count .framesSent (buildFrame s)).backToBack = s.bus.startDue := back.trans start.symm
  unfold enterIdle
  rw [next]
  simp only [setBus, count_bus, buildFrame, setMessage, probes_of_empty empty, empty, idle]
  rfl

theorem endlessDue_beginFrame (h : EndlessDue s) (empty : s.buildList s.routineFrame = []) (line : DataLine) :
    EndlessDue (beginFrame line s) := by
  rw [endless_frame h empty]
  exact ⟨h.due, h.endless⟩

theorem buildList_beginFrame (h : EndlessDue s) (empty : s.buildList s.routineFrame = []) (line : DataLine)
    (routine : Bool) : (beginFrame line s).buildList routine = s.buildList routine := by
  rw [endless_frame h empty]
  exact buildList_congr rfl rfl rfl rfl rfl rfl routine

theorem cycle_beginFrame (h : EndlessDue s) (empty : s.buildList s.routineFrame = []) (line : DataLine) :
    (beginFrame line s).bus.cycle = if s.routineFrame then 0 else s.bus.cycle + 1 := by
  rw [endless_frame h empty]

/-! ## How long a run of due frames lasts -/

theorem frameDue_of_takeDue {k : Nat} (h : (takeDue line k s).frameDue = true) : s.frameDue = true := by
  refine Decidable.byContradiction fun rest => ?_
  rw [takeDue_of_rest (by simpa using rest)] at h
  exact rest h

theorem takeDue_of_due (h : s.frameDue = true) (line : DataLine) (k : Nat) :
    takeDue line (k + 1) s = takeDue line k (beginFrame line s) := if_pos h

/-- The first frame of a run that outlasts it has an empty list, and the run goes on. -/
theorem takeDue_succ_due {k : Nat} (h : (takeDue line (k + 1) s).frameDue = true) (endless : s.bus.remaining = none) :
    EndlessDue s ∧ s.buildList s.routineFrame = [] ∧ (takeDue line k (beginFrame line s)).frameDue = true := by
  have due := frameDue_of_takeDue h
  rw [takeDue_of_due due] at h
  exact ⟨⟨due, endless⟩, list_empty_of_frameDue (frameDue_of_takeDue h), h⟩

/-- An endless run that completes its status cycle and goes on has an empty list with status reads. -/
theorem list_true_empty {k : Nat} : ∀ {s : State}, (takeDue line (k + 1) s).frameDue = true →
    s.bus.remaining = none → 30 ≤ s.bus.cycle + (k + 1) → s.buildList true = [] := by
  induction k with
  | zero =>
    intro s h endless long
    have routine : s.routineFrame = true := decide_eq_true long
    obtain ⟨-, empty, -⟩ := takeDue_succ_due h endless
    rwa [routine] at empty
  | succ k ih =>
    intro s h endless long
    obtain ⟨run, empty, goes⟩ := takeDue_succ_due h endless
    by_cases routine : s.routineFrame = true
    · rwa [routine] at empty
    · rw [← buildList_beginFrame run empty line]
      refine ih goes (endlessDue_beginFrame run empty line).endless ?_
      rw [cycle_beginFrame run empty, if_neg routine]
      omega

/-- An endless run that goes on after two frames has an empty list without status reads. -/
theorem list_false_empty {k : Nat} (h : (takeDue line (k + 2) s).frameDue = true) (endless : s.bus.remaining = none) :
    s.buildList false = [] := by
  obtain ⟨run, empty, goes⟩ := takeDue_succ_due h endless
  cases routine : s.routineFrame with
  | false => rwa [routine] at empty
  | true =>
    have next := endlessDue_beginFrame run empty line
    obtain ⟨-, second, -⟩ := takeDue_succ_due goes next.endless
    have off : (beginFrame line s).routineFrame = false := by
      refine decide_eq_false ?_
      rw [cycle_beginFrame run empty, if_pos routine]
      omega
    rwa [off, buildList_beginFrame run empty] at second

/-- An endless run whose lists are empty goes on for ever. -/
theorem takeDue_endless {k : Nat} : ∀ {s : State}, EndlessDue s → s.buildList true = [] → s.buildList false = [] →
    (takeDue line k s).frameDue = true := by
  induction k with
  | zero => exact fun run _ _ => run.due
  | succ k ih =>
    intro s run full short
    have empty : s.buildList s.routineFrame = [] := by cases s.routineFrame <;> assumption
    rw [takeDue_of_due run.due]
    exact ih (endlessDue_beginFrame run empty line) ((buildList_beginFrame run empty line true).trans full)
      ((buildList_beginFrame run empty line false).trans short)

/-- A frame of a counted run after which another is due leaves one frame fewer. -/
theorem remaining_beginFrame {n : Nat} (counted : s.bus.remaining = some n)
    (due : (beginFrame line s).frameDue = true) :
    2 ≤ n ∧ (beginFrame line s).bus.remaining = some (n - 1) := by
  have empty := list_empty_of_frameDue due
  obtain ⟨-, ends, -⟩ := frameCompletes_completeFrame (buildFrame s)
  rw [← beginFrame_of_empty empty line] at ends
  obtain ⟨many, last⟩ := ends n counted
  by_cases two : 2 ≤ n
  · exact ⟨two, by rw [many two]⟩
  · have idle := (frameDue_iff.mp due).2.1
    rw [last (by omega)] at idle
    exact absurd idle (by simp)

/-- A counted run ends within its number of frames. -/
theorem takeDue_counted {k : Nat} : ∀ {s : State} {n : Nat}, s.bus.remaining = some n → max 1 n ≤ k →
    (takeDue line k s).frameDue = false := by
  induction k with
  | zero => intro s n _ le; omega
  | succ k ih =>
    intro s n counted le
    cases due : s.frameDue with
    | false => rw [takeDue_of_rest due]; exact due
    | true =>
      rw [takeDue_of_due due]
      cases next : (beginFrame line s).frameDue with
      | false => rw [takeDue_of_rest next]; exact next
      | true =>
        obtain ⟨two, left_⟩ := remaining_beginFrame counted next
        exact ih left_ (by omega)

/-- More frames than a run has change nothing. -/
theorem takeDue_of_ended {j : Nat} : ∀ {k : Nat} {s : State}, j ≤ k → (takeDue line j s).frameDue = false →
    takeDue line k s = takeDue line j s := by
  induction j with
  | zero => exact fun _ ended => takeDue_of_rest ended line _
  | succ j ih =>
    intro k s le ended
    obtain ⟨k, rfl⟩ := Nat.exists_eq_add_of_le' (Nat.one_le_of_lt le)
    cases due : s.frameDue with
    | false => rw [takeDue_of_rest due, takeDue_of_rest due]
    | true =>
      rw [takeDue_of_due due] at ended
      rw [takeDue_of_due due, takeDue_of_due due]
      exact ih (by omega) ended

/-! ## What the frames that are due come to (log 9) -/

theorem framesRun_of_ended (h : (takeDue line s.dueFrames s).frameDue = false) :
    framesRun line s = takeDue line s.dueFrames s := by
  unfold framesRun
  exact if_neg (by simp [h])

/-- A run ends within the frames counted for it when it is counted or a list is not empty. -/
theorem takeDue_ends {k : Nat} (enough : s.dueFrames ≤ k)
    (h : s.bus.remaining.isSome = true ∨ s.buildList true ≠ [] ∨ s.buildList false ≠ []) :
    (takeDue line k s).frameDue = false := by
  cases counted : s.bus.remaining with
  | some n =>
    have bound : max 1 n ≤ k := by simpa [State.dueFrames, counted] using enough
    exact takeDue_counted counted bound
  | none =>
    have long : 30 ≤ k := by simpa [State.dueFrames, counted] using enough
    obtain ⟨k, rfl⟩ := Nat.exists_eq_add_of_le' (show 2 ≤ k by omega)
    refine Bool.eq_false_iff.mpr fun goes => ?_
    rcases h with h | full | short
    · simp [counted] at h
    · exact full (list_true_empty goes counted (by omega))
    · exact short (list_false_empty goes counted)

/-- After the first of its frames a run that ends goes on as the run of the state that frame leaves. -/
theorem settleAt_beginFrame (up : s.running = true) (due : s.frameDue = true)
    (h : s.bus.remaining.isSome = true ∨ s.buildList true ≠ [] ∨ s.buildList false ≠ []) :
    settleAt line s = settleAt line (beginFrame line s) := by
  have upNext : (beginFrame line s).running = true := by simpa [State.running] using up
  have ended := takeDue_ends (line := line) (Nat.le_refl _) h
  obtain ⟨k, few⟩ : ∃ k, s.dueFrames = k + 1 := by
    refine Nat.exists_eq_add_of_le' ?_
    unfold State.dueFrames
    split <;> omega
  rw [settleAt, if_pos (by rw [State.restless, up, due]; rfl), framesRun_of_ended ended]
  rw [few, takeDue_of_due due] at ended ⊢
  cases next : (beginFrame line s).frameDue with
  | false =>
    rw [settleAt_of_rest (by simp [State.restless, next]), takeDue_of_rest next]
  | true =>
    have empty := list_empty_of_frameDue next
    have h' : (beginFrame line s).bus.remaining.isSome = true ∨ (beginFrame line s).buildList true ≠ [] ∨
        (beginFrame line s).buildList false ≠ [] := by
      cases counted : s.bus.remaining with
      | some n => exact .inl (by rw [(remaining_beginFrame counted next).2]; rfl)
      | none =>
        rw [buildList_beginFrame ⟨due, counted⟩ empty, buildList_beginFrame ⟨due, counted⟩ empty]
        exact .inr (by simpa [counted] using h)
    have endedNext := takeDue_ends (line := line) (Nat.le_refl _) h'
    rw [settleAt, if_pos (by rw [State.restless, upNext, next]; rfl), framesRun_of_ended endedNext]
    rcases Nat.le_total k (beginFrame line s).dueFrames with le | le
    · exact (takeDue_of_ended le ended).symm
    · exact takeDue_of_ended le endedNext

/-- Endless empty frames come to rest after a number of them that is a free value (log 9). -/
theorem settleAt_endless (up : s.running = true) (run : EndlessDue s) (full : s.buildList true = [])
    (short : s.buildList false = []) (line : DataLine) : settleAt line s = emptyFrames line s := by
  rw [settleAt, if_pos (by rw [State.restless, up, run.due]; rfl), framesRun]
  exact if_pos (takeDue_endless run full short)

end Sys2Proof.Machine
end

section
/-! PROOFS. The obligation about a frame that begins (6.2, 7.4). -/

namespace Sys2Proof.Machine

variable {s t u : State} {line : DataLine}

/-- The rows of a panel from its calls in the order of their keys, with the message in force (R131). -/
theorem rowsFor_spec (s : State) (r : Panel) (calls : List Call)
    (e : displayOrder s.clock.minute (s.store.displayable.filter (fun c => r.directions.admits c.direction)) = calls) :
    (2 ≤ r.rows → ∀ m, s.messageNow = some m → s.rowsFor r =
      (calls.map (Call.row s.clock.minute) ++ List.replicate r.rows Row.blank).take (r.rows - 1) ++ [Row.message m]) ∧
    (2 ≤ r.rows → s.messageNow = none → s.rowsFor r =
      (calls.map (Call.row s.clock.minute) ++ List.replicate r.rows Row.blank).take r.rows) ∧
    (r.rows ≤ 1 → ∀ c, calls.head? = some c → s.rowsFor r = [c.row s.clock.minute]) ∧
    (r.rows ≤ 1 → calls = [] → ∀ m, s.messageNow = some m → s.rowsFor r = [Row.message m]) ∧
    (r.rows ≤ 1 → calls = [] → s.messageNow = none → s.rowsFor r = [Row.blank]) := by
  have rows : s.rowsFor r = fillRows r.rows (calls.map (Call.row s.clock.minute)) s.messageNow := by
    rw [← e]
    rfl
  rw [rows]
  obtain ⟨many, full, one, message, blank⟩ :=
    fillRows_spec r.rows (calls.map (Call.row s.clock.minute)) s.messageNow
  exact ⟨many, full, fun few c first => one few _ (by rw [List.head?_map, first]; rfl),
    fun few none_ => message few (by rw [none_]; rfl), fun few none_ => blank few (by rw [none_]; rfl)⟩

theorem given_eq (s : State) (i : Fin 8) :
    ((s.panel i).entitled && (decide (s.supply.state ≠ .reserve) ||
      decide (∀ j, j < i → (s.panel j).entitled = false))) = decide (i ∈ s.rowPanels) := by
  rw [Bool.eq_iff_iff]
  simp only [Bool.and_eq_true, Bool.or_eq_true, decide_eq_true_eq, mem_rowPanels]

/-- The transactions of one panel in a frame's list (R152). -/
theorem list_of_panel (s : State) (routine : Bool) (i : Fin 8) :
    (s.buildList routine).filter (fun t => decide (t.panel = i)) =
      if (s.panel i).configured then
        (if (s.panel i).pending = .sleep then [⟨i, .sleep⟩]
         else if (s.panel i).pending = .wake then [⟨i, .wake⟩] else []) ++
        (if (s.panel i).entitled && (decide (s.supply.state ≠ .reserve) ||
            decide (∀ j, j < i → (s.panel j).entitled = false)) then
          [⟨i, .writeRows (min (s.panel i).brightness (brightnessCap s.supply.state)) (s.rowsFor (s.panel i))⟩]
         else []) ++
        (if routine = true ∧ ((s.panel i).state = .awake ∨ (s.panel i).state = .asleep) then [⟨i, .readStatus⟩]
         else []) ++
        (if s.placesProbe i then [⟨i, .readStatus⟩] else [])
      else [] := by
  rw [filter_buildList, panelTransactions_eq, given_eq]
  simp only [decide_eq_true_eq]

/-- A WRITE_ROWS of a list: its panel is entitled, its brightness capped, its rows as many as the panel has. -/
theorem writeRows_of_list {routine : Bool} {x : Transaction} {b : Nat} {rows : List Row}
    (held : x ∈ s.buildList routine) (kind : x.kind = .writeRows b rows) :
    (s.panel x.panel).state = .awake ∧ (s.panel x.panel).pending ≠ .sleep ∧
      b ≤ brightnessCap s.supply.state ∧ rows.length = max 1 (s.panel x.panel).rows := by
  have entitled := entitled_of_writeRows held kind
  simp only [Panel.entitled, decide_eq_true_eq] at entitled
  obtain ⟨-, rfl, rfl⟩ := (mem_panelTransactions (mem_buildList.mp held)).2.2 b rows kind
  exact ⟨entitled.1, entitled.2, Nat.min_le_right _ _, length_fillRows _ _ _⟩

/-- What endless empty frames leave (log 9). -/
theorem emptyFrames_spec (run : EndlessDue s) (empty : s.buildList s.routineFrame = []) (line : DataLine) :
    emptyFrames line s =
      { s with
        compositor := { s.compositor with message := s.messageNow }
        counters := (countBy .framesSent (1 + Config.emptyFrames s.draws) s).counters
        bus :=
          { s.bus with
            cause := none, tried := false, list := [], position := 0, sinceFrame := some 0
            cycle := ((if s.routineFrame then 0 else s.bus.cycle + 1) + Config.emptyFrames s.draws) % 30 }
        draws := s.draws + 1 } := by
  have twice (k : Nat) : (countBy .framesSent k (count .framesSent s)).counters =
      (countBy .framesSent (1 + k) s).counters := by
    simp only [count, countBy, Fin.getElem_fin, Vector.getElem_set_self, Vector.set_set]
    congr 1
    omega
  unfold emptyFrames
  rw [endless_frame run empty]
  dsimp only
  rw [← twice]
  rfl

/-- Settles O44: the content of a frame clause by clause, its start from `lineTested_beginFrame` or
`beginFrame_of_empty`, and the frames back to back from `settleAt_beginFrame` and `settleAt_endless`. -/
theorem frameBeginsWithList : Obligations.FrameBeginsWithList := by
  unfold Obligations.FrameBeginsWithList
  refine ⟨?_, ?_⟩
  · intro s line routine list u now shown overdue key status row probed message entitled given begun
    have m : s.messageNow = message := messageNow_eq s
    have built : buildFrame s = setBus { begun.bus with state := .running } begun := by
      simp only [begun, ← m]
      rfl
    refine ⟨m, fun i => ?_, length_buildList s routine, buildList_rising s routine,
      fun t held => (mem_panelTransactions (mem_buildList.mp held)).2.1,
      fun t held b rows kind => writeRows_of_list held kind, fun some_ => ?_, fun none_ => ?_⟩
    · intro r serves
      refine ⟨displayOrder now (shown.filter serves), s.rowsFor r, displayOrder_perm _ _,
        (displayOrder_ordered _ _).imp showsBefore_iff.mp, ?_, list_of_panel s routine i⟩
      have admitted : (fun c : Call => r.directions.admits c.direction) = serves :=
        funext fun c => admits_eq r.directions c.direction
      rw [← m]
      exact rowsFor_spec s r _ (by rw [admitted]; rfl)
    · have tested := lineTested_beginFrame some_ line
      rw [built] at tested
      exact lineTested_of_state tested
    · have done := frameCompletes_completeFrame (buildFrame s)
      rw [← beginFrame_of_empty none_ line, built] at done
      exact frameCompletes_of_state done
  · intro s due
    have due_iff : s.restless = true ↔ due := by
      simp only [State.restless, State.running, Bool.and_eq_true, decide_eq_true_eq, frameDue_iff, backToBack_iff]
      grind
    refine ⟨fun rest => ?_, fun now => ?_⟩
    · have still : s.restless = false := by simpa using mt due_iff.mp rest
      exact ⟨settle_of_rest still, settleAt_of_rest still⟩
    · have restless := due_iff.mpr now
      obtain ⟨up, start⟩ : s.running = true ∧ s.frameDue = true := by
        simpa [State.restless] using restless
      refine ⟨⟨s.ownLine, ?_⟩, fun line => ⟨settleAt_beginFrame up start, fun endless full short => ?_⟩⟩
      · rw [settle, settleAt, if_pos restless]
        exact (if_pos restless).symm
      · have run : EndlessDue s := ⟨start, endless⟩
        have empty : s.buildList s.routineFrame = [] := by cases s.routineFrame <;> assumption
        intro u
        have e : u = _ := (settleAt_endless up run full short line).trans (emptyFrames_spec run empty line)
        clear_value u
        subst e
        refine ⟨Config.emptyFrames s.draws, counter_countBy_self .., fun c other =>
          counter_countBy_of_ne _ s (by simpa using other), rfl, rfl,
          Nat.mod_lt _ (by decide), rfl, ?_⟩
        exact changesOnly_iff.mpr (by simp)

end Sys2Proof.Machine
end

section
/-! PROOFS. What the starts and the dip do to each block (R4, R71, R122, R123, R142, R165, R177, R201, R202). -/

namespace Sys2Proof.Machine

variable {s w : State} {line : DataLine} {c : CoreSupply}

/-! ## The core domain begun afresh, with the retention domain kept (R4) -/

/-- The blocks of a state whose core domain has begun afresh from `s`, with the closure reasons, the entries and the
counters, which a START entry may change, and the notices set aside. -/
structure CoreAfresh (s w : State) : Prop where
  clock : w.clock = s.clock
  store : w.store = { s.store with staging := none }
  detector : w.detector = s.detector.lost
  fares : w.fares = s.fares
  revoked : w.revoked = s.revoked
  scheduler : w.scheduler = .initial
  sales : w.sales = { s.sales.lost with reasons := w.sales.reasons }
  batch : w.journal.batch = none
  nextBatch : w.journal.nextBatch = s.journal.nextBatch
  compositor : w.compositor =
    { s.compositor.lost with idle := some (60 * max 1 (s.compositor.sleepAfter / 2)) }
  bus : w.bus = s.bus.lost
  supply : w.supply = s.supply.lost
  ports : ∀ p, w.ports.get p = { (s.ports.get p).lost with notices := (w.ports.get p).notices }
  draws : w.draws = s.draws
  pending : w.pending = s.pending

theorem coreAfresh_coreLost (s : State) (c : CoreSupply) : CoreAfresh s (coreLost { s with core := c }) where
  clock := rfl
  store := rfl
  detector := rfl
  fares := rfl
  revoked := rfl
  scheduler := rfl
  sales := rfl
  batch := rfl
  nextBatch := rfl
  compositor := rfl
  bus := rfl
  supply := rfl
  ports p := by cases p <;> rfl
  draws := rfl
  pending := rfl

theorem panel_warm (s : State) (i : Fin 8) : s.compositor.lost.panels[i] = (s.panel i).warm := by
  simp [State.panel, Compositor.lost, mapPanels]

theorem CoreAfresh.panel (h : CoreAfresh s w) (i : Fin 8) : w.panel i = (s.panel i).warm := by
  rw [State.panel, h.compositor]
  exact panel_warm s i

/-! ## The beginning of a warm start -/

/-- The state whose reasons a warm start rebuilds: START(WARM) has been asked for. -/
def warmAppended (s : State) : State := append (.start .warm) (coreLost { s with core := .up })

theorem warmBegun_eq (s : State) : warmBegun s = startUpload (restarted (rebuildReasons (warmAppended s))) := rfl

theorem warmBegun_journal (s : State) : (warmBegun s).journal = (warmAppended s).journal := by
  simp [warmBegun_eq]

theorem warmBegun_counters (s : State) : (warmBegun s).counters = (warmAppended s).counters := by
  simp [warmBegun_eq]

theorem warmBegun_sales (s : State) :
    (warmBegun s).sales = { (warmAppended s).sales with reasons := (warmAppended s).rebuiltReasons } := by
  simp [warmBegun_eq, rebuildReasons]

theorem portsKeptButNotices_restarted (s : State) : portsKeptButNotices s (restarted s) :=
  portsKeptButNotices.trans (fun p => by cases p <;> rfl) (portsKeptButNotices_post .restarted _)

theorem portsKeptButNotices_startUpload (s : State) : portsKeptButNotices s (startUpload s) := by
  unfold startUpload
  split
  · exact portsKeptButNotices_post .uploadDue s
  · exact portsKeptButNotices_refl s

theorem warmBegun_ports (s : State) : portsKeptButNotices (coreLost { s with core := .up }) (warmBegun s) :=
  ((portsKeptButNotices_append (.start .warm) (coreLost { s with core := .up })).trans
    (portsKeptButNotices_of_eq (t := rebuildReasons (warmAppended s)) rfl)).trans
    ((portsKeptButNotices_restarted _).trans (portsKeptButNotices_startUpload _))

theorem warmAppended_batch (s : State) :
    (warmAppended s).journal.batch = none ∧ (warmAppended s).journal.nextBatch = s.journal.nextBatch := by
  rw [warmAppended, append_journal]
  split <;> exact ⟨rfl, rfl⟩

theorem coreAfresh_warmBegun (s : State) : CoreAfresh s (warmBegun s) := by
  have lost := coreAfresh_coreLost s .up
  obtain ⟨batch, nextBatch⟩ := warmAppended_batch s
  have changed : changesOnly [.sales, .journal, .counters, .ports] (coreLost { s with core := .up }) (warmBegun s) :=
    changesOnly_iff.mpr (by simp [warmBegun_eq, warmAppended])
  exact {
    clock := changed.2 .clock (by decide)
    store := changed.2 .store (by decide)
    detector := changed.2 .detector (by decide)
    fares := changed.2 .fares (by decide)
    revoked := changed.2 .revoked (by decide)
    scheduler := changed.2 .scheduler (by decide)
    sales := by
      rw [warmBegun_sales, warmAppended, append_sales_eq]
      rfl
    batch := by rw [warmBegun_journal, batch]
    nextBatch := by rw [warmBegun_journal, nextBatch]
    compositor := (changed.2 .compositor (by decide) : _ = _).trans lost.compositor
    bus := changed.2 .bus (by decide)
    supply := changed.2 .supply (by decide)
    ports := fun p => by rw [warmBegun_ports s p, lost.ports p]
    draws := changed.2 .draws (by decide)
    pending := changed.1 }

theorem free_lost (s : State) : (coreLost { s with core := c }).journal.free = s.journal.free := by
  simp [coreLost, startIdle, Journal.free, Journal.returned]

/-- The journal and the counters of a warm start with room for its entry (R102). -/
theorem warmBegun_of_room (room : 3 ≤ s.journal.free) :
    (warmBegun s).journal.entries =
        s.journal.entries.map (Entry.as .unsent) ++ [newEntry (.start .warm) s] ∧
      (warmBegun s).journal.nextSequence = s.journal.nextSequence + 1 ∧ (warmBegun s).counters = s.counters := by
  have room : (EntryKind.start .warm).room ≤ (coreLost { s with core := .up }).journal.free := by
    rw [free_lost]
    exact room
  refine ⟨?_, ?_, ?_⟩
  · rw [warmBegun_journal, warmAppended, append_entries_of_room room]
    rfl
  · rw [warmBegun_journal, warmAppended, append_journal, if_neg (Nat.not_lt.mpr room)]
    rfl
  · rw [warmBegun_counters, warmAppended, append_counters_of_room room]
    rfl

/-- The same without room: the entry is dropped and counted (R104). -/
theorem warmBegun_of_no_room (full : s.journal.free < 3) :
    (warmBegun s).journal.entries = s.journal.entries.map (Entry.as .unsent) ∧
      (warmBegun s).journal.nextSequence = s.journal.nextSequence ∧
      (warmBegun s).counter .journalDropped = s.counterPlus .journalDropped 1 ∧
      countsOnly [.journalDropped] s (warmBegun s) := by
  have full : (coreLost { s with core := .up }).journal.free < (EntryKind.start .warm).room := by
    rw [free_lost]
    exact full
  have journal : (warmBegun s).journal = s.journal.returned := by
    rw [warmBegun_journal, warmAppended, append_journal_of_no_room full]
    rfl
  have counters : (warmBegun s).counters = (count .journalDropped s).counters := by
    rw [warmBegun_counters, warmAppended, append_of_no_room full]
    rfl
  refine ⟨by rw [journal]; rfl, by rw [journal]; rfl, ?_, fun c other => ?_⟩
  · rw [counter_of_counters counters]
    exact counter_countBy_self _ 1 s
  · rw [counter_of_counters counters]
    exact counter_countBy_of_ne 1 s (by simpa using other)

/-- No entry is left IN_FLIGHT by a start (R98). -/
theorem unsent_warmBegun (s : State) {e : Entry} (held : e ∈ (warmBegun s).journal.entries) : e.state = .unsent := by
  have returned {x : Entry} (h : x ∈ s.journal.entries.map (Entry.as .unsent)) : x.state = .unsent := by
    obtain ⟨y, -, rfl⟩ := List.mem_map.mp h
    rfl
  by_cases room : 3 ≤ s.journal.free
  · rw [(warmBegun_of_room room).1, List.mem_append, List.mem_singleton] at held
    rcases held with held | rfl
    · exact returned held
    · rfl
  · rw [(warmBegun_of_no_room (by omega)).1] at held
    exact returned held

/-! ## The reasons rebuilt (R71) -/

theorem mem_rebuiltReasons (s : State) :
    (.noTime ∈ s.rebuiltReasons ↔ s.clock.valid = false) ∧
      (.noFares ∈ s.rebuiltReasons ↔ s.fares.loaded = false) ∧
      (.stockEmpty ∈ s.rebuiltReasons ↔ s.sales.remaining = 0) ∧
      (.journalFull ∈ s.rebuiltReasons ↔ s.journal.free < 2) ∧ .supplyReserve ∉ s.rebuiltReasons ∧
      (.suspended ∈ s.rebuiltReasons ↔ .suspended ∈ s.sales.reasons) := by
  simp [State.rebuiltReasons, Reason.mem_all]

theorem reasons_warmBegun (s : State) :
    (.noTime ∈ (warmBegun s).sales.reasons ↔ s.clock.valid = false) ∧
      (.noFares ∈ (warmBegun s).sales.reasons ↔ s.fares.loaded = false) ∧
      (.stockEmpty ∈ (warmBegun s).sales.reasons ↔ s.sales.remaining = 0) ∧
      (.journalFull ∈ (warmBegun s).sales.reasons ↔ (warmBegun s).journal.free < 2) ∧
      .supplyReserve ∉ (warmBegun s).sales.reasons ∧
      (.suspended ∈ (warmBegun s).sales.reasons ↔ .suspended ∈ s.sales.reasons) := by
  obtain ⟨time, fares, stock, full, reserve, suspended⟩ := mem_rebuiltReasons (warmAppended s)
  have clock : (warmAppended s).clock = s.clock := by simp [warmAppended, coreLost, startIdle]
  have loaded : (warmAppended s).fares = s.fares := by simp [warmAppended, coreLost, startIdle]
  have blocks : (warmAppended s).sales.remaining = s.sales.remaining := by
    rw [warmAppended, append_sales_eq]
    rfl
  have kept : .suspended ∈ (warmAppended s).sales.reasons ↔ .suspended ∈ s.sales.reasons :=
    mem_reasons_append (by decide) _ _
  rw [warmBegun_sales, warmBegun_journal]
  rw [clock] at time
  rw [loaded] at fares
  rw [blocks] at stock
  exact ⟨time, fares, stock, full, reserve, suspended.trans kept⟩

/-! ## The notices of a warm start (R122, R202) -/

theorem hasNotice_restarted {p : Port} {k : Notice} : (restarted s).hasNotice p k ↔ k = .restarted := by
  rw [restarted, hasNotice_post]
  cases p <;> simp [State.hasNotice, PerPort.get, PerPort.imap, Notice.recipients]

/-- The link port is ready at a start exactly when an entry is held: the scheduler is DUE and no batch in flight. -/
theorem linkReady_restart (s : State) :
    (restarted (rebuildReasons (warmAppended s))).linkReady = true ↔ (warmBegun s).journal.entries ≠ [] := by
  have journal : (restarted (rebuildReasons (warmAppended s))).journal = (warmBegun s).journal := by
    simp [warmBegun_eq]
  have due : (restarted (rebuildReasons (warmAppended s))).scheduler.state = .due := by
    simp [warmAppended, coreLost, startIdle, Scheduler.initial]
  have unsent : (warmBegun s).journal.unsent = (warmBegun s).journal.entries :=
    List.filter_eq_self.mpr fun e held => decide_eq_true (unsent_warmBegun s held)
  have batch := (coreAfresh_warmBegun s).batch
  rw [State.linkReady, State.takePermitted, due, journal, unsent, batch]
  simp

theorem hasNotice_warmBegun {p : Port} {k : Notice} : (warmBegun s).hasNotice p k ↔
    k = .restarted ∨ (p = .link ∧ k = .uploadDue ∧ (warmBegun s).journal.entries ≠ []) := by
  rw [← linkReady_restart, warmBegun_eq, startUpload]
  split
  next ready =>
    rw [hasNotice_post, hasNotice_restarted]
    simp [Notice.recipients, ready]
  next rest =>
    rw [hasNotice_restarted]
    simp [rest]

/-! ## The rest of a warm start -/

theorem resumeFrames_of_still (h : s.bus.runMark = false ∨ s.bus.pacing = .trigger) (line : DataLine) :
    resumeFrames line s = s := by
  unfold resumeFrames startFrames
  rcases h with off | trigger
  · exact if_neg (by simp [off])
  · rw [trigger]
    exact ite_self _

theorem resumeFrames_of_interval (run : s.bus.runMark = true) (pacing : s.bus.pacing = .interval)
    (timed : s.intervalInForce ≠ 0) (line : DataLine) :
    resumeFrames line s = beginFrame line (setBus { s.bus with frameTimer := some s.intervalInForce } s) := by
  unfold resumeFrames startFrames
  rw [if_pos run, pacing]
  exact if_neg timed

theorem intervalFor_economy_ne (n : Nat) : intervalFor n .economy ≠ 0 := by
  change (if n = 0 then 4 else min (4 * n) 60) ≠ 0
  split <;> omega

theorem initialConcessions_eq (i : Fin 8) :
    initialConcessions[i] = ⟨0, if i = 0 then .all else .adults⟩ := by
  revert i
  decide

/-- Settles O52: a cold start by its Init values, the beginning of a warm start by `coreAfresh_warmBegun` and what it
does to the journal, the reasons and the notices, and a dip by `coreAfresh_coreLost`. -/
theorem startsSetEveryBlock : Obligations.StartsSetEveryBlock := by
  unfold Obligations.StartsSetEveryBlock
  intro freshTreadle freshSales idleScheduler held kept
  have kept_of {s w : State} (h : CoreAfresh s w) : kept s w := by
    refine ⟨h.clock, h.store, h.detector, h.fares, h.revoked, h.scheduler, h.sales, h.batch, h.nextBatch, ?_,
      fun i => ⟨fun set_ => ?_, fun unset => ?_⟩, h.bus, h.supply, h.ports, h.draws, h.pending⟩
    · rw [h.compositor]
      rfl
    · rw [h.panel i, Panel.warm, if_pos set_]
    · rw [h.panel i, Panel.warm, if_neg (by simp [unset])]
  refine ⟨fun s => ?_, fun s line => ?_, fun s => ⟨fun down => ?_, fun up => ?_⟩⟩
  · refine ⟨coldStarted s, rfl, rfl, rfl, rfl, rfl, fun i => ?_, fun i => ?_, rfl, rfl, rfl, rfl, rfl, rfl, ?_,
      fun i => ?_, fun i => ?_, rfl, rfl, rfl, rfl, fun i => ?_, rfl, rfl, rfl, fun c => ?_, rfl, rfl, rfl⟩
    · simp [coldStarted, State.reset]
    · simp [coldStarted, State.reset]
    · exact initialConcessions_eq
    · simp [coldStarted, State.reset]
    · simp [coldStarted, State.reset]
    · simp [coldStarted, State.reset, State.panel, Panel.initial]
    · simp [coldStarted, State.reset, State.counter]
  · have begun := coreAfresh_warmBegun s
    refine ⟨warmBegun s, by simp [warmBegun_eq, warmAppended, coreLost, startIdle], kept_of begun, warmBegun_of_room,
      warmBegun_of_no_room, ?_⟩
    obtain ⟨time, fares, stock, full, reserve, suspended⟩ := reasons_warmBegun s
    refine ⟨time, fares, stock, full, reserve, suspended, fun p k => hasNotice_warmBegun, ?_⟩
    intro b v
    have bounded : startBoundary (warmBegun s) = b := by
      rw [startBoundary, begun.store, begun.clock]
    have clock : b.clock.valid = s.clock.valid := by
      rw [← bounded, startBoundary]
      split <;> simp [begun.clock]
    have ticked : startTick (startBoundary (warmBegun s)) = v := by
      rw [bounded, startTick, clock]
    have start : exec (.warmStart line) s = .next (resumeFrames line v) := by
      rw [← ticked]
      rfl
    have bus : v.bus = s.bus.lost := by rw [← ticked, warmRestart_bus]
    rw [start]
    refine ⟨fun still => ?_, fun run pacing => ?_⟩
    · rw [resumeFrames_of_still (by rw [bus]; exact still)]
    · have supply : v.supply = s.supply.lost := by
        rw [← ticked]
        simpa using begun.supply
      have inForce : v.intervalInForce = intervalFor s.bus.interval .economy := by
        rw [State.intervalInForce, bus, supply]
        rfl
      rw [resumeFrames_of_interval (by rw [bus]; exact run) (by rw [bus]; exact pacing)
        (by rw [inForce]; exact intervalFor_economy_ne _), inForce]
      rfl
  · have rests : dip s = s := if_neg (by simp [State.running, down])
    exact congrArg _ rests
  · have e : dip s = coreLost { s with core := .down } := if_pos (by simp [State.running, up])
    refine ⟨coreLost { s with core := .down }, congrArg _ e, rfl, kept_of (coreAfresh_coreLost s .down), rfl, rfl, rfl,
      fun p k => ?_⟩
    cases p <;> simp [State.hasNotice, coreLost, startIdle, PortControl.lost, PortControl.initial, PerPort.get, PerPort.imap]

end Sys2Proof.Machine
end
